-- ==== Sys2Proof/Word.lean ====
section
/-! DEFINITION. The word types of the part's ports and formats: a byte of memory, a 16-bit index or field, and the
32-bit word of the host and memory busses (scope file, Memory). -/
namespace Sys2Proof

/-- One byte. -/
abbrev Byte := BitVec 8

/-- A 16-bit index or field; ring indexes count modulo 65536. -/
abbrev Half := BitVec 16

/-- A 32-bit bus word, a bus address, or a value of the 32-bit millisecond counter. -/
abbrev Word := BitVec 32

end Sys2Proof
end

