-- ==== Sys2Proof/Syntax.lean ====
section
/-! DEFINITION. The commands of the CP-24: one constructor of `Instr` for each row of spec/opcode_table.json, with the
levels, words and transactions the step reads from outside the part as its operands. The table gives no bits to any row. -/
namespace Sys2Proof

/-- A side of the cradle: V the left page, R the right page. -/
inductive Side where
  | v | r
  deriving DecidableEq, Repr

/-- One of the two encoder heads. -/
inductive Head where
  | a | b
  deriving DecidableEq, Repr

/-- One of the two move engines. -/
inductive Engine where
  | arm | platen
  deriving DecidableEq, Repr

/-- The reading of a three-level profile pin (R175): low 0, high 1, open 2. -/
inductive Level where
  | low | high | floating
  deriving DecidableEq, Repr

/-- The levels of the three platen switches at a step (R45): true is closed. -/
structure Switches where
  down : Bool
  up : Bool
  contact : Bool
  deriving DecidableEq, Repr

/-- One word of a write: four data bytes, byte 0 in bits 7 to 0, and a byte enable for each (bit i for byte i). -/
structure BusWord where
  data : Word
  be : BitVec 4
  deriving DecidableEq, Repr

/-- A transaction of either port (section 9.1): a start address and, for a read, its length in words. -/
inductive Transaction where
  | read (start : Word) (len : Nat)
  | write (start : Word) (words : List BusWord)
  deriving DecidableEq, Repr

/-- The commands. A ticket row stands for one examination of the ticket at the head of the fetched queue (R33); an
event row stands for the event its summary names. A step that can begin a platen move carries the three switches it
samples; a press carries how long its line was released before it. -/
inductive Instr where
  | openVolume
  | select
  | park
  | close
  | manual
  | skip
  | turn (sw : Switches)
  | capture
  | advance (sw : Switches)
  | light
  | halt
  | quiet
  | clear
  | configure
  | restart (prof1 prof0 : Level)
  | postWordWrite
  | fetch
  | ticketArrival
  | stopPress (released : Nat)
  | resumePress (released : Nat) (sw : Switches)
  | moveStep (engine : Engine) (sw : Switches)
  | gripTimer (leaf multi : Bool) (sw : Switches)
  | gripReleaseWait
  | sweepLeafRead (leaf : Bool) (sw : Switches)
  | releaseTimer (sw : Switches)
  | settleTimer
  | homingLimit
  | sampleRound
  | lampPollDue (side : Side)
  | encoderSampleReply (inWord : Half) (sw : Switches)
  | lampPollReply (inWord : Half)
  | lampLoadReply (inWord : Half)
  | captureAcquisition
  | fireGate
  | parkWaitExpiry
  | strobeRaise
  | strobeEnd
  | strobeCut
  | upstreamTransaction (t : Transaction)
  | upstreamWrite
  | frameTimeout (window : Nat)
  | accountWriteServed
  | accountClosingRead
  | returnClosingRead
  | returnWriteServed
  | statusWriteServed
  | statusPeriod
  | attendTonePeriod
  | chirpEnd
  | resetnAssert
  | resetnRelease (powerOn : Bool)
  | powerSettlingEnd (prof1 prof0 : Level)
  | eepromReadAttempt (reply : Option (List Byte))
  | eepromRetryWait
  | profileCheck (prof1 prof0 : Level)
  | configureImageRead
  | storeByteAck
  | storeByteTimeout
  | storeReadback (reply : Option (List Byte))
  | restartTakeEffect
  deriving DecidableEq, Repr

end Sys2Proof
end

