-- ==== Sys2Proof/Config.lean ====
section
/-! DEFINITION. What the spec leaves open for the part to fix: free values, constants without a body, of which nothing
can be proved. -/
namespace Sys2Proof

/-- R151: when entries of several blocks wait for room in the internal request queue as its head leaves, any of them may
take the freed place. `roomPick n` is the part's n-th such choice; the model reduces it modulo the number of blocks that
wait. Free value (notes/assumptions/8.md). -/
opaque Config.roomPick : Nat → Nat

/-- Section 12.4 gives the chirp option 1 for on and 0 for off and says nothing of other bytes, and R171 checks none.
`chirpOther b` is what the part takes byte `b` to mean when it is neither. Free value (notes/assumptions/9.md). -/
opaque Config.chirpOther : Byte → Bool

end Sys2Proof
end

