-- ==== Sys2Proof/Machine/State.lean ====
section
/-! DEFINITION. The state of the CP-24, one record for each block of Table 0-2, the reasons a step can stop, and the
machine right after a full reset. -/
namespace Sys2Proof.Machine

/-! ## Names the spec numbers -/

/-- R170: the startup states, 0 to 4. -/
inductive Startup where
  | resetHeld | powerSettling | loading | ready | bare
  deriving DecidableEq, Repr

/-- R170: the causes of the last reset, 0 to 2. -/
inductive ResetCause where
  | powerOn | resetn | warmRestart
  deriving DecidableEq, Repr

/-- Table 4-1: the arm states, 0 to 11. -/
inductive ArmState where
  | idle | homing | lowering | reaching | gripping | sweeping | releasing | returning | raising | settling
  | halted | faulted
  deriving DecidableEq, Repr

/-- The fifteen ticket kinds of Table 12-2. -/
inductive Kind where
  | openVolume | select | park | close | manual | skip | turn | capture | advance | light | halt | quiet | clear
  | configure | restart
  deriving DecidableEq, Repr

/-- Table 2-3: the outcome codes, 0 to 24. -/
inductive OutcomeCode where
  | done | incomplete | halted | badKind | badField | notReady | busy | noVolume | duplicate | tableFull
  | atStart | atEnd | noLeaf | doubleLeaf | leafDropped | armFault | mechLocked | noPosition | overlap | allowance
  | lampFault | lampHot | mapBusy | settingsBad | storeFailed
  deriving DecidableEq, Repr

/-- Table 10-1: the events, 1 to 19. -/
inductive EventCode where
  | stopPressed | resumePressed | headDown | headUp | headWarn | split | slip | platen | unpressed | lampFault
  | lampWarm | lampHot | postFault | foreignWrite | guardHit | accountFull | returnOverrun | profileChanged | state
  deriving DecidableEq, Repr

/-- Table 10-2: the fifteen latched faults, in the order of their status bits. -/
inductive LatchedFault where
  | profileChanged | postFault | foreignWrite | returnOverrun | headADown | headBDown | split | slip | platen
  | lampV | lampR | lampHot | accountFull | settingsMap | settingsMech
  deriving DecidableEq, Repr

/-- R21: the reason of an exception entry. -/
inductive ExceptionReason where
  | skipped | lost | disordered | cut
  deriving DecidableEq, Repr

/-- R112, R113: the status with which a frame ends. -/
inductive FrameStatus where
  | complete | disordered | cut | lost
  deriving DecidableEq, Repr

/-- Table 5-2: the kinds of bar failure, 1 to 5. -/
inductive FailKind where
  | openString | short | selfOvertemp | noReply | echo
  deriving DecidableEq, Repr

/-- R81: the bar states; a failed bar keeps the kind under which it failed, for the event of R85. -/
inductive BarState where
  | ready | warm | hot | failed (kind : FailKind)
  deriving DecidableEq, Repr

/-- Something held once per side. -/
structure PerSide (α : Type) where
  v : α
  r : α
  deriving DecidableEq, Repr

/-- Something held once per encoder head. -/
structure PerHead (α : Type) where
  a : α
  b : α
  deriving DecidableEq, Repr

/-! ## Settings unit (Chapter 11) -/

/-- R155, Table 12-10: the map section: the places and capacities of the five regions, and the chirp option. -/
structure MapSettings where
  ticketBase : Nat
  postWord : Nat
  returnBase : Nat
  accountBase : Nat
  statusBase : Nat
  nt : Nat
  nr : Nat
  na : Nat
  chirp : Bool
  deriving DecidableEq, Repr

/-- R120: a patch rectangle. -/
structure Patch where
  x0 : Nat
  y0 : Nat
  pw : Nat
  ph : Nat
  deriving DecidableEq, Repr

/-- Table 12-10: the mechanism section. Times are in ms; temperatures are kept as °C + 40, as stored. -/
structure MechSettings where
  armLadder : List Nat
  platenLadder : List Nat
  spr : Nat
  platenMax : Nat
  park : Nat
  pickup : Nat
  drop : Nat
  parkWindow : Nat
  slipTolerance : Nat
  splitTolerance : Nat
  linkRate : Nat
  bOffset : Nat
  gripTime : Nat
  releaseTime : Nat
  settleTime : Nat
  gripRetries : Nat
  frameTimeout : Nat
  dMin : Nat
  dMax : Nat
  clipLevel : Nat
  warnTemp : Nat
  errorTemp : Nat
  patchV : Patch
  patchR : Patch
  deriving DecidableEq, Repr

/-- R170: where a section of the working settings came from. -/
inductive Origin where
  | eeprom | configureImage | profileDefaults | defaultMap
  deriving DecidableEq, Repr

/-- R170: a set of settings, each section with its origin. -/
structure Settings where
  map : MapSettings
  mapOrigin : Origin
  mech : MechSettings
  mechOrigin : Origin
  deriving DecidableEq, Repr

/-- The section of the image that LOADING is reading (R173). -/
inductive SectionName where
  | mapSection | mechSection
  deriving DecidableEq, Repr

/-- R172, R173: LOADING in progress: the section being read, the read attempts of it that have failed, the end of a
10 ms wait between attempts, and the good map section once the reading has passed on to the mechanism section. -/
structure Loading where
  reading : SectionName
  failed : Nat
  retryAt : Option Word
  map : Option MapSettings
  deriving DecidableEq, Repr

/-- R177, R178: what a CONFIGURE in flight is doing: reading its image (with the bytes delivered so far), writing the
byte at `offset` to the EEPROM, to be acknowledged within 20 ms of `since`, or reading the EEPROM back. -/
inductive ConfigurePhase where
  | reading (bytes : List Byte)
  | storing (offset : Nat) (since : Word)
  | readback
  deriving DecidableEq, Repr

/-- R177: the CONFIGURE in flight. -/
structure Configure where
  tag : Half
  store : Bool
  phase : ConfigurePhase
  deriving DecidableEq, Repr

/-- R180: the candidate of a RESTART, with the faults of Table 11-2 that its loading found. -/
structure Candidate where
  settings : Settings
  profile : Nat
  mapBad : Bool
  mechBad : Bool
  deriving DecidableEq, Repr

/-- R180: a RESTART with RELOAD in flight: its tag, the startup state it left, the candidate profile, and the candidate
settings once LOADING has read both sections. -/
structure Restart where
  tag : Half
  leftFrom : Startup
  profile : Nat
  candidate : Option Candidate
  deriving DecidableEq, Repr

/-- R172, R178: what the settings unit, the I2C controller, does on its link with the device of an address: it reads
bytes in order from a byte address, writes one byte at a byte address, or polls the device until it acknowledges. -/
inductive I2cTransfer where
  | read (device : BitVec 7) (byteAddress : Byte) (count : Nat)
  | write (device : BitVec 7) (byteAddress : Byte) (data : Byte)
  | poll (device : BitVec 7)
  deriving DecidableEq, Repr

/-- R170: the settings unit. `settleUntil` ends POWER_SETTLING (R173); `profileDue` is the next comparison of R176;
`i2c` records the transfers begun on the I2C link, oldest first (notes/assumptions/34.md). -/
structure SettingsUnit where
  startup : Startup
  cause : ResetCause
  working : Option Settings
  pendingImage : Option (List Byte)
  profile : Nat
  lock : Bool
  settleUntil : Word
  loading : Option Loading
  configure : Option Configure
  restart : Option Restart
  profileDue : Word
  i2c : List I2cTransfer
  deriving DecidableEq, Repr

/-! ## Ticket unit (Chapter 2) -/

/-- A fetched ticket: its ring index and its 64 bytes. -/
structure Ticket where
  index : Half
  bytes : List Byte
  deriving DecidableEq, Repr

/-- R25, R31: the ticket unit. `outstanding` is how many tickets of the fetch under way have not arrived; `discarding`
says that those that still arrive are discarded behind a RESTART; `barrier` is the RESTART barrier. -/
structure TicketUnit where
  producer : Half
  fetchIndex : Half
  taken : Half
  queue : List Ticket
  outstanding : Nat
  discarding : Bool
  barrier : Bool
  deriving DecidableEq, Repr

/-! ## Volume table (Chapter 1) -/

/-- R21: an entry of an exception list. -/
structure ExceptionEntry where
  leaf : Nat
  side : Side
  reason : ExceptionReason
  deriving DecidableEq, Repr

/-- R3, Table 1-2: the fields of a volume entry. -/
structure Volume where
  shelfMark : List Byte
  leafCount : Option Nat
  opening : Nat
  take : Nat
  nextSequence : Word
  chain : Word
  allowance : Nat
  doseUsed : Nat
  target : Nat
  exposure : Nat
  drive : PerSide Nat
  regulation : Bool
  unpressed : Bool
  captureCount : Nat
  exceptions : List ExceptionEntry
  overfull : Bool
  openedAt : Word
  deriving DecidableEq, Repr

/-- R1: the volume table: eight entries, none where FREE, and which of them is ACTIVE; the others are PARKED. -/
structure VolumeTable where
  entries : List (Option Volume)
  active : Option Nat
  deriving DecidableEq, Repr

/-! ## Account writer (Chapter 8) -/

/-- R129: the account writer; `posted` and `readMarks` list the slots whose mark is set. -/
structure AccountUnit where
  producer : Half
  consumer : Half
  postedProducer : Half
  reserved : Nat
  posted : List Nat
  readMarks : List Nat
  deriving DecidableEq, Repr

/-! ## Return writer (Chapter 10) -/

/-- R158: a return record, timestamped when it is handed over. `letter` is the head or side of Table 12-3. -/
inductive ReturnRecord where
  | completion (kind : Nat) (tag : Half) (outcome : OutcomeCode) (slot : Nat) (detail : Nat) (time : Word)
  | event (code : EventCode) (letter : Nat) (detail : Nat) (time : Word)
  deriving DecidableEq, Repr

/-- R167: the tone output: silent, a chirp until a time, or the ATTEND pattern, on or off until a time. -/
inductive Tone where
  | silent
  | chirp (until_ : Word)
  | attend (on : Bool) (until_ : Word)
  deriving DecidableEq, Repr

/-- R157, R163, R166, R167: the return writer. `statusWaiting`: a status block write is in the internal request queue;
`statusAgain`: the shadow has changed since; `statusPlacedAt`: when the last such write was placed. -/
structure ReturnUnit where
  producer : Half
  postedProducer : Half
  consumer : Half
  posted : List Nat
  readMarks : List Nat
  queue : List ReturnRecord
  overruns : Nat
  overrunPending : Bool
  latched : List LatchedFault
  statusWaiting : Bool
  statusAgain : Bool
  statusPlacedAt : Word
  tone : Tone
  deriving DecidableEq, Repr

/-! ## Motion unit (Chapter 3) -/

/-- R39: the ramp of a move in flight: requested steps, the move's top rung, the current rung, the steps taken, the
steps taken at the current rung since it was last changed, and whether a hard stop has been ordered (R44). -/
structure Ramp where
  requested : Nat
  top : Nat
  rung : Nat
  taken : Nat
  atRung : Nat
  stopOrdered : Bool
  deriving DecidableEq, Repr

/-- R39: a move of the ARM engine: its direction, positive or negative, and its ramp. -/
structure ArmMove where
  positive : Bool
  ramp : Ramp
  deriving DecidableEq, Repr

/-- R39: a move until limit of the PLATEN engine: DOWN seeks the DOWN switch, UP seeks CONTACT or UP (R45). -/
structure PlatenMove where
  down : Bool
  ramp : Ramp
  deriving DecidableEq, Repr

/-- R42: how a move ends. -/
inductive EndKind where
  | count | limit | max | stopped
  deriving DecidableEq, Repr

/-- R42: the end report of a move of the ARM engine: the end kind and the steps taken. -/
structure ArmEnd where
  kind : EndKind
  taken : Nat
  deriving DecidableEq, Repr

/-- R42: the end report of a move of the PLATEN engine: the end kind, the steps taken, and the switches as last
sampled. -/
structure PlatenEnd where
  kind : EndKind
  taken : Nat
  switches : Switches
  deriving DecidableEq, Repr

/-- The motion unit: each engine IDLE (none) or RUNNING a move, the platen switches as last sampled, and the end report
each engine made last (R42). -/
structure MotionUnit where
  arm : Option ArmMove
  platen : Option PlatenMove
  switches : Switches
  armEnd : Option ArmEnd
  platenEnd : Option PlatenEnd
  deriving DecidableEq, Repr

/-! ## Sensor link and position unit (Chapter 3) -/

/-- R48, R51: an encoder sample request, with the number and the due time of the round that placed it. -/
structure SampleRequest where
  round : Nat
  time : Word
  deriving DecidableEq, Repr

/-- R48, R92: the needs one pending POLL of a bar serves: the routine schedule, the verification of a LOAD, or both. -/
structure PollNeed where
  routine : Bool
  verify : Bool
  deriving DecidableEq, Repr

/-- R47: the exchange under way on the sensor link. -/
inductive Exchange where
  | load (side : Side) (code : Nat)
  | sample (head : Head) (request : SampleRequest)
  | poll (side : Side)
  deriving DecidableEq, Repr

/-- R48, R49: the sensor link: its pending requests, the exchange under way, and whether that one's in-word is to be
discarded. -/
structure SensorLink where
  loads : PerSide (Option Nat)
  samples : PerHead (Option SampleRequest)
  polls : PerSide PollNeed
  exchange : Option Exchange
  discard : Bool
  deriving DecidableEq, Repr

/-- An angle with the sample time it comes from. -/
structure Fix where
  angle : Nat
  time : Word
  deriving DecidableEq, Repr

/-- R50: what the position unit holds per head. -/
structure HeadUnit where
  good : Option Fix
  life : Option (BitVec 2)
  badCount : Nat
  goodCount : Nat
  up : Bool
  warned : Bool
  deriving DecidableEq, Repr

/-- R55: the split check of a round that placed the samples of both heads: the angles of those judged good so far. -/
structure RoundCheck where
  round : Nat
  angles : PerHead (Option Nat)
  deriving DecidableEq, Repr

/-- R50, R51, R55: the position unit: the heads, the fused angle with its sample time (none: no position), and the
rounds: when the last fell due, when the next falls due, when those fell due that have not placed their requests yet
(oldest first), the number of the next to place them, and the split checks still to be made. -/
structure PositionUnit where
  heads : PerHead HeadUnit
  fused : Option Fix
  lastRound : Word
  nextRound : Word
  due : List Word
  roundNumber : Nat
  checks : List RoundCheck
  deriving DecidableEq, Repr

/-! ## Capture unit (Chapters 5 and 6) -/

/-- R100: the sides, buffers and frame shape of a capture. -/
structure CaptureParams where
  sides : PerSide Bool
  buffer : PerSide Nat
  stride : Nat
  width : Nat
  lines : Nat
  deriving DecidableEq, Repr

/-- R100: the record of the capture the unit holds. -/
structure CaptureRecord where
  kind : Kind
  tag : Half
  slot : Nat
  params : CaptureParams
  deriving DecidableEq, Repr

/-- R89, R90, R96: one side of a charged fire: its final code, the fire's bound, the two marks, and the temperature of
the verifying POLL that matched. -/
structure SideFire where
  code : Nat
  bound : Nat
  derated : Bool
  doseLimited : Bool
  temp : Nat
  deriving DecidableEq, Repr

/-- R91, R96: the data of a charged fire: exposure time, dose charged, take after the increment, the opening at which it
fired, and its sides. -/
structure FireRecord where
  exposure : Nat
  charge : Nat
  take : Nat
  opening : Nat
  sides : PerSide (Option SideFire)
  deriving DecidableEq, Repr

/-- Section 5.2: the stages of a fire: the gate, with the end of its park wait when that runs; the load stage after the
charge; the raised strobe, with its raise time. -/
inductive Stage where
  | gate (parkWait : Option Word)
  | load (fire : FireRecord)
  | strobe (fire : FireRecord) (raisedAt : Word)
  deriving DecidableEq, Repr

/-- R100: the capture states. -/
inductive CaptureState where
  | free
  | holding (capture : CaptureRecord)
  | exposing (capture : CaptureRecord) (stage : Stage)
  deriving DecidableEq, Repr

/-- R87, R100: the capture unit and the four lines it drives. -/
structure CaptureUnit where
  state : CaptureState
  strobe : PerSide Bool
  trig : PerSide Bool
  deriving DecidableEq, Repr

/-! ## Turn sequencer (Chapter 4) -/

/-- R58: the pending outcome of the turn in flight. -/
inductive TurnOutcome where
  | done | noLeaf | doubleLeaf | leafDropped
  deriving DecidableEq, Repr

/-- R58: the turn in flight: the TURN, or the turn half of an ADVANCE with the parameters of its capture half. -/
structure Turn where
  kind : Kind
  tag : Half
  forward : Bool
  slot : Nat
  capture : Option CaptureParams
  deriving DecidableEq, Repr

/-- R58: what the sequencer's one timer runs. -/
inductive TimerKind where
  | grip | release | settle | homing
  deriving DecidableEq, Repr

/-- A running timer and when it expires. -/
structure Timer where
  kind : TimerKind
  due : Word
  deriving DecidableEq, Repr

/-- R78: the steps of homing in which the sequencer waits. -/
inductive HomingStep where
  | heads | platenDown | armToPark | platenRaise
  deriving DecidableEq, Repr

/-- R63: how the present arm state stands to an engine: it has offered no move, it has offered the move in flight, or it
owes a move until the engine reports the end of an earlier one. -/
inductive MovePhase where
  | none | offered | owed
  deriving DecidableEq, Repr

/-- R58: the turn sequencer. `target` and `top` are those of the state's arm move; `lowReads` and `nextLeaf` serve the
LEAF readings of SWEEPING (R68). -/
structure Sequencer where
  arm : ArmState
  vacuum : Bool
  turn : Option Turn
  outcome : TurnOutcome
  retries : Nat
  corrections : Nat
  target : Nat
  top : Nat
  attend : Bool
  timer : Option Timer
  homing : HomingStep
  armPhase : MovePhase
  platenPhase : MovePhase
  lowReads : Nat
  nextLeaf : Word
  deriving DecidableEq, Repr

/-! ## Lamp unit (Chapter 5) -/

/-- R81: the load echo result. -/
inductive EchoResult where
  | none | isMatch | mismatch
  deriving DecidableEq, Repr

/-- R92: how far a bar has come in the load stage of the present fire: no part in it, its LOAD placed, its LOAD exchange
under way, awaiting the verifying POLL, or loaded. -/
inductive LoadPhase where
  | none | placed | underway | verify | loaded
  deriving DecidableEq, Repr

/-- R81: what the lamp unit holds per bar. Temperatures are °C + 40. -/
structure Bar where
  state : BarState
  temp : Option Nat
  life : Option (BitVec 2)
  noReply : Nat
  lastCode : Option Nat
  echo : EchoResult
  pollDue : Word
  load : LoadPhase
  deriving DecidableEq, Repr

/-! ## Frame tracker (Chapters 6 and 7) -/

/-- R107: the fire data of a window. -/
structure FireData where
  leaf : Nat
  take : Nat
  code : Nat
  derated : Bool
  doseLimited : Bool
  temp : Nat
  singleHead : Bool
  deriving DecidableEq, Repr

/-- R107, R120: a window of the armed window table; ARMED while `filling` is false, and `patchValid` the validity of its
patch. `strobeEnd` is the counter at the strobe end with the measured exposure. -/
structure Window where
  filling : Bool
  side : Side
  slot : Nat
  base : Nat
  stride : Nat
  width : Nat
  lines : Nat
  partner : Option Nat
  partnerEnd : Option FrameStatus
  fire : Option FireData
  strobeEnd : Option (Word × Nat)
  fill : Nat
  crc : Word
  patchSum : Nat
  clips : Nat
  disordered : Bool
  cut : Bool
  full : Bool
  patch : Patch
  patchValid : Bool
  deriving DecidableEq, Repr

/-- R115: a guard of the guard table. -/
structure Guard where
  base : Nat
  length : Nat
  index : Half
  hit : Bool
  deriving DecidableEq, Repr

/-- R107, R115: the frame tracker: four window entries, eight guard entries, and the guard reservations. -/
structure FrameTracker where
  windows : List (Option Window)
  guards : List (Option Guard)
  guardReserved : Nat
  deriving DecidableEq, Repr

/-! ## Through-path (Chapter 9) -/

/-- Table 9-2: what an entry of the internal request queue is. -/
inductive Purpose where
  | ticketRead (index : Half)
  | accountWrite (index : Half)
  | returnWrite (index : Half)
  | statusWrite
  | imageRead (part : Nat)
  deriving DecidableEq, Repr

/-- R151: an entry of the internal request queue: a write of `data`, or a read of 16 words. -/
structure InternalEntry where
  purpose : Purpose
  addr : Word
  data : List Byte
  deriving DecidableEq, Repr

/-- R143, R146, R151, R152: the through-path: the upstream transactions waiting, the internal request queue, the entries
still waiting in their blocks for room in it (in creation order), the wait count and the foreign-write count; and what
has left it since the full reset, oldest first: the transactions carried out on the memory port and, for each upstream
read, the words returned to the host (DESIGN CHOICE, notes/assumptions/34.md). -/
structure ThroughPath where
  upstream : List Transaction
  internal : List InternalEntry
  blocked : List InternalEntry
  waitCount : Nat
  foreignWrites : Nat
  memoryPort : List Transaction
  hostData : List (List Word)
  deriving DecidableEq, Repr

/-- The frame memory behind the memory port: the bytes that differ from `blankByte`, addresses strictly rising. -/
abbrev Memory := List Host.Cell

/-- What a byte of frame memory that nothing has written reads as (DESIGN CHOICE, notes/assumptions/2.md). -/
def blankByte : Byte := 0

/-- Why a step stops. Only the upstream port can be offered something the spec gives no behaviour to. -/
inductive Fault where
  /-- Raised by UPSTREAM_TRANSACTION for an operand that is no burst of 1 to 16 words at a multiple of 4 (section 9.1):
  the host bus carries no such transaction. Safe: the model stops where the spec says nothing. -/
  | malformedTransaction
  deriving DecidableEq, Repr

/-- Why a command has no meaning. -/
inductive Refusal where
  /-- Raised by an arm of `exec` whose command has no meaning in the model yet. Safe. No arm raises it. -/
  | notModelled (mnemonic : String)
  deriving DecidableEq, Repr

/-- The CP-24. `ms` is the millisecond counter (R174). `stopLine` and `resumeLine` are the ms, up to 40, since the line
last counted as asserted (R169). `freeChoices` is the model's own: how many free choices have been drawn. `pending` is
the queue of commands. -/
structure State where
  settings : SettingsUnit
  ms : Word
  tickets : TicketUnit
  volumes : VolumeTable
  account : AccountUnit
  ret : ReturnUnit
  motion : MotionUnit
  link : SensorLink
  position : PositionUnit
  seq : Sequencer
  lamps : PerSide Bar
  capture : CaptureUnit
  frames : FrameTracker
  path : ThroughPath
  memory : Memory
  stopLine : Nat
  resumeLine : Nat
  freeChoices : Nat
  pending : List Instr
  deriving DecidableEq, Repr

/-! ## The full-reset values of the blocks -/

/-- R170, R173: RESET_HELD, no working and no pending settings, the lock clear. The reset cause before it is recorded
and the profile before it is sampled are DESIGN CHOICE (notes/assumptions/3.md). -/
def SettingsUnit.fullReset : SettingsUnit :=
  { startup := .resetHeld, cause := .powerOn, working := none, pendingImage := none, profile := 0, lock := false,
    settleUntil := 0, loading := none, configure := none, restart := none, profileDue := 0, i2c := [] }

/-- R25: all indexes 0, the queue empty, no fetch outstanding. -/
def TicketUnit.fullReset : TicketUnit :=
  { producer := 0, fetchIndex := 0, taken := 0, queue := [], outstanding := 0, discarding := false, barrier := false }

/-- R2: every entry FREE, no volume ACTIVE. -/
def VolumeTable.fullReset : VolumeTable :=
  { entries := [none, none, none, none, none, none, none, none], active := none }

/-- R129: both indexes and the reserved count 0, every mark clear. -/
def AccountUnit.fullReset : AccountUnit :=
  { producer := 0, consumer := 0, postedProducer := 0, reserved := 0, posted := [], readMarks := [] }

/-- R157, R163, R166, R167: indexes 0, marks clear, queue empty, counts 0, no fault latched, tone silent. -/
def ReturnUnit.fullReset : ReturnUnit :=
  { producer := 0, postedProducer := 0, consumer := 0, posted := [], readMarks := [], queue := [], overruns := 0,
    overrunPending := false, latched := [], statusWaiting := false, statusAgain := false, statusPlacedAt := 0,
    tone := .silent }

/-- R39: both engines IDLE. The switches before any sampling are DESIGN CHOICE (notes/assumptions/3.md); no end has been
reported. -/
def MotionUnit.fullReset : MotionUnit :=
  { arm := none, platen := none, switches := { down := false, up := false, contact := false }, armEnd := none,
    platenEnd := none }

/-- R49: idle, with no request pending. -/
def SensorLink.fullReset : SensorLink :=
  { loads := { v := none, r := none }, samples := { a := none, b := none },
    polls := { v := { routine := false, verify := false }, r := { routine := false, verify := false } },
    exchange := none, discard := false }

/-- R50: DOWN, no good sample, no previous life counter, both counts 0, the warn flag clear. -/
def HeadUnit.fullReset : HeadUnit :=
  { good := none, life := none, badCount := 0, goodCount := 0, up := false, warned := false }

/-- R50: both heads reset, no position. -/
def PositionUnit.fullReset : PositionUnit :=
  { heads := { a := HeadUnit.fullReset, b := HeadUnit.fullReset }, fused := none, lastRound := 0, nextRound := 0,
    due := [], roundNumber := 0, checks := [] }

/-- R58: FAULTED with vacuum off, no turn in flight, counts 0, attend clear, the timer stopped. -/
def Sequencer.fullReset : Sequencer :=
  { arm := .faulted, vacuum := false, turn := none, outcome := .done, retries := 0, corrections := 0, target := 0,
    top := 0, attend := false, timer := none, homing := .heads, armPhase := .none, platenPhase := .none, lowReads := 0,
    nextLeaf := 0 }

/-- R81: READY, everything else none or 0. -/
def Bar.fullReset : Bar :=
  { state := .ready, temp := none, life := none, noReply := 0, lastCode := none, echo := .none, pollDue := 0,
    load := .none }

/-- R87, R100: FREE, all four lines lowered. -/
def CaptureUnit.fullReset : CaptureUnit :=
  { state := .free, strobe := { v := false, r := false }, trig := { v := false, r := false } }

/-- R107, R115, R118: every entry free, no guard reservation. -/
def FrameTracker.fullReset : FrameTracker :=
  { windows := [none, none, none, none], guards := [none, none, none, none, none, none, none, none],
    guardReserved := 0 }

/-- R143, R146, R151, R152: nothing waiting, the queue empty, both counts 0, nothing served. -/
def ThroughPath.fullReset : ThroughPath :=
  { upstream := [], internal := [], blocked := [], waitCount := 0, foreignWrites := 0, memoryPort := [],
    hostData := [] }

/-- The machine while power comes up (R173): RESET_HELD, every block at its full-reset state, frame memory with nothing
listed, no command waiting. -/
def State.reset : State :=
  { settings := SettingsUnit.fullReset, ms := 0, tickets := TicketUnit.fullReset, volumes := VolumeTable.fullReset,
    account := AccountUnit.fullReset, ret := ReturnUnit.fullReset, motion := MotionUnit.fullReset,
    link := SensorLink.fullReset, position := PositionUnit.fullReset, seq := Sequencer.fullReset,
    lamps := { v := Bar.fullReset, r := Bar.fullReset }, capture := CaptureUnit.fullReset,
    frames := FrameTracker.fullReset, path := ThroughPath.fullReset, memory := [], stopLine := 0, resumeLine := 0,
    freeChoices := 0, pending := [] }

end Sys2Proof.Machine
end

