-- ==== Sys2Proof/Machine/Ops.lean ====
section
/-! DEFINITION. The named operations the blocks share: parts of State, time, frame memory, checksums, marks of ring
slots, and the internal request queue with its arbiter. -/
namespace Sys2Proof.Machine

/-! ## Pairs -/

/-- The part of a side. -/
def PerSide.get {α : Type} (p : PerSide α) : Side → α
  | .v => p.v
  | .r => p.r

/-- The pair with one side's part replaced. -/
def PerSide.set {α : Type} (p : PerSide α) (side : Side) (x : α) : PerSide α :=
  match side with
  | .v => { p with v := x }
  | .r => { p with r := x }

/-- The part of a head. -/
def PerHead.get {α : Type} (p : PerHead α) : Head → α
  | .a => p.a
  | .b => p.b

/-- The pair with one head's part replaced. -/
def PerHead.set {α : Type} (p : PerHead α) (head : Head) (x : α) : PerHead α :=
  match head with
  | .a => { p with a := x }
  | .b => { p with b := x }

/-- Table 12-3: side V is 1, side R is 2. -/
def sideNumber : Side → Nat
  | .v => 1
  | .r => 2

/-- Table 12-3: head A is 1, head B is 2. -/
def headLetter : Head → Nat
  | .a => 1
  | .b => 2

/-- A set of sides as a number: 1 for V, 2 for R, 3 for both (R88, R101). -/
def sidesNumber (p : PerSide Bool) : Nat :=
  (if p.v then 1 else 0) + (if p.r then 2 else 0)

/-! ## Time (R174) -/

/-- Milliseconds from `since` to `now`, across the wrap of the counter. -/
def elapsed (now since : Word) : Nat := (now - since).toNat

/-- The counter has come to `due`, or passed it by less than half its range. DESIGN CHOICE (notes/assumptions/31.md).
-/
def reached (now due : Word) : Bool := decide ((now - due).toNat < 2147483648)

/-- The counter `n` ms after `w`. -/
def after (w : Word) (n : Nat) : Word := w + BitVec.ofNat 32 n

/-! ## Frame memory -/

/-- The byte at address `a`. -/
def readByte : Memory → Nat → Byte
  | [], _ => blankByte
  | (k, b) :: m, a => if a = k then b else readByte m a

/-- Memory with byte `v` at address `a`, in canonical form. -/
def writeByte : Memory → Nat → Byte → Memory
  | [], a, v => if v = blankByte then [] else [(a, v)]
  | (k, b) :: m, a, v =>
    if a < k then (if v = blankByte then (k, b) :: m else (a, v) :: (k, b) :: m)
    else if a = k then (if v = blankByte then m else (a, v) :: m)
    else (k, b) :: writeByte m a v

/-- The canonical form of frame memory: addresses of the 4 GiB strictly rising, no entry equal to `blankByte`. -/
abbrev Memory.wf (m : Memory) : Prop :=
  m.Pairwise (fun c d => c.1 < d.1) ∧ ∀ c ∈ m, c.1 < 4294967296 ∧ c.2 ≠ blankByte

/-- Byte `i` of a word, little-endian. -/
def wordByte (w : Word) (i : Nat) : Byte := (w >>> (8 * i)).setWidth 8

/-- The word of four bytes, the first the least significant. -/
def wordOf (b0 b1 b2 b3 : Byte) : Word := b3 ++ b2 ++ b1 ++ b0

/-- The word at address `a`, a multiple of 4. -/
def readWord (m : Memory) (a : Word) : Word :=
  wordOf (readByte m a.toNat) (readByte m (a.toNat + 1)) (readByte m (a.toNat + 2)) (readByte m (a.toNat + 3))

/-- Memory with the byte of lane `i` of `w` written, when its byte enable is set. -/
def writeLane (m : Memory) (a : Word) (w : BusWord) (i : Nat) : Memory :=
  if w.be.getLsbD i then writeByte m ((a + BitVec.ofNat 32 i).toNat) (wordByte w.data i) else m

/-- Memory after one write word at `a`: its enabled bytes are written (R143). -/
def writeWord (m : Memory) (a : Word) (w : BusWord) : Memory :=
  writeLane (writeLane (writeLane (writeLane m a w 0) a w 1) a w 2) a w 3

/-- Memory after a burst of write words from `a`, word j at `a` + 4j modulo 2^32. DESIGN CHOICE
(notes/assumptions/13.md). -/
def writeWords : Memory → Word → List BusWord → Memory
  | m, _, [] => m
  | m, a, w :: ws => writeWords (writeWord m a w) (a + 4) ws

/-- The words of a read of `n` words from `a`. -/
def readWords (m : Memory) (a : Word) : Nat → List Word
  | 0 => []
  | n + 1 => readWord m a :: readWords m (a + 4) n

/-- The bytes of words, in address order. -/
def bytesOfWords : List Word → List Byte
  | [] => []
  | w :: ws => wordByte w 0 :: wordByte w 1 :: wordByte w 2 :: wordByte w 3 :: bytesOfWords ws

/-- The bytes of a transaction of the controller's own as words with every byte enabled. -/
def busWords : List Byte → List BusWord
  | b0 :: b1 :: b2 :: b3 :: rest => { data := wordOf b0 b1 b2 b3, be := 15 } :: busWords rest
  | _ => []

/-! ## Little-endian fields -/

/-- Byte `o` of a format, as a number; bytes beyond its end are 0. -/
def byteAt (bs : List Byte) (o : Nat) : Nat := (bs.getD o 0).toNat

/-- The two-byte field at offset `o`. -/
def le16At (bs : List Byte) (o : Nat) : Nat := byteAt bs o + 256 * byteAt bs (o + 1)

/-- The four-byte field at offset `o`. -/
def le32At (bs : List Byte) (o : Nat) : Nat := le16At bs o + 65536 * le16At bs (o + 2)

/-- One byte holding the low 8 bits of `n`. -/
def put8 (n : Nat) : List Byte := [BitVec.ofNat 8 n]

/-- Two bytes holding the low 16 bits of `n`. -/
def put16 (n : Nat) : List Byte := [BitVec.ofNat 8 n, BitVec.ofNat 8 (n / 256)]

/-- Four bytes holding the low 32 bits of `n`. -/
def put32 (n : Nat) : List Byte := put16 n ++ put16 (n / 65536)

/-- Zero bytes. -/
def zeros (n : Nat) : List Byte := List.replicate n 0

/-! ## Checksums -/

/-- One shift of the CRC-32 register (R110). -/
def crc32Shift (c : Word) : Word :=
  if c.getLsbD 0 then (c >>> 1) ^^^ 0xEDB88320 else c >>> 1

/-- One byte into the CRC-32 register (R110). -/
def crc32Byte (c : Word) (b : Byte) : Word :=
  let x := c ^^^ b.setWidth 32
  crc32Shift (crc32Shift (crc32Shift (crc32Shift (crc32Shift (crc32Shift (crc32Shift (crc32Shift x)))))))

/-- Bytes into the CRC-32 register, in order. -/
def crc32Bytes (c : Word) (bs : List Byte) : Word := bs.foldl crc32Byte c

/-- The CRC-32 of a sequence of bytes (R110). -/
def crc32 (bs : List Byte) : Word := crc32Bytes 0xFFFFFFFF bs ^^^ 0xFFFFFFFF

/-- One shift of the CRC-16 register (R171). -/
def crc16Shift (c : Half) : Half :=
  if c.getLsbD 15 then (c <<< 1) ^^^ 0x1021 else c <<< 1

/-- One byte into the CRC-16 register (R171). -/
def crc16Byte (c : Half) (b : Byte) : Half :=
  let x := c ^^^ (b.setWidth 16 <<< 8)
  crc16Shift (crc16Shift (crc16Shift (crc16Shift (crc16Shift (crc16Shift (crc16Shift (crc16Shift x)))))))

/-- The CRC-16 of a sequence of bytes (R171). -/
def crc16 (bs : List Byte) : Half := bs.foldl crc16Byte 0xFFFF

/-! ## Slots of a ring -/

/-- The slot of an index in a ring of `n` slots (R24, R128, R157). -/
def slotOf (i : Half) (n : Nat) : Nat := i.toNat % n

/-- Set the mark of slot `k`. -/
def mark (l : List Nat) (k : Nat) : List Nat := if k ∈ l then l else k :: l

/-- Clear the mark of slot `k`. -/
def unmark (l : List Nat) (k : Nat) : List Nat := l.filter (fun j => j ≠ k)

/-- How far slot `k` lies beyond the slot of `consumer`: the index of slot `k` at or after the consumer index is
`consumer` plus this. -/
def slotOffset (consumer : Half) (k n : Nat) : Nat := (k + n - slotOf consumer n) % n

/-! ## Settings in force -/

/-- The map in force, if any (R154, R156). -/
def mapOf (s : State) : Option MapSettings := s.settings.working.map (fun w => w.map)

/-- The startup states in which the blocks work: READY and BARE. -/
def inService (s : State) : Bool := decide (s.settings.startup = .ready ∨ s.settings.startup = .bare)

/-! ## The internal request queue and the arbiter (R151, R152) -/

/-- The blocks that place entries. -/
inductive Block where
  | ticketUnit | accountWriter | returnWriter | settingsUnit
  deriving DecidableEq, Repr

/-- Table 9-2: the block that placed an entry. -/
def ownerOf (e : InternalEntry) : Block :=
  match e.purpose with
  | .ticketRead _ => .ticketUnit
  | .accountWrite _ => .accountWriter
  | .returnWrite _ => .returnWriter
  | .statusWrite => .returnWriter
  | .imageRead _ => .settingsUnit

/-- R151: place an entry in the queue, or leave it waiting in its block, behind that block's earlier entries, when the
queue is full. -/
def placeInternal (e : InternalEntry) (s : State) : State :=
  if s.path.internal.length < 32 ∧ (s.path.blocked.all fun w => decide (ownerOf w ≠ ownerOf e)) then
    { s with path := { s.path with internal := s.path.internal ++ [e] } }
  else { s with path := { s.path with blocked := s.path.blocked ++ [e] } }

/-- The first entry of block `o` waiting for room takes the freed place. -/
def admitFrom (o : Block) (s : State) : State :=
  match s.path.blocked.find? (fun e => decide (ownerOf e = o)) with
  | none => s
  | some e =>
    { s with path := { s.path with
        internal := s.path.internal ++ [e]
        blocked := s.path.blocked.eraseP (fun w => decide (ownerOf w = o)) } }

/-- The blocks with an entry waiting for room. -/
def waitingBlocks (s : State) : List Block :=
  [Block.ticketUnit, .accountWriter, .returnWriter, .settingsUnit].filter
    (fun o => s.path.blocked.any fun e => decide (ownerOf e = o))

/-- R151: as the head entry leaves, one of the blocks waiting for room takes the freed place; which one is free. -/
def admitBlocked (s : State) : State :=
  match waitingBlocks s with
  | [] => s
  | [o] => admitFrom o s
  | o :: os =>
    { admitFrom ((o :: os).getD (Config.roomPick s.freeChoices % (o :: os).length) o) s with
      freeChoices := s.freeChoices + 1 }

/-- What the memory port serves next. -/
inductive Grant where
  | upstream (t : Transaction)
  | internal (e : InternalEntry)
  deriving DecidableEq, Repr

/-- R152: the arbiter's choice. -/
def arbiter (s : State) : Option Grant :=
  match s.path.upstream, s.path.internal with
  | [], [] => none
  | t :: _, [] => some (.upstream t)
  | [], e :: _ => some (.internal e)
  | t :: _, e :: _ => if s.path.waitCount < 8 then some (.upstream t) else some (.internal e)

/-- R152: the oldest upstream transaction leaves its list; the wait count rises when an internal entry waits. -/
def leaveUpstream (s : State) : State :=
  { s with path := { s.path with
      upstream := s.path.upstream.tail
      waitCount := if s.path.internal = [] then s.path.waitCount else s.path.waitCount + 1 } }

/-- R151, R152: the head of the internal request queue leaves it; the wait count becomes 0. -/
def leaveInternal (s : State) : State :=
  admitBlocked { s with path := { s.path with internal := s.path.internal.tail, waitCount := 0 } }

/-- R143: the memory port carries out a read; the words are memory's contents at that moment. -/
def portRead (start : Word) (len : Nat) (s : State) : State :=
  { s with path := { s.path with memoryPort := s.path.memoryPort ++ [.read start len] } }

/-- R143: the memory port carries out a write; memory then holds what its enabled bytes wrote. -/
def portWrite (start : Word) (words : List BusWord) (s : State) : State :=
  { s with memory := writeWords s.memory start words
           path := { s.path with memoryPort := s.path.memoryPort ++ [.write start words] } }

/-- Table 9-2: the head entry of the internal request queue leaves it and the memory port carries it out: the reads of
tickets and of images, or the writes of records and of the status block. -/
def serveInternal (e : InternalEntry) (s : State) : State :=
  match e.purpose with
  | .ticketRead _ => portRead e.addr 16 (leaveInternal s)
  | .imageRead _ => portRead e.addr 16 (leaveInternal s)
  | .accountWrite _ => portWrite e.addr (busWords e.data) (leaveInternal s)
  | .returnWrite _ => portWrite e.addr (busWords e.data) (leaveInternal s)
  | .statusWrite => portWrite e.addr (busWords e.data) (leaveInternal s)

/-- The 64 bytes a 16-word read of the controller's own returns. -/
def readBlock (m : Memory) (a : Word) : List Byte := bytesOfWords (readWords m a 16)

end Sys2Proof.Machine
end

