-- ==== Sys2Proof/Machine/Operands.lean ====
section
/-! DEFINITION. The formats that cross the part's boundary, read: the numbers of the spec's names, the fields of a
ticket (Tables 12-1, 12-2), the words of the sensor link (Tables 12-8, 12-9), and the settings image with its checks
(Table 12-10, R171) and defaults (R155, R175). -/
namespace Sys2Proof.Machine

/-! ## Numbers of names -/

/-- R170. -/
def startupNumber : Startup → Nat
  | .resetHeld => 0 | .powerSettling => 1 | .loading => 2 | .ready => 3 | .bare => 4

/-- R170. -/
def causeNumber : ResetCause → Nat
  | .powerOn => 0 | .resetn => 1 | .warmRestart => 2

/-- Table 4-1. -/
def armNumber : ArmState → Nat
  | .idle => 0 | .homing => 1 | .lowering => 2 | .reaching => 3 | .gripping => 4 | .sweeping => 5 | .releasing => 6
  | .returning => 7 | .raising => 8 | .settling => 9 | .halted => 10 | .faulted => 11

/-- Table 12-2. -/
def kindNumber : Kind → Nat
  | .openVolume => 1 | .select => 2 | .park => 3 | .close => 4 | .manual => 5 | .skip => 6 | .turn => 7
  | .capture => 8 | .advance => 9 | .light => 10 | .halt => 11 | .quiet => 12 | .clear => 13 | .configure => 14
  | .restart => 15

/-- Table 12-2: the kind of a kind value; 0 and values above 15 are none. -/
def kindOf : Nat → Option Kind
  | 1 => some .openVolume | 2 => some .select | 3 => some .park | 4 => some .close | 5 => some .manual
  | 6 => some .skip | 7 => some .turn | 8 => some .capture | 9 => some .advance | 10 => some .light
  | 11 => some .halt | 12 => some .quiet | 13 => some .clear | 14 => some .configure | 15 => some .restart
  | _ => none

/-- Table 2-3. -/
def outcomeNumber : OutcomeCode → Nat
  | .done => 0 | .incomplete => 1 | .halted => 2 | .badKind => 3 | .badField => 4 | .notReady => 5 | .busy => 6
  | .noVolume => 7 | .duplicate => 8 | .tableFull => 9 | .atStart => 10 | .atEnd => 11 | .noLeaf => 12
  | .doubleLeaf => 13 | .leafDropped => 14 | .armFault => 15 | .mechLocked => 16 | .noPosition => 17
  | .overlap => 18 | .allowance => 19 | .lampFault => 20 | .lampHot => 21 | .mapBusy => 22 | .settingsBad => 23
  | .storeFailed => 24

/-- Table 10-1. -/
def eventNumber : EventCode → Nat
  | .stopPressed => 1 | .resumePressed => 2 | .headDown => 3 | .headUp => 4 | .headWarn => 5 | .split => 6
  | .slip => 7 | .platen => 8 | .unpressed => 9 | .lampFault => 10 | .lampWarm => 11 | .lampHot => 12
  | .postFault => 13 | .foreignWrite => 14 | .guardHit => 15 | .accountFull => 16 | .returnOverrun => 17
  | .profileChanged => 18 | .state => 19

/-- Table 12-6. -/
def reasonNumber : ExceptionReason → Nat
  | .skipped => 0 | .lost => 1 | .disordered => 2 | .cut => 3

/-- Table 12-5. -/
def statusNumber : FrameStatus → Nat
  | .complete => 0 | .disordered => 1 | .cut => 2 | .lost => 3

/-- Table 5-2. -/
def failNumber : FailKind → Nat
  | .openString => 1 | .short => 2 | .selfOvertemp => 3 | .noReply => 4 | .echo => 5

/-- Table 12-7. -/
def barNumber : BarState → Nat
  | .ready => 0 | .warm => 1 | .hot => 2 | .failed _ => 3

/-- R175: the reading of a profile pin. -/
def levelNumber : Level → Nat
  | .low => 0 | .high => 1 | .floating => 2

/-- R175: the profile, 3 × PROF1 + PROF0. -/
def profileOf (prof1 prof0 : Level) : Nat := 3 * levelNumber prof1 + levelNumber prof0

/-! ## Tickets (R182) -/

/-- Field 1, the kind value as read. -/
def ticketKind (t : Ticket) : Nat := le16At t.bytes 0

/-- Field 2, the tag. -/
def ticketTag (t : Ticket) : Half := BitVec.ofNat 16 (le16At t.bytes 2)

/-- Field 3, the index. -/
def ticketIndexField (t : Ticket) : Half := BitVec.ofNat 16 (le16At t.bytes 4)

/-- Field 4, the flags. -/
def ticketFlags (t : Ticket) : Nat := le16At t.bytes 6

/-- Flag bit `b` of a ticket is set. -/
def ticketFlag (t : Ticket) (b : Nat) : Bool := (ticketFlags t).testBit b

/-- Table 12-2: the flags a kind defines, as one more than the largest flags value it allows. -/
def flagLimit : Kind → Nat
  | .light => 16
  | .configure => 2
  | .restart => 2
  | .openVolume | .select | .park | .close | .manual | .skip | .turn | .capture | .advance | .halt | .quiet
  | .clear => 1

/-- The count of a MANUAL, a signed 16-bit number. -/
def manualCount (t : Ticket) : Int := (BitVec.ofNat 16 (le16At t.bytes 8)).toInt

/-- The sides of a side selection: 1 V, 2 R, 3 both. -/
def sidesOf : Nat → Option (PerSide Bool)
  | 1 => some { v := true, r := false }
  | 2 => some { v := false, r := true }
  | 3 => some { v := true, r := true }
  | _ => none

/-- A direction field: 1 forward, 2 backward. -/
def forwardOf : Nat → Option Bool
  | 1 => some true
  | 2 => some false
  | _ => none

/-- The number of a set of sides, `k` of R100. -/
def sideCount (p : PerSide Bool) : Nat := (if p.v then 1 else 0) + (if p.r then 1 else 0)

/-- The frame length L = S × H (R100). -/
def frameLength (p : CaptureParams) : Nat := p.stride * p.lines

/-- R101: the capture fields of a ticket, whose sides byte is at offset `o` and whose fields are numbered from `n`:
the parameters, or the number of the field the first failing check gives. -/
def captureFields (t : Ticket) (o n : Nat) : Except Nat CaptureParams :=
  match sidesOf (byteAt t.bytes o) with
  | none => .error n
  | some sides =>
    let p : CaptureParams :=
      { sides := sides, buffer := { v := le32At t.bytes 12, r := le32At t.bytes 16 }, stride := le16At t.bytes 20,
        width := le16At t.bytes 22, lines := le16At t.bytes 24 }
    if sides.v ∧ p.buffer.v % 4 ≠ 0 then .error (n + 1)
    else if sides.r ∧ p.buffer.r % 4 ≠ 0 then .error (n + 2)
    else if ¬ (p.stride % 4 = 0 ∧ 8 ≤ p.stride ∧ p.stride ≤ 65532) then .error (n + 3)
    else if ¬ (1 ≤ p.width ∧ 2 * p.width ≤ p.stride) then .error (n + 4)
    else if ¬ (1 ≤ p.lines ∧ p.lines ≤ 16383) then .error (n + 5)
    else if frameLength p > 268435456 then .error (n + 5)
    else if sides.v ∧ p.buffer.v + frameLength p > 4294967296 then .error (n + 1)
    else if sides.r ∧ p.buffer.r + frameLength p > 4294967296 then .error (n + 2)
    else .ok p

/-- R4: the shelf mark of an OPEN: its stored characters, or the field that is malformed. -/
def shelfMarkOf (t : Ticket) : Except Nat (List Byte) :=
  let len := byteAt t.bytes 8
  if ¬ (1 ≤ len ∧ len ≤ 32) then .error 5
  else
    let chars := (t.bytes.drop 9).take len
    if chars.length = len ∧ (chars.all fun c => decide (32 ≤ c.toNat ∧ c.toNat ≤ 126)) then .ok chars else .error 6

/-- A start code or manual code lies in its range, or is 0 (R12, R98). -/
def codeAllowed (m : MechSettings) (code : Nat) : Bool :=
  decide (code = 0 ∨ (m.dMin ≤ code ∧ code ≤ m.dMax))

/-- A value clamped to [lo, hi] (scope file, Arithmetic). -/
def clamp (lo hi x : Nat) : Nat := if x < lo then lo else if hi < x then hi else x

/-- R12: the code a start code stands for. -/
def startCode (m : MechSettings) (code : Nat) : Nat :=
  if code = 0 then clamp m.dMin m.dMax 400 else code

/-- The highest opening index of a volume with this leaf count (R6). -/
def highestOpening : Option Nat → Nat
  | some lc => lc - 2
  | none => 65534

/-- R12, R13, Table 1-2: the volume an OPEN ticket sets up, at counter value `now`, with its chain value at the ticket's
chain seed; or the number of the first failing field, in the field order of Table 12-2 (R34). -/
def openFields (m : MechSettings) (now : Word) (t : Ticket) : Except Nat Volume :=
  match shelfMarkOf t with
  | .error n => .error n
  | .ok name =>
    let lc := le16At t.bytes 42
    let leafCount := if lc = 0 then none else some lc
    let opening := le16At t.bytes 44
    let units := le32At t.bytes 48
    let target := le16At t.bytes 52
    let exposure := le16At t.bytes 54
    let codeV := le16At t.bytes 56
    let codeR := le16At t.bytes 58
    if lc = 1 then .error 7
    else if opening > highestOpening leafCount then .error 8
    else if ¬ (1 ≤ units ∧ units ≤ 4000000) then .error 9
    else if ¬ (1024 ≤ target ∧ target ≤ 60000) then .error 10
    else if ¬ (1 ≤ exposure ∧ exposure ≤ 250) then .error 11
    else if ¬ codeAllowed m codeV then .error 12
    else if ¬ codeAllowed m codeR then .error 13
    else .ok
      { shelfMark := name, leafCount := leafCount, opening := opening, take := 0, nextSequence := 0,
        chain := BitVec.ofNat 32 (le32At t.bytes 60), allowance := 1000 * units, doseUsed := 0, target := target,
        exposure := exposure, drive := { v := startCode m codeV, r := startCode m codeR }, regulation := true,
        unpressed := false, captureCount := 0, exceptions := [], overfull := false, openedAt := now }

/-! ## Sensor-link words (Tables 12-8, 12-9) -/

/-- Table 12-8: the 16 bits an exchange sends. -/
def outWord : Exchange → Half
  | .load _ code => 0x4000 ||| BitVec.ofNat 16 (code % 1024)
  | .sample _ _ => 0x4000
  | .poll _ => 0x8000

/-- R47: an in-word of all ones is no reply. -/
def noReply (w : Half) : Bool := decide (w = 0xFFFF)

/-- A head in-word: the 12-bit angle. -/
def headAngle (w : Half) : Nat := (w >>> 4).toNat

/-- A head in-word: the error flag E. -/
def headError (w : Half) : Bool := w.getLsbD 3

/-- A head in-word: the warning flag W. -/
def headWarning (w : Half) : Bool := w.getLsbD 2

/-- A head in-word: the life counter. -/
def headLife (w : Half) : BitVec 2 := w.setWidth 2

/-- A lamp in-word: the temperature, °C + 40. -/
def lampTemp (w : Half) : Nat := (w >>> 8).toNat

/-- A lamp in-word: the fault field; none is ok. -/
def lampFaultField (w : Half) : Option FailKind :=
  match ((w >>> 6).setWidth 2 : BitVec 2).toNat with
  | 0 => none
  | 1 => some .openString
  | 2 => some .short
  | _ => some .selfOvertemp

/-- A lamp in-word: the life counter. -/
def lampLife (w : Half) : BitVec 2 := (w >>> 4).setWidth 2

/-- A lamp in-word: the echo, the low 4 bits of the driver's loaded code. -/
def lampEcho (w : Half) : Nat := (w.setWidth 4 : BitVec 4).toNat

/-! ## Settings image (Tables 11-1, 12-10) -/

/-- R155: the default map, with the chirp option off (Table 11-2). -/
def defaultMap : MapSettings :=
  { ticketBase := 0x100000, postWord := 0xFFFF0, returnBase := 0x100400, accountBase := 0x100800,
    statusBase := 0xFFF80, nt := 16, nr := 32, na := 64, chirp := false }

/-- Section 12.4: the chirp option of its byte; a byte that is neither 0 nor 1 is a free value. -/
def chirpOption (b : Byte) : Bool :=
  if b = 0 then false else if b = 1 then true else Config.chirpOther b

/-- Table 12-10: the map section of an image whose bytes begin with it. -/
def mapFields (bs : List Byte) : MapSettings :=
  { ticketBase := le32At bs 0, postWord := le32At bs 4, returnBase := le32At bs 8, accountBase := le32At bs 12,
    statusBase := le32At bs 16, nt := le16At bs 20, nr := le16At bs 22, na := le16At bs 24,
    chirp := chirpOption (bs.getD 26 0) }

/-- Eight two-byte fields from offset `o`. -/
def ladderAt (bs : List Byte) (o : Nat) : List Nat :=
  (List.range 8).map fun i => le16At bs (o + 2 * i)

/-- The patch at offset `o`. -/
def patchAt (bs : List Byte) (o : Nat) : Patch :=
  { x0 := le16At bs o, y0 := le16At bs (o + 2), pw := le16At bs (o + 4), ph := le16At bs (o + 6) }

/-- Table 12-10: the mechanism section of an image; `bs` begins with byte 64 of the image. -/
def mechFields (bs : List Byte) : MechSettings :=
  { armLadder := ladderAt bs 0, platenLadder := ladderAt bs 16, spr := le16At bs 32, platenMax := le16At bs 34,
    park := le16At bs 36, pickup := le16At bs 38, drop := le16At bs 40, parkWindow := byteAt bs 42,
    slipTolerance := byteAt bs 43, splitTolerance := byteAt bs 44, linkRate := byteAt bs 45, bOffset := le16At bs 46,
    gripTime := le16At bs 48, releaseTime := le16At bs 50, settleTime := le16At bs 52, gripRetries := byteAt bs 54,
    frameTimeout := le16At bs 56, dMin := le16At bs 58, dMax := le16At bs 60, clipLevel := le16At bs 62,
    warnTemp := byteAt bs 64, errorTemp := byteAt bs 65, patchV := patchAt bs 66, patchR := patchAt bs 74 }

/-- A region of memory as its first address and its length in bytes. -/
abbrev Extent := Nat × Nat

/-- Two ranges share no byte. -/
def disjoint (a b : Extent) : Bool := decide (a.1 + a.2 ≤ b.1 ∨ b.1 + b.2 ≤ a.1)

/-- The five regions of a map (R171). -/
def regionsOf (m : MapSettings) : List Extent :=
  [(m.ticketBase, 64 * m.nt), (m.returnBase, 16 * m.nr), (m.accountBase, 64 * m.na), (m.statusBase, 64),
   (m.postWord, 4)]

/-- The ranges of a list are pairwise disjoint. -/
def allDisjoint : List Extent → Bool
  | [] => true
  | e :: es => es.all (disjoint e) && allDisjoint es

/-- R171: the map section's contents pass. -/
def mapContentsPass (m : MapSettings) : Bool :=
  decide (m.ticketBase % 64 = 0 ∧ m.returnBase % 64 = 0 ∧ m.accountBase % 64 = 0 ∧ m.statusBase % 64 = 0
    ∧ m.postWord % 4 = 0)
  && decide (m.nt ∈ [16, 32, 64, 128, 256]) && decide (m.nr ∈ [32, 64, 128, 256, 512, 1024])
  && decide (m.na ∈ [64, 128, 256, 512, 1024, 2048, 4096])
  && (regionsOf m).all (fun e => decide (e.1 + e.2 ≤ 4294967296))
  && allDisjoint (regionsOf m)

/-- R171: a ladder has eight rungs of 20 to 5000 steps/s, strictly ascending. -/
def ladderPass (l : List Nat) : Bool :=
  decide (l.length = 8) && l.all (fun r => decide (20 ≤ r ∧ r ≤ 5000)) && decide (l.Pairwise (· < ·))

/-- R120: a patch rectangle lies in its ranges. -/
def patchPass (p : Patch) : Bool :=
  decide (p.x0 % 2 = 0 ∧ p.x0 ≤ 32766 ∧ p.y0 ≤ 16382 ∧ p.pw % 2 = 0 ∧ 8 ≤ p.pw ∧ p.pw ≤ 256 ∧ 8 ≤ p.ph ∧ p.ph ≤ 256)

/-- R171: the mechanism section's contents pass. -/
def mechContentsPass (m : MechSettings) : Bool :=
  ladderPass m.armLadder && ladderPass m.platenLadder
  && decide (200 ≤ m.spr ∧ m.spr ≤ 25600 ∧ 1 ≤ m.platenMax ∧ m.platenMax ≤ 32767)
  && decide (m.park ≤ 4095 ∧ m.pickup ≤ 4095 ∧ m.drop ≤ 4095 ∧ m.bOffset ≤ 4095)
  && decide (1 ≤ m.parkWindow ∧ m.parkWindow ≤ 255 ∧ 1 ≤ m.slipTolerance ∧ m.slipTolerance ≤ 255
    ∧ 1 ≤ m.splitTolerance ∧ m.splitTolerance ≤ 255 ∧ m.linkRate ≤ 3)
  && decide (10 ≤ m.gripTime ∧ m.gripTime ≤ 2000 ∧ 10 ≤ m.releaseTime ∧ m.releaseTime ≤ 2000
    ∧ m.settleTime ≤ 2000 ∧ m.gripRetries ≤ 3 ∧ 50 ≤ m.frameTimeout ∧ m.frameTimeout ≤ 10000)
  && decide (1 ≤ m.dMin ∧ m.dMax ≤ 1000 ∧ m.dMin ≤ m.dMax / 2 ∧ 1024 ≤ m.clipLevel ∧ m.clipLevel ≤ 65535)
  && decide (m.warnTemp < m.errorTemp ∧ m.errorTemp ≤ 255)
  && patchPass m.patchV && patchPass m.patchR

/-- R171: the stored CRC-16, most significant byte first, at offset `o`, matches that of the bytes before it. -/
def crcMatches (bs : List Byte) (o : Nat) : Bool :=
  decide (crc16 (bs.take o) = BitVec.ofNat 16 (256 * byteAt bs o + byteAt bs (o + 1)))

/-- The bytes of a section of an image (Table 11-1). -/
def mapBytes (image : List Byte) : List Byte := image.take 64

/-- The bytes of the mechanism section of an image. -/
def mechBytes (image : List Byte) : List Byte := (image.drop 64).take 192

/-- R175: ladder A. -/
def ladderA : List Nat := [200, 400, 800, 1200, 1600, 2000, 2500, 3000]

/-- R175: ladder B. -/
def ladderB : List Nat := [100, 200, 300, 400, 500, 600, 700, 800]

/-- R175, Table 11-3: the mechanism defaults of a profile. -/
def profileDefaults (p : Nat) : MechSettings :=
  let folio := p = 1 ∨ p = 4 ∨ p = 7
  let octavo := p = 2 ∨ p = 5
  let fragile := 3 ≤ p ∧ p ≤ 5
  let fine := p = 6 ∨ p = 7
  { armLadder := if fragile then ladderB else ladderA
    platenLadder := [400, 600, 800, 1000, 1200, 1400, 1600, 1800]
    spr := if fine then 6400 else 3200
    platenMax := if folio then 8000 else 6000
    park := 2048
    pickup := if folio then 2750 else if octavo then 2480 else 2600
    drop := if folio then 1350 else if octavo then 1620 else 1500
    parkWindow := 8, slipTolerance := 12, splitTolerance := 6, linkRate := 2, bOffset := 0
    gripTime := 150, releaseTime := 100, settleTime := if fragile then 800 else 400, gripRetries := 2
    frameTimeout := 1500, dMin := 20, dMax := 900, clipLevel := 64000
    warnTemp := 95, errorTemp := 110
    patchV := { x0 := 0, y0 := 0, pw := 128, ph := 64 }, patchR := { x0 := 0, y0 := 0, pw := 128, ph := 64 } }

/-- The mechanism settings the blocks read. Before LOADING has ended there are none (R170) and no block reads them;
the defaults of the profile stand in for the function's value there. DESIGN CHOICE (notes/assumptions/25.md). -/
def mechOf (s : State) : MechSettings :=
  match s.settings.working with
  | some w => w.mech
  | none => profileDefaults s.settings.profile

/-- R120: the patch of a side. -/
def patchOf (m : MechSettings) : Side → Patch
  | .v => m.patchV
  | .r => m.patchR

end Sys2Proof.Machine
end

