-- ==== Sys2Proof/Machine/Flags.lean ====
section
/-! DEFINITION. Flags and derived values: ring counts, the attention line, the latched fault set, the flags of a FRAME
record, the park condition, and the shadow of the status block. -/
namespace Sys2Proof.Machine

/-! ## The volume table -/

/-- The volume of a slot; none when the entry is FREE or the slot is above 7. -/
def volumeAt (s : State) (slot : Nat) : Option Volume := (s.volumes.entries[slot]?).join

/-- R1: the state of an entry. -/
inductive EntryState where
  | free | active | parked
  deriving DecidableEq, Repr

/-- R1: FREE, ACTIVE or PARKED. DESIGN CHOICE (notes/assumptions/29.md). -/
def entryState (s : State) (slot : Nat) : EntryState :=
  match volumeAt s slot with
  | none => .free
  | some _ => if s.volumes.active = some slot then .active else .parked

/-- The ACTIVE volume with its slot. -/
def activeVolume (s : State) : Option (Nat × Volume) :=
  match s.volumes.active with
  | none => none
  | some slot => (volumeAt s slot).map fun v => (slot, v)

/-- The slot of the ACTIVE volume, or 0xFF. -/
def activeSlotNumber (s : State) : Nat :=
  match activeVolume s with
  | some (slot, _) => slot
  | none => 255

/-- The allowance less the dose used (R90). -/
def doseRoom (v : Volume) : Nat := v.allowance - v.doseUsed

/-! ## Ring counts -/

/-- R129: the account ring's capacity; 0 while no map is in force. -/
def accountCapacity (s : State) : Nat :=
  match mapOf s with
  | some m => m.na
  | none => 0

/-- R129: unread = producer − consumer. -/
def accountUnread (s : State) : Nat := (s.account.producer - s.account.consumer).toNat

/-- R129: free = Na − unread − reserved. -/
def accountFree (s : State) : Nat := accountCapacity s - accountUnread s - s.account.reserved

/-- R157: the return ring's capacity; 0 while no map is in force. -/
def returnCapacity (s : State) : Nat :=
  match mapOf s with
  | some m => m.nr
  | none => 0

/-- R157: unread = producer − consumer. -/
def returnUnread (s : State) : Nat := (s.ret.producer - s.ret.consumer).toNat

/-- R162: the attention line. -/
def attention (s : State) : Bool := decide (returnUnread s ≠ 0 ∨ s.ret.queue ≠ [])

/-! ## The latched fault set (R163) -/

/-- Table 10-2, in the order of the status bits. -/
def allLatchedFaults : List LatchedFault :=
  [.profileChanged, .postFault, .foreignWrite, .returnOverrun, .headADown, .headBDown, .split, .slip, .platen, .lampV,
   .lampR, .lampHot, .accountFull, .settingsMap, .settingsMech]

/-- The set with a fault entered, in the order of Table 10-2. -/
def insertFault (l : List LatchedFault) (f : LatchedFault) : List LatchedFault :=
  allLatchedFaults.filter fun g => decide (g = f ∨ g ∈ l)

/-- Table 12-7: the set as bits, bit 0 PROFILE_CHANGED. -/
def latchedBits (l : List LatchedFault) : Nat :=
  (allLatchedFaults.zipIdx.map fun (f, i) => if f ∈ l then 2 ^ i else 0).sum

/-- The HEAD_A_DOWN or HEAD_B_DOWN fault. -/
def headFault : Head → LatchedFault
  | .a => .headADown
  | .b => .headBDown

/-- The LAMP_V or LAMP_R fault. -/
def lampFaultOf : Side → LatchedFault
  | .v => .lampV
  | .r => .lampR

/-! ## Angles and the park condition -/

/-- R55, R64: the circular distance of two angles. -/
def circular (a b : Nat) : Nat :=
  let d := if a ≤ b then b - a else a - b
  min d (4096 - d)

/-- R56: the fused angle is fresh while its age is at most 20 ms. -/
def fresh (now : Word) (f : Fix) : Bool := decide (elapsed now f.time ≤ 20)

/-- R88: how the park condition stands. -/
inductive ParkCheck where
  | noPosition | stale | outside | holds
  deriving DecidableEq, Repr

/-- R88: the park condition of the fused angle. -/
def parkCheck (s : State) : ParkCheck :=
  match s.position.fused with
  | none => .noPosition
  | some f =>
    if ¬ fresh s.ms f then .stale
    else if circular f.angle (mechOf s).park ≤ (mechOf s).parkWindow then .holds else .outside

/-- R88, R95: the detail of a NO_POSITION outcome. -/
def parkDetail : ParkCheck → Nat
  | .noPosition => 1
  | .stale => 2
  | .outside => 3
  | .holds => 0

/-- Both heads are DOWN. -/
def bothDown (s : State) : Bool := !s.position.heads.a.up && !s.position.heads.b.up

/-- Either head is DOWN (R43, R108). -/
def eitherDown (s : State) : Bool := !s.position.heads.a.up || !s.position.heads.b.up

/-! ## Bars -/

/-- The bar is FAILED. -/
def isFailed : BarState → Bool
  | .failed _ => true
  | .ready | .warm | .hot => false

/-- R88: the sides of a set whose bar is FAILED, as a number. -/
def failedSides (s : State) (sides : PerSide Bool) : Nat :=
  sidesNumber { v := sides.v && isFailed s.lamps.v.state, r := sides.r && isFailed s.lamps.r.state }

/-- R88: the sides of a set whose bar is HOT, as a number. -/
def hotSides (s : State) (sides : PerSide Bool) : Nat :=
  sidesNumber { v := sides.v && decide (s.lamps.v.state = .hot), r := sides.r && decide (s.lamps.r.state = .hot) }

/-- R86: D_max_eff of a bar. -/
def effectiveMax (s : State) (side : Side) : Nat :=
  if (s.lamps.get side).state = .warm then (mechOf s).dMax / 2 else (mechOf s).dMax

/-! ## Windows and patch statistics -/

/-- The frame length of a window. -/
def windowLength (w : Window) : Nat := w.stride * w.lines

/-- R120: the pixel count of a patch. -/
def patchPixels (p : Patch) : Nat := p.pw * p.ph

/-- R122: the mean. -/
def patchMean (w : Window) : Nat := if w.patchValid then w.patchSum / patchPixels w.patch else 0

/-- R122: the clip fraction. -/
def clipFraction (w : Window) : Nat := if w.patchValid then min 255 (w.clips * 256 / patchPixels w.patch) else 0

/-- R122: the DARK flag of a frame of a status. -/
def darkFlag (w : Window) (status : FrameStatus) : Bool :=
  decide (status = .complete) && w.patchValid && decide (patchMean w < 64)

/-- R122: the SATURATED flag of a frame of a status. -/
def saturatedFlag (w : Window) (status : FrameStatus) : Bool :=
  decide (status = .complete) && w.patchValid && decide (64 ≤ patchMean w)
    && decide (patchPixels w.patch / 16 ≤ w.clips)

/-- A flag as a bit of weight `n`. -/
def bitOf (b : Bool) (n : Nat) : Nat := if b then n else 0

/-- Table 12-5: the flags byte of a FRAME record. -/
def frameFlags (w : Window) (f : FireData) (status : FrameStatus) (unpressed : Bool) : Nat :=
  bitOf (darkFlag w status) 1 + bitOf (saturatedFlag w status) 2 + bitOf (!w.patchValid) 4 + bitOf f.doseLimited 8
    + bitOf f.derated 16 + bitOf unpressed 32 + bitOf f.singleHead 64

/-- R112: the status with which a full window completes. -/
def completionStatus (w : Window) : FrameStatus :=
  if w.cut then .cut else if w.disordered then .disordered else .complete

/-! ## The status block (R165) -/

/-- R165: the shadow of the status block, but for the millisecond counter at the write. -/
structure Shadow where
  startup : Nat
  cause : Nat
  arm : Nat
  activeSlot : Nat
  taken : Half
  returnPosted : Half
  returnConsumer : Half
  accountPosted : Half
  accountConsumer : Half
  faults : Nat
  foreignWrites : Nat
  overruns : Nat
  doseRemaining : Nat
  bars : PerSide Nat
  temps : PerSide Nat
  heads : PerHead Bool
  deriving DecidableEq, Repr

/-- Table 12-7: a bar's temperature, 0xFFFF when it has none. -/
def tempField (b : Bar) : Nat := b.temp.getD 65535

/-- R165: the shadow as the fields of the blocks give it. -/
def shadowOf (s : State) : Shadow :=
  { startup := startupNumber s.settings.startup, cause := causeNumber s.settings.cause, arm := armNumber s.seq.arm
    activeSlot := activeSlotNumber s, taken := s.tickets.taken
    returnPosted := s.ret.postedProducer, returnConsumer := s.ret.consumer
    accountPosted := s.account.postedProducer, accountConsumer := s.account.consumer
    faults := latchedBits s.ret.latched, foreignWrites := s.path.foreignWrites, overruns := s.ret.overruns
    doseRemaining := match activeVolume s with
      | some (_, v) => doseRoom v
      | none => 4294967295
    bars := { v := barNumber s.lamps.v.state, r := barNumber s.lamps.r.state }
    temps := { v := tempField s.lamps.v, r := tempField s.lamps.r }
    heads := { a := s.position.heads.a.up, b := s.position.heads.b.up } }

/-- Table 12-7: the 64 bytes of a status block write at counter value `now`. -/
def statusBytes (h : Shadow) (now : Word) : List Byte :=
  put8 h.startup ++ put8 h.cause ++ put8 h.arm ++ put8 h.activeSlot ++ put16 h.taken.toNat
    ++ put16 h.returnPosted.toNat ++ put16 h.returnConsumer.toNat ++ put16 h.accountPosted.toNat
    ++ put16 h.accountConsumer.toNat ++ zeros 2 ++ put32 h.faults ++ put16 h.foreignWrites ++ put16 h.overruns
    ++ put32 h.doseRemaining ++ put8 h.bars.v ++ put8 h.bars.r ++ put16 h.temps.v ++ put16 h.temps.r
    ++ put8 (bitOf h.heads.a 1) ++ put8 (bitOf h.heads.b 1) ++ zeros 24 ++ put32 now.toNat

end Sys2Proof.Machine
end

