-- ==== Sys2Proof/Machine/Return.lean ====
section
/-! DEFINITION. The return writer (Chapter 10): return records, the return ring and queue, overruns, latched faults, the
status block writes, the attend condition and the tone. -/
namespace Sys2Proof.Machine

/-! ## Records (Table 12-3) -/

/-- Table 12-3: the 16 bytes of a return record. -/
def returnBytes : ReturnRecord → List Byte
  | .completion kind tag outcome slot detail time =>
    put8 1 ++ put8 slot ++ put16 kind ++ put16 tag.toNat ++ put8 (outcomeNumber outcome) ++ zeros 1 ++ put32 detail
      ++ put32 time.toNat
  | .event code letter detail time =>
    put8 2 ++ put8 letter ++ put16 (eventNumber code) ++ zeros 4 ++ put32 detail ++ put32 time.toNat

/-- R183: a detail of two parts. -/
def twoPart (low high : Nat) : Nat := low % 65536 + 65536 * (high % 65536)

/-! ## The return ring and queue (R159 to R161) -/

/-- R159: place a record in the ring: the slot's marks are cleared, the producer index rises, and its write is placed. -/
def placeReturn (r : ReturnRecord) (s : State) : State :=
  match mapOf s with
  | none => s
  | some m =>
    let i := s.ret.producer
    let k := slotOf i m.nr
    placeInternal
      { purpose := .returnWrite i, addr := BitVec.ofNat 32 (m.returnBase + 16 * k), data := returnBytes r }
      { s with ret := { s.ret with
          producer := i + 1
          posted := unmark s.ret.posted k
          readMarks := unmark s.ret.readMarks k } }

/-- R160: a record finds the queue full: it is discarded and counted; the fault is latched and its event owed. -/
def discardReturn (s : State) : State :=
  let n := min 65535 (s.ret.overruns + 1)
  if LatchedFault.returnOverrun ∈ s.ret.latched then { s with ret := { s.ret with overruns := n } }
  else { s with ret := { s.ret with
      overruns := n
      latched := insertFault s.ret.latched .returnOverrun
      overrunPending := true } }

/-- R159: a record is handed over: it is placed, joins the queue, or is discarded. -/
def handReturn (r : ReturnRecord) (s : State) : State :=
  if s.ret.queue = [] ∧ returnUnread s < returnCapacity s then placeReturn r s
  else if s.ret.queue.length < 16 then { s with ret := { s.ret with queue := s.ret.queue ++ [r] } }
  else discardReturn s

/-- R160: a record has left the queue while an event is owed: the RETURN_OVERRUN event enters the tail. -/
def payOverrun (s : State) : State :=
  if s.ret.overrunPending then
    { s with ret := { s.ret with
        queue := s.ret.queue ++ [.event .returnOverrun 0 s.ret.overruns s.ms]
        overrunPending := false } }
  else s

/-- R159: move records from the head of the queue into the ring while there is room, at most `fuel` of them. -/
def refillReturn : Nat → State → State
  | 0, s => s
  | fuel + 1, s =>
    match s.ret.queue with
    | [] => s
    | r :: rest =>
      if returnUnread s < returnCapacity s then
        refillReturn fuel (payOverrun (placeReturn r { s with ret := { s.ret with queue := rest } }))
      else s

/-- R161: the consumer index passes over consecutive unread slots whose mark is set, at most `fuel` of them. -/
def advanceReturn : Nat → State → State
  | 0, s => s
  | fuel + 1, s =>
    let k := slotOf s.ret.consumer (returnCapacity s)
    if returnUnread s ≠ 0 ∧ k ∈ s.ret.readMarks then
      advanceReturn fuel { s with ret := { s.ret with
        consumer := s.ret.consumer + 1
        readMarks := unmark s.ret.readMarks k } }
    else s

/-- R161: a read of the closing word of return slot `k` is served. -/
def returnClosing (k : Nat) (s : State) : State :=
  if slotOffset s.ret.consumer k (returnCapacity s) < returnUnread s ∧ k ∈ s.ret.posted ∧ k ∉ s.ret.readMarks then
    let s1 := { s with ret := { s.ret with readMarks := mark s.ret.readMarks k } }
    let s2 := advanceReturn (returnUnread s1) s1
    refillReturn (s2.ret.queue.length + 1) s2
  else s

/-- R159: the write of the record of index `i` is served: its slot becomes posted. -/
def returnPosted (i : Half) (s : State) : State :=
  { s with ret := { s.ret with
      posted := mark s.ret.posted (slotOf i (returnCapacity s))
      postedProducer := i + 1 } }

/-! ## Completions, events and latched faults -/

/-- R37: hand over a completion. -/
def complete (kind : Nat) (tag : Half) (outcome : OutcomeCode) (slot detail : Nat) (s : State) : State :=
  handReturn (.completion kind tag outcome slot detail s.ms) s

/-- R158: hand over an event. -/
def raise (code : EventCode) (letter detail : Nat) (s : State) : State :=
  handReturn (.event code letter detail s.ms) s

/-- A fault enters the latched set. -/
def enterLatched (f : LatchedFault) (s : State) : State :=
  { s with ret := { s.ret with latched := insertFault s.ret.latched f } }

/-- R163: the cause of a fault is present at an examination: the fault is latched with its event when it is not in the
set. -/
def latch (f : LatchedFault) (code : EventCode) (letter detail : Nat) (s : State) : State :=
  if f ∈ s.ret.latched then s else raise code letter detail (enterLatched f s)

/-- R163: the same when the step also raises the owner's own event: one event is handed over. -/
def latchWithEvent (f : LatchedFault) (code : EventCode) (letter detail : Nat) (s : State) : State :=
  if f ∈ s.ret.latched then raise code letter detail s else raise code letter detail (enterLatched f s)

/-! ## The attend condition and the tone (R80, R167) -/

/-- R80, R167: a new arising of the attend condition: the pattern starts from an on period. -/
def attendArises (s : State) : State :=
  { s with seq := { s.seq with attend := true }, ret := { s.ret with tone := .attend true (after s.ms 250) } }

/-- R80, R167: the attend condition is cleared: the tone leaves ATTEND. -/
def attendClears (s : State) : State :=
  match s.ret.tone with
  | .attend _ _ => { s with seq := { s.seq with attend := false }, ret := { s.ret with tone := .silent } }
  | .silent | .chirp _ => { s with seq := { s.seq with attend := false } }

/-- The chirp option of the working settings. -/
def chirpOn (s : State) : Bool :=
  match mapOf s with
  | some m => m.chirp
  | none => false

/-- R167: a chirp signal. -/
def chirpSignal (s : State) : State :=
  if chirpOn s then
    match s.ret.tone with
    | .attend _ _ => s
    | .silent | .chirp _ => { s with ret := { s.ret with tone := .chirp (after s.ms 60) } }
  else s

/-! ## Status block writes (R166) -/

/-- R166: status block writes are placed in READY, in BARE, and in the LOADING of a warm restart. -/
def statusWritten (s : State) : Bool :=
  inService s || (decide (s.settings.startup = .loading) && s.settings.working.isSome)

/-- R166: place a status block write with the shadow as it stands. A write that finds the request queue full (R151)
keeps the contents and the time of its creation. DESIGN CHOICE (notes/assumptions/10.md). -/
def placeStatus (s : State) : State :=
  match mapOf s with
  | none => s
  | some m =>
    placeInternal
      { purpose := .statusWrite, addr := BitVec.ofNat 32 m.statusBase, data := statusBytes (shadowOf s) s.ms }
      { s with ret := { s.ret with statusWaiting := true, statusAgain := false, statusPlacedAt := s.ms } }

/-- R166, change: the step from `before` to `s` has changed a field of the shadow: a write is placed, or the shadow is
marked as changed again while one waits. DESIGN CHOICE (notes/assumptions/10.md). -/
def statusChange (before s : State) : State :=
  if statusWritten s ∧ shadowOf before ≠ shadowOf s then
    if s.ret.statusWaiting then { s with ret := { s.ret with statusAgain := true } } else placeStatus s
  else s

end Sys2Proof.Machine
end

