-- ==== Sys2Proof/Machine/Account.lean ====
section
/-! DEFINITION. The account writer (Chapter 8) and the exception list (section 1.4): record contents and bytes,
reservations, placing a record with its sequence and chain, read marks. -/
namespace Sys2Proof.Machine

/-! ## Writing a volume entry -/

/-- Replace the volume of a slot. -/
def setVolume (slot : Nat) (v : Option Volume) (s : State) : State :=
  { s with volumes := { s.volumes with entries := s.volumes.entries.set slot v } }

/-- Change the volume of a slot; nothing when the entry is FREE. -/
def modifyVolume (slot : Nat) (f : Volume → Volume) (s : State) : State :=
  match volumeAt s slot with
  | none => s
  | some v => setVolume slot (some (f v)) s

/-! ## The exception list (R21) -/

/-- The place of a leaf side in the order of R21: ascending leaf, side V before side R. -/
def exceptionKey (leaf : Nat) (side : Side) : Nat :=
  match side with
  | .v => 2 * leaf
  | .r => 2 * leaf + 1

/-- The key of an entry. -/
def entryKey (e : ExceptionEntry) : Nat := exceptionKey e.leaf e.side

/-- Insert an entry at the position that keeps the order. -/
def insertException (e : ExceptionEntry) : List ExceptionEntry → List ExceptionEntry
  | [] => [e]
  | x :: xs => if entryKey e < entryKey x then e :: x :: xs else x :: insertException e xs

/-- An entry for the same leaf side is present. -/
def hasEntry (e : ExceptionEntry) (l : List ExceptionEntry) : Bool :=
  l.any fun x => decide (entryKey x = entryKey e)

/-- R21: an entry offered to the list can be placed: its leaf side is present, or there is room. -/
def canPlace (e : ExceptionEntry) (l : List ExceptionEntry) : Bool :=
  hasEntry e l || decide (l.length < 16)

/-- R21, R23: an entry is offered to a volume's list: its reason replaces that of an entry present, or it is inserted,
or the overfull flag is set. -/
def offerException (e : ExceptionEntry) (v : Volume) : Volume :=
  if hasEntry e v.exceptions then
    { v with exceptions := v.exceptions.map fun x => if entryKey x = entryKey e then e else x }
  else if v.exceptions.length < 16 then { v with exceptions := insertException e v.exceptions }
  else { v with overfull := true }

/-- R22: any entry for a leaf side is removed. -/
def removeException (leaf : Nat) (side : Side) (v : Volume) : Volume :=
  { v with exceptions := v.exceptions.filter fun x => decide (entryKey x ≠ exceptionKey leaf side) }

/-- R22: a frame of this status acts on the exception list of its volume. -/
def frameException (leaf : Nat) (side : Side) (status : FrameStatus) (v : Volume) : Volume :=
  match status with
  | .complete => removeException leaf side v
  | .disordered => offerException { leaf := leaf, side := side, reason := .disordered } v
  | .cut => offerException { leaf := leaf, side := side, reason := .cut } v
  | .lost => offerException { leaf := leaf, side := side, reason := .lost } v

/-! ## Record contents (R137 to R140, Tables 12-5, 12-6) -/

/-- What a record says, by kind. -/
inductive AccountContent where
  | opened (leafCount start allowance target exposure codeV codeR : Nat)
  | frame (leaf : Nat) (side : Side) (status : FrameStatus) (take flags code mean clip exposure temp : Nat)
      (digest : Word)
  | noteManual (before after_ : Nat)
  | noteSkip (first count sides placed notInserted : Nat)
  | exception (leaf : Nat) (side : Side) (reason : ExceptionReason) (position count : Nat)
  | closed (captureCount doseUsed allowance opening count : Nat) (overfull : Bool) (finalChain : Word)
  deriving DecidableEq, Repr

/-- Table 12-5: the record kind. -/
def contentKind : AccountContent → Nat
  | .opened _ _ _ _ _ _ _ => 1
  | .frame _ _ _ _ _ _ _ _ _ _ _ => 2
  | .noteManual _ _ => 3
  | .noteSkip _ _ _ _ _ => 3
  | .exception _ _ _ _ _ => 4
  | .closed _ _ _ _ _ _ _ => 5

/-- Tables 12-5 and 12-6: bytes 42 to 59 of a record. -/
def contentBytes : AccountContent → List Byte
  | .opened leafCount start allowance target exposure codeV codeR =>
    put16 leafCount ++ put16 start ++ put32 allowance ++ put16 target ++ put8 exposure ++ zeros 1 ++ put16 codeV
      ++ put16 codeR ++ zeros 2
  | .frame leaf side status take flags code mean clip exposure temp digest =>
    put16 leaf ++ put8 (sideNumber side) ++ put8 (statusNumber status) ++ put8 take ++ put8 flags ++ put16 code
      ++ put16 mean ++ put8 clip ++ put8 exposure ++ put8 temp ++ zeros 1 ++ put32 digest.toNat
  | .noteManual before after_ => put8 1 ++ zeros 1 ++ put16 before ++ put16 after_ ++ zeros 12
  | .noteSkip first count sides placed notInserted =>
    put8 2 ++ zeros 1 ++ put16 first ++ put8 count ++ put8 sides ++ put8 placed ++ put8 notInserted ++ zeros 10
  | .exception leaf side reason position count =>
    put16 leaf ++ put8 (sideNumber side) ++ put8 (reasonNumber reason) ++ put8 position ++ put8 count ++ zeros 12
  | .closed captureCount doseUsed allowance opening count overfull finalChain =>
    put16 captureCount ++ put32 doseUsed ++ put32 allowance ++ put16 opening ++ put8 count ++ put8 (bitOf overfull 1)
      ++ put32 finalChain.toNat

/-- R136, Table 12-5: the first 60 bytes of a record: the common part and the content. -/
def recordBytes (slot : Nat) (v : Volume) (time : Word) (c : AccountContent) : List Byte :=
  put8 (contentKind c) ++ put8 slot ++ put8 v.shelfMark.length ++ v.shelfMark ++ zeros (32 - v.shelfMark.length)
    ++ zeros 1 ++ put32 v.nextSequence.toNat ++ put16 time.toNat ++ contentBytes c

/-- R141: the chain value of a record: the CRC-32 of the previous chain value followed by its first 60 bytes. -/
def chainValue (previous : Word) (bytes : List Byte) : Word := crc32 (put32 previous.toNat ++ bytes)

/-- The volume entry after a record with these 60 bytes has been numbered and chained (R132, steps 1 and 3). -/
def chained (v : Volume) (bytes : List Byte) : Volume :=
  { v with nextSequence := v.nextSequence + 1, chain := chainValue v.chain bytes }

/-! ## Reservations (R130, R131) -/

/-- R130: a reservation request for `n` slots is granted. -/
def grantSlots (n : Nat) (s : State) : State :=
  { s with account := { s.account with reserved := s.account.reserved + n } }

/-- R131: a reservation request for `n` slots is refused for lack of room. -/
def refuseSlots (n : Nat) (s : State) : State :=
  latch .accountFull .accountFull 0 (twoPart n (accountFree s)) s

/-- R130: `n` reservations are released. -/
def releaseSlots (n : Nat) (s : State) : State :=
  { s with account := { s.account with reserved := s.account.reserved - n } }

/-! ## Placing records (R132) -/

/-- R132, step 4: the record takes the slot at the producer index. -/
def takeAccountSlot (s : State) : State :=
  let k := slotOf s.account.producer (accountCapacity s)
  { s with account := { s.account with
      producer := s.account.producer + 1
      reserved := s.account.reserved - 1
      posted := unmark s.account.posted k
      readMarks := unmark s.account.readMarks k } }

/-- R132, step 5: the write of a record of index `i` is placed in the internal request queue. -/
def placeAccountWrite (i : Half) (bytes : List Byte) (s : State) : State :=
  match mapOf s with
  | none => s
  | some m =>
    placeInternal
      { purpose := .accountWrite i, addr := BitVec.ofNat 32 (m.accountBase + 64 * slotOf i m.na), data := bytes } s

/-- R132: the 64 bytes of the record of a content on a volume: its first 60 bytes and its chain value. -/
def accountBytes (slot : Nat) (v : Volume) (time : Word) (c : AccountContent) : List Byte :=
  let bytes := recordBytes slot v time c
  bytes ++ put32 (chainValue v.chain bytes).toNat

/-- R132, steps 1 to 4: the record is numbered, stamped, chained and takes its slot. -/
def numberRecord (slot : Nat) (v : Volume) (c : AccountContent) (s : State) : State :=
  takeAccountSlot (setVolume slot (some (chained v (recordBytes slot v s.ms c))) s)

/-- R132: a record is handed to the account writer; its write is placed at once. -/
def handAccount (slot : Nat) (c : AccountContent) (s : State) : State :=
  match volumeAt s slot with
  | none => s
  | some v => placeAccountWrite s.account.producer (accountBytes slot v s.ms c) (numberRecord slot v c s)

/-! ## Posting, read marks and the consumer index (R133 to R135, R117) -/

/-- R133: the write of the record of index `i` is served: its slot becomes posted. -/
def accountPosted (i : Half) (s : State) : State :=
  { s with account := { s.account with
      posted := mark s.account.posted (slotOf i (accountCapacity s))
      postedProducer := i + 1 } }

/-- R117: every guard that holds this account ring index is freed. -/
def releaseGuards (i : Half) (s : State) : State :=
  { s with frames := { s.frames with
      guards := s.frames.guards.map fun g =>
        match g with
        | some h => if h.index = i then none else some h
        | none => none } }

/-- R135: the consumer index passes over consecutive unread slots whose mark is set, at most `fuel` of them. -/
def advanceAccount : Nat → State → State
  | 0, s => s
  | fuel + 1, s =>
    let k := slotOf s.account.consumer (accountCapacity s)
    if accountUnread s ≠ 0 ∧ k ∈ s.account.readMarks then
      advanceAccount fuel { s with account := { s.account with
        consumer := s.account.consumer + 1
        readMarks := unmark s.account.readMarks k } }
    else s

/-- R134, R135: a read of the closing word of account slot `k` is served. -/
def accountClosing (k : Nat) (s : State) : State :=
  let d := slotOffset s.account.consumer k (accountCapacity s)
  if d < accountUnread s ∧ k ∈ s.account.posted ∧ k ∉ s.account.readMarks then
    let s1 := { s with account := { s.account with readMarks := mark s.account.readMarks k } }
    let s2 := releaseGuards (s.account.consumer + BitVec.ofNat 16 d) s1
    advanceAccount (accountUnread s2) s2
  else s

end Sys2Proof.Machine
end

