-- ==== Sys2Proof/Machine/Link.lean ====
section
/-! DEFINITION. The sensor link (section 3.3): pending requests, the choice of the next exchange, and the discards of a
restart. -/
namespace Sys2Proof.Machine

/-- A POLL request of a bar is pending. -/
def pollPending (n : PollNeed) : Bool := n.routine || n.verify

/-- R48: the exchange that stands first among the pending requests. -/
def nextExchange (l : SensorLink) : Option Exchange :=
  match l.loads.v, l.loads.r, l.samples.a, l.samples.b with
  | some c, _, _, _ => some (.load .v c)
  | none, some c, _, _ => some (.load .r c)
  | none, none, some q, _ => some (.sample .a q)
  | none, none, none, some q => some (.sample .b q)
  | none, none, none, none =>
    if pollPending l.polls.v then some (.poll .v) else if pollPending l.polls.r then some (.poll .r) else none

/-- The request of an exchange is no longer pending. -/
def takeRequest (x : Exchange) (l : SensorLink) : SensorLink :=
  match x with
  | .load side _ => { l with loads := l.loads.set side none }
  | .sample head _ => { l with samples := l.samples.set head none }
  | .poll side => { l with polls := l.polls.set side { routine := false, verify := false } }

/-- R92: the LOAD exchange of a bar whose LOAD the present fire has placed is under way. -/
def loadStarts (x : Exchange) (lamps : PerSide Bar) : PerSide Bar :=
  match x with
  | .load side _ =>
    if (lamps.get side).load = .placed then lamps.set side { lamps.get side with load := .underway } else lamps
  | .sample _ _ => lamps
  | .poll _ => lamps

/-- R48, R49: the free link starts the pending exchange that stands first, in READY and in BARE. -/
def startExchange (s : State) : State :=
  if inService s ∧ s.link.exchange = none then
    match nextExchange s.link with
    | none => s
    | some x =>
      { s with link := { takeRequest x s.link with exchange := some x }, lamps := loadStarts x s.lamps }
  else s

/-- The exchange under way ends and the link is free. -/
def endExchange (s : State) : State :=
  { s with link := { s.link with exchange := none, discard := false } }

/-- R49: pending requests are discarded, and the in-word of an exchange under way is to be discarded. -/
def discardRequests (s : State) : State :=
  { s with link := { SensorLink.fullReset with exchange := s.link.exchange, discard := s.link.exchange.isSome } }

/-- R48: place a POLL request of a bar for the routine schedule; one already pending serves. -/
def placeRoutinePoll (side : Side) (s : State) : State :=
  { s with link := { s.link with polls := s.link.polls.set side { s.link.polls.get side with routine := true } } }

/-- R92: place a verifying POLL of a bar; one already pending serves. -/
def placeVerifyPoll (side : Side) (s : State) : State :=
  { s with link := { s.link with polls := s.link.polls.set side { s.link.polls.get side with verify := true } } }

/-- R92: place a LOAD request of a bar. -/
def placeLoad (side : Side) (code : Nat) (s : State) : State :=
  { s with link := { s.link with loads := s.link.loads.set side (some code) }
           lamps := s.lamps.set side { s.lamps.get side with load := .placed } }

/-- R51: place an encoder sample request of a head, unless one is pending. -/
def placeSample (head : Head) (q : SampleRequest) (s : State) : State :=
  match s.link.samples.get head with
  | some _ => s
  | none => { s with link := { s.link with samples := s.link.samples.set head (some q) } }

/-- R95: the pending LOAD and verifying POLL needs of a fire are withdrawn; a POLL the routine schedule needs stays. -/
def withdrawLoads (s : State) : State :=
  { s with
    link := { s.link with
      loads := { v := none, r := none }
      polls := { v := { s.link.polls.v with verify := false }, r := { s.link.polls.r with verify := false } } }
    lamps := { v := { s.lamps.v with load := .none }, r := { s.lamps.r with load := .none } } }

end Sys2Proof.Machine
end

