-- ==== Sys2Proof/Machine/Frames.lean ====
section
/-! DEFINITION. The frame tracker and the regulator (sections 6.2, 6.3, Chapter 7): windows, frame words, completion,
timeout, guards, and the drive code derived from a completed frame. -/
namespace Sys2Proof.Machine

/-! ## Windows and guards -/

/-- The window of an entry; none when it is free. -/
def windowAt (s : State) (i : Nat) : Option Window := (s.frames.windows[i]?).join

/-- Replace an entry of the armed window table. -/
def setWindow (i : Nat) (w : Option Window) (s : State) : State :=
  { s with frames := { s.frames with windows := s.frames.windows.set i w } }

/-- The number of armed window entries in use. -/
def windowsInUse (s : State) : Nat := s.frames.windows.countP fun w => w.isSome

/-- The number of guard entries in use. -/
def guardsInUse (s : State) : Nat := s.frames.guards.countP fun g => g.isSome

/-- An armed window belongs to the volume of a slot. -/
def windowOfSlot (s : State) (slot : Nat) : Bool :=
  s.frames.windows.any fun w =>
    match w with
    | some x => decide (x.slot = slot)
    | none => false

/-- The entries of the windows of the capture in EXPOSING whose strobe is raised: FILLING with no strobe end. -/
def isLit (w : Option Window) : Bool :=
  match w with
  | some x => x.filling && x.strobeEnd.isNone
  | none => false

/-- The first free entry of a table. -/
def firstFree {α : Type} (l : List (Option α)) : Nat := l.findIdx fun x => x.isNone

/-! ## The regulator (R123 to R126) -/

/-- R125: the ratio step. -/
def ratioCode (d t m : Nat) : Nat := (d * t + m / 2) / m

/-- R126: the step limit, then the range. -/
def limitCode (d candidate dMin dMaxEff : Nat) : Nat :=
  let limit := max 1 (d / 4)
  clamp dMin dMaxEff (clamp (d - limit) (d + limit) candidate)

/-- R124 to R126: the new code of a frame lit at code `d`, with target `t`, mean `m`, clip count `c` and `n` pixels; none
when the frame leaves the code alone. -/
def regulate (d t m c n dMin dMaxEff : Nat) : Option Nat :=
  if m < 64 then none
  else if n / 16 ≤ c then some (limitCode d (d - d / 4) dMin dMaxEff)
  else if (if m ≤ t then t - m else m - t) ≤ t / 64 then none
  else some (limitCode d (ratioCode d t m) dMin dMaxEff)

/-- R123, R127: the regulator runs for a COMPLETE frame with a valid patch on a volume with regulation on, and stores
the code it forms. -/
def runRegulator (w : Window) (f : FireData) (status : FrameStatus) (s : State) : State :=
  match volumeAt s w.slot with
  | none => s
  | some v =>
    if status = .complete ∧ w.patchValid ∧ v.regulation then
      match regulate f.code v.target (patchMean w) w.clips (patchPixels w.patch) (mechOf s).dMin
          (effectiveMax s w.side) with
      | none => s
      | some d => setVolume w.slot (some { v with drive := v.drive.set w.side d }) s
    else s

/-! ## The FRAME record and the end of a frame -/

/-- R110: the digest of a frame: the CRC-32 when COMPLETE, otherwise 0. -/
def frameDigest (w : Window) (status : FrameStatus) : Word :=
  if status = .complete then w.crc ^^^ 0xFFFFFFFF else 0

/-- The measured exposure a window carries. -/
def windowExposure (w : Window) : Nat :=
  match w.strobeEnd with
  | some (_, t) => t
  | none => 0

/-- R138: the content of the FRAME record of a window that ends with a status. -/
def frameContent (w : Window) (f : FireData) (status : FrameStatus) (v : Volume) : AccountContent :=
  .frame f.leaf w.side status f.take (frameFlags w f status v.unpressed) f.code (patchMean w) (clipFraction w)
    (windowExposure w) f.temp (frameDigest w status)

/-- R107: the partner of a window that ends while its own partner end is none is told the status. -/
def tellPartner (w : Window) (status : FrameStatus) (s : State) : State :=
  match w.partner, w.partnerEnd with
  | some j, none =>
    match windowAt s j with
    | some p => setWindow j (some { p with partnerEnd := some status }) s
    | none => s
  | _, _ => s

/-- R112: the completing frame of a capture whose frames are all COMPLETE. -/
def capturePerfect (w : Window) (status : FrameStatus) : Bool :=
  decide (status = .complete) && (w.partner.isNone || decide (w.partnerEnd = some .complete))

/-- R115: the buffer of a completed frame enters the guard table with the index of its FRAME record, and the window's
guard reservation becomes the guard entry. -/
def enterGuard (w : Window) (index : Half) (s : State) : State :=
  { s with frames := { s.frames with
      guards := s.frames.guards.set (firstFree s.frames.guards)
        (some { base := w.base, length := windowLength w, index := index, hit := false })
      guardReserved := s.frames.guardReserved - 1 } }

/-- R112, R113: the FRAME record is numbered and takes its slot, and the status acts on the exception list, as one step
on the volume. -/
def accountFrame (w : Window) (f : FireData) (status : FrameStatus) (v : Volume) (s : State) : State :=
  modifyVolume w.slot (frameException f.leaf w.side status) (numberRecord w.slot v (frameContent w f status v) s)

/-- R112: the frame of entry `i` completes: the regulator, the FRAME record, the exception list, the guard, and then
the write of the record. A chirp is signalled when every frame of the capture is COMPLETE. -/
def completeFrame (i : Nat) (w : Window) (f : FireData) (s : State) : State :=
  let status := completionStatus w
  let s1 := runRegulator w f status s
  match volumeAt s1 w.slot with
  | none => s
  | some v =>
    let index := s1.account.producer
    let bytes := accountBytes w.slot v s1.ms (frameContent w f status v)
    let s2 := accountFrame w f status v s1
    let s3 := tellPartner w status (setWindow i none (enterGuard w index s2))
    let s4 := placeAccountWrite index bytes s3
    if capturePerfect w status then chirpSignal s4 else s4

/-- R111: a window whose FULL mark and strobe end are both set completes. -/
def completeIfFull (i : Nat) (s : State) : State :=
  match windowAt s i with
  | none => s
  | some w =>
    match w.fire with
    | none => s
    | some f => if w.filling ∧ w.full ∧ w.strobeEnd.isSome then completeFrame i w f s else s

/-- R113: the frame of entry `i` is lost at its timeout. A window whose CUT mark is set is lost with the status LOST
too, as R113 has it; R111 says CUT. DESIGN CHOICE (notes/assumptions/35.md). -/
def loseFrame (i : Nat) (w : Window) (f : FireData) (s : State) : State :=
  let s1 := setWindow i none { s with frames := { s.frames with guardReserved := s.frames.guardReserved - 1 } }
  match volumeAt s1 w.slot with
  | none => s
  | some v =>
    let bytes := accountBytes w.slot v s1.ms (frameContent w f .lost v)
    tellPartner w .lost (placeAccountWrite s1.account.producer bytes (accountFrame w f .lost v s1))

/-- R113: the frame timeout of entry `i` has expired. -/
def frameExpired (i : Nat) (s : State) : State :=
  match windowAt s i with
  | none => s
  | some w =>
    match w.fire, w.strobeEnd with
    | some f, some (ended, _) =>
      if w.filling ∧ reached s.ms (after ended (mechOf s).frameTimeout) then loseFrame i w f s else s
    | _, _ => s

/-! ## Words in a FILLING window (R109, R119, R121) -/

/-- R119: the two pixels of a word. -/
def pixelsOf (data : Word) : Nat × Nat := (data.toNat % 65536, data.toNat / 65536)

/-- R121: the two pixels of the word at an offset lie in a patch's lines and columns. -/
def inPatch (w : Window) (off : Nat) : Bool :=
  let y := off / w.stride
  let x := (off - y * w.stride) / 2
  decide (w.patch.x0 ≤ x ∧ x < w.patch.x0 + w.patch.pw ∧ w.patch.y0 ≤ y ∧ y < w.patch.y0 + w.patch.ph)

/-- R121: the clip count a pixel adds. -/
def clipOf (level pixel : Nat) : Nat := if level ≤ pixel then 1 else 0

/-- R121: an accepted word passed to the patch statistics. -/
def addPixels (level off : Nat) (data : Word) (w : Window) : Window :=
  if w.patchValid ∧ inPatch w off then
    { w with patchSum := w.patchSum + (pixelsOf data).1 + (pixelsOf data).2
             clips := w.clips + clipOf level (pixelsOf data).1 + clipOf level (pixelsOf data).2 }
  else w

/-- R111: a window whose fill has reached its length sets its FULL mark. -/
def setFull (w : Window) : Window := if windowLength w ≤ w.fill then { w with full := true } else w

/-- R109, Table 6-4: a word at an offset in a FILLING window: accepted, partial, overwrite or gap. -/
def judgeWord (level off : Nat) (word : BusWord) (w : Window) : Window :=
  if off = w.fill then
    if word.be = 15 then
      setFull { addPixels level off word.data w with
        crc := crc32Bytes w.crc [wordByte word.data 0, wordByte word.data 1, wordByte word.data 2, wordByte word.data 3]
        fill := w.fill + 4 }
    else setFull { w with disordered := true, fill := w.fill + 4 }
  else if off < w.fill then { w with disordered := true }
  else setFull { w with disordered := true, fill := off + 4 }

/-- R109, R111, R149: a word of an upstream write that falls in the FILLING window of entry `i`. -/
def frameWord (i : Nat) (addr : Word) (word : BusWord) (s : State) : State :=
  match windowAt s i with
  | none => s
  | some w =>
    if w.filling then
      completeIfFull i (setWindow i (some (judgeWord (mechOf s).clipLevel (addr.toNat - w.base) word w)) s)
    else s

/-! ## Guards and given-up windows -/

/-- R116: a word has been dropped by guard `i`: the first sets its hit mark and raises GUARD_HIT. -/
def guardWord (i : Nat) (addr : Word) (s : State) : State :=
  match (s.frames.guards[i]?).join with
  | none => s
  | some g =>
    if g.hit then s
    else raise .guardHit 0 addr.toNat
      { s with frames := { s.frames with guards := s.frames.guards.set i (some { g with hit := true }) } }

/-- An entry holds an ARMED window. -/
def isArmed (w : Option Window) : Bool :=
  match w with
  | some x => !x.filling
  | none => false

/-- R114: the ARMED windows are given up: their entries are freed, their guard and account reservations released. -/
def giveUpWindows (s : State) : State :=
  let n := s.frames.windows.countP isArmed
  releaseSlots n
    { s with frames := { s.frames with
        windows := s.frames.windows.map fun w => if isArmed w then none else w
        guardReserved := s.frames.guardReserved - n } }

/-! ## Arming (R107, R108, R120) -/

/-- R107, R120: a window as it is armed, for a side of a capture of a slot. -/
def armedWindow (m : MechSettings) (slot : Nat) (p : CaptureParams) (side : Side) (partner : Option Nat) : Window :=
  let patch := patchOf m side
  { filling := false, side := side, slot := slot, base := p.buffer.get side, stride := p.stride, width := p.width,
    lines := p.lines, partner := partner, partnerEnd := none, fire := none, strobeEnd := none, fill := 0,
    crc := 0xFFFFFFFF, patchSum := 0, clips := 0, disordered := false, cut := false, full := false, patch := patch,
    patchValid := decide (patch.x0 + patch.pw ≤ p.width ∧ patch.y0 + patch.ph ≤ p.lines) }

/-- R108: the windows of a capture are placed in the lowest-numbered free entries, side V first. -/
def armWindows (slot : Nat) (p : CaptureParams) (s : State) : State :=
  let i := firstFree s.frames.windows
  if p.sides.v ∧ p.sides.r then
    let j := firstFree (s.frames.windows.set i (some (armedWindow (mechOf s) slot p .v none)))
    setWindow j (some (armedWindow (mechOf s) slot p .r (some i)))
      (setWindow i (some (armedWindow (mechOf s) slot p .v (some j))) s)
  else if p.sides.v then setWindow i (some (armedWindow (mechOf s) slot p .v none)) s
  else if p.sides.r then setWindow i (some (armedWindow (mechOf s) slot p .r none)) s
  else s

/-- R108: single-head mark of a window whose strobe is raised, when a head goes DOWN. -/
def markSingleHead (s : State) : State :=
  { s with frames := { s.frames with
      windows := s.frames.windows.map fun w =>
        match w with
        | some x =>
          if isLit (some x) then some { x with fire := x.fire.map fun f => { f with singleHead := true } } else some x
        | none => none } }

end Sys2Proof.Machine
end

