-- ==== Sys2Proof/Machine/Capture.lean ====
section
/-! DEFINITION. The capture unit (sections 5.2, 5.3, 6.1): acquisition, the gate, the charge, the strobe and the ends of
a capture. -/
namespace Sys2Proof.Machine

/-- The capture unit is FREE (R100). -/
def captureFree (s : State) : Bool := decide (s.capture.state = .free)

/-- The capture unit is EXPOSING (R100). -/
def isExposing (s : State) : Bool :=
  match s.capture.state with
  | .exposing _ _ => true
  | .free | .holding _ => false

/-- The capture the unit holds, if any. -/
def heldCapture (s : State) : Option CaptureRecord :=
  match s.capture.state with
  | .free => none
  | .holding c => some c
  | .exposing c _ => some c

/-- Replace the capture state. -/
def setCapture (c : CaptureState) (s : State) : State :=
  { s with capture := { s.capture with state := c } }

/-! ## Ends of a capture (R106) -/

/-- R106: the capture ends: its completion is handed over with the slot of its record, and the unit is FREE. -/
def endCapture (outcome : OutcomeCode) (detail : Nat) (s : State) : State :=
  match heldCapture s with
  | none => s
  | some c => complete (kindNumber c.kind) c.tag outcome c.slot detail (setCapture .free s)

/-- R106: the take and charge detail. -/
def takeAndCharge (f : FireRecord) : Nat := f.take % 256 + 256 * f.charge

/-- R88, R90, R114: a fire is refused before its charge. -/
def refuseFire (outcome : OutcomeCode) (detail : Nat) (s : State) : State :=
  endCapture outcome detail (giveUpWindows s)

/-- R95, R114: a charged fire is abandoned. -/
def abandonFire (outcome : OutcomeCode) (detail : Nat) (s : State) : State :=
  endCapture outcome detail (giveUpWindows (withdrawLoads s))

/-! ## The strobe (R93, R94) -/

/-- R87: all strobe and trigger lines are lowered. -/
def lowerLines (s : State) : State :=
  { s with capture := { s.capture with strobe := { v := false, r := false }, trig := { v := false, r := false } } }

/-- R108, R111: each lit window is given its strobe end with the measured exposure, and its CUT mark on a cut. -/
def giveStrobeEnd (exposure : Nat) (isCut : Bool) (s : State) : State :=
  { s with frames := { s.frames with
      windows := s.frames.windows.map fun w =>
        match w with
        | some x =>
          if isLit (some x) then some { x with strobeEnd := some (s.ms, exposure), cut := x.cut || isCut } else some x
        | none => none } }

/-- R111: the windows that are full complete at the strobe end. -/
def completeFullWindows (s : State) : State :=
  completeIfFull 3 (completeIfFull 2 (completeIfFull 1 (completeIfFull 0 s)))

/-- R93, R94: the strobe ends, whole or cut, and the capture completes. DESIGN CHOICE (notes/assumptions/7.md). -/
def strobeEnds (f : FireRecord) (exposure : Nat) (isCut : Bool) (outcome : OutcomeCode) (s : State) : State :=
  endCapture outcome (takeAndCharge f) (completeFullWindows (giveStrobeEnd exposure isCut (lowerLines s)))

/-- R94: a cause of Table 5-3 reaches a raised strobe. When the exposure time has already passed the strobe has ended
whole. DESIGN CHOICE (notes/assumptions/21.md). -/
def cutStrobe (f : FireRecord) (raisedAt : Word) (outcome : OutcomeCode) (s : State) : State :=
  if f.exposure ≤ elapsed s.ms raisedAt then strobeEnds f f.exposure false .done s
  else strobeEnds f (elapsed s.ms raisedAt) true outcome s

/-- R96, R108: the fire data of a window at the strobe's raise. -/
def fireDataOf (f : FireRecord) (single : Bool) (side : Side) : Option FireData :=
  (f.sides.get side).map fun x =>
    { leaf := match side with
        | .v => f.opening
        | .r => f.opening + 1
      take := f.take, code := x.code, derated := x.derated, doseLimited := x.doseLimited, temp := x.temp,
      singleHead := single }

/-- R93, R108: the lines of the capture's sides are raised and its ARMED windows enter FILLING. -/
def raiseStrobe (c : CaptureRecord) (f : FireRecord) (s : State) : State :=
  { s with
    capture := { state := .exposing c (.strobe f s.ms), strobe := c.params.sides, trig := c.params.sides }
    frames := { s.frames with
      windows := s.frames.windows.map fun w =>
        match w with
        | some x =>
          if isArmed (some x) then some { x with filling := true, fire := fireDataOf f (eitherDown s) x.side }
          else some x
        | none => none } }

/-- R92: every bar of the capture is loaded. -/
def allLoaded (s : State) (sides : PerSide Bool) : Bool :=
  (!sides.v || decide (s.lamps.v.load = .loaded)) && (!sides.r || decide (s.lamps.r.load = .loaded))

/-- R93, R95: the final park check: the strobe is raised, or the fire is abandoned with the cause park. -/
def finalParkCheck (c : CaptureRecord) (f : FireRecord) (s : State) : State :=
  if s.seq.arm ≠ .idle then abandonFire .armFault (armNumber s.seq.arm) s
  else
    match parkCheck s with
    | .holds => raiseStrobe c f s
    | .noPosition => abandonFire .noPosition 1 s
    | .stale => abandonFire .noPosition 2 s
    | .outside => abandonFire .noPosition 3 s

/-! ## The charge (R89 to R91) -/

/-- R89: the code of a side clamped to [D_min, D_max_eff]. -/
def clampedCode (s : State) (v : Volume) (side : Side) : Nat :=
  clamp (mechOf s).dMin (effectiveMax s side) (v.drive.get side)

/-- R89: the side is marked DERATED. -/
def deratedMark (s : State) (v : Volume) (side : Side) : Bool :=
  decide (effectiveMax s side < v.drive.get side ∧ effectiveMax s side < (mechOf s).dMax)

/-- The sum of a value over the sides of a set. -/
def sumSides (sides : PerSide Bool) (x : PerSide Nat) : Nat :=
  (if sides.v then x.v else 0) + (if sides.r then x.r else 0)

/-- R90: the clamped codes. -/
def clampedCodes (s : State) (v : Volume) : PerSide Nat := { v := clampedCode s v .v, r := clampedCode s v .r }

/-- R90: the cap common to the sides. -/
def doseCap (v : Volume) (sides : PerSide Bool) : Nat := doseRoom v / (sideCount sides * v.exposure)

/-- R90: the dose cap applies: Σ × t exceeds R. -/
def capApplies (s : State) (v : Volume) (sides : PerSide Bool) : Bool :=
  decide (doseRoom v < sumSides sides (clampedCodes s v) * v.exposure)

/-- R90: the final codes. -/
def finalCodes (s : State) (v : Volume) (sides : PerSide Bool) : PerSide Nat :=
  if capApplies s v sides then
    { v := min (clampedCode s v .v) (doseCap v sides), r := min (clampedCode s v .r) (doseCap v sides) }
  else clampedCodes s v

/-- R91: the dose a fire charges. -/
def fireCharge (s : State) (v : Volume) (sides : PerSide Bool) : Nat :=
  sumSides sides (finalCodes s v sides) * v.exposure

/-- R91: the volume entry after the charge. -/
def chargedVolume (s : State) (v : Volume) (sides : PerSide Bool) : Volume :=
  { v with doseUsed := v.doseUsed + fireCharge s v sides, take := min 255 (v.take + 1),
           captureCount := min 65535 (v.captureCount + 1) }

/-- R89, R90, R96: what the fire keeps of a side. -/
def sideFire (s : State) (v : Volume) (sides : PerSide Bool) (side : Side) : Option SideFire :=
  if sides.get side then
    some { code := (finalCodes s v sides).get side, bound := effectiveMax s side, derated := deratedMark s v side,
           doseLimited := capApplies s v sides, temp := 0 }
  else none

/-- R91, R96: what the fire keeps. -/
def fireRecord (s : State) (v : Volume) (sides : PerSide Bool) : FireRecord :=
  { exposure := v.exposure, charge := fireCharge s v sides, take := min 255 (v.take + 1), opening := v.opening,
    sides := { v := sideFire s v sides .v, r := sideFire s v sides .r } }

/-- R92: a side's final code is handed to the lamp unit. -/
def handCode (side : Side) (x : Option SideFire) (s : State) : State :=
  match x with
  | none => s
  | some f =>
    placeLoad side f.code { s with lamps := s.lamps.set side { s.lamps.get side with echo := .none } }

/-- R89 to R92: the gate has passed: the fire is refused at the dose cap, or it is charged and its load stage begins. -/
def chargeFire (c : CaptureRecord) (s : State) : State :=
  match volumeAt s c.slot with
  | none => s
  | some v =>
    let sides := c.params.sides
    if capApplies s v sides ∧ doseCap v sides < (mechOf s).dMin then refuseFire .allowance (doseCap v sides) s
    else
      let f := fireRecord s v sides
      handCode .r f.sides.r (handCode .v f.sides.v
        (withdrawLoads (setCapture (.exposing c (.load f)) (setVolume c.slot (some (chargedVolume s v sides)) s))))

/-! ## The gate (R88) -/

/-- R88: the examination of the gate of a waiting fire whose park wait is `wait`. -/
def examineGate (c : CaptureRecord) (wait : Option Word) (s : State) : State :=
  let sides := c.params.sides
  if s.seq.arm = .halted ∨ s.seq.arm = .faulted then refuseFire .armFault (armNumber s.seq.arm) s
  else if bothDown s then refuseFire .noPosition 1 s
  else if failedSides s sides ≠ 0 then refuseFire .lampFault (failedSides s sides) s
  else if hotSides s sides ≠ 0 then refuseFire .lampHot (hotSides s sides) s
  else if s.seq.arm ≠ .idle then setCapture (.exposing c (.gate none)) s
  else if parkCheck s = .holds then chargeFire c s
  else
    match wait with
    | some _ => s
    | none => setCapture (.exposing c (.gate (some (after s.ms 100)))) s

/-! ## Acquisition (R105) -/

/-- R105: the armed window table and the guard pool have room for `k` sides. -/
def framePoolsHaveRoom (k : Nat) (s : State) : Bool :=
  decide (k ≤ s.frames.windows.countP (fun w => w.isNone) ∧ guardsInUse s + s.frames.guardReserved + k ≤ 8)

/-- R105: the reservations are taken, the windows armed, and the unit enters EXPOSING; R88: the gate is examined. -/
def beginExposing (c : CaptureRecord) (s : State) : State :=
  let k := sideCount c.params.sides
  let s1 := grantSlots k { s with frames := { s.frames with guardReserved := s.frames.guardReserved + k } }
  examineGate c none (setCapture (.exposing c (.gate none)) (armWindows c.slot c.params s1))

/-- R105, R131: a HOLDING capture tries to acquire. An attempt that fails only for lack of window or guard room asks the
account writer for nothing; one for which the account ring lacks room too is refused there. -/
def acquire (c : CaptureRecord) (s : State) : State :=
  let k := sideCount c.params.sides
  if k ≤ accountFree s then
    if framePoolsHaveRoom k s then beginExposing c s else s
  else refuseSlots k s

/-! ## Signals to the capture unit -/

/-- R88, R94, R95, R106: a HALT signal reaches the capture unit. -/
def haltCapture (s : State) : State :=
  match s.capture.state with
  | .free => s
  | .holding _ => endCapture .halted 0 s
  | .exposing _ (.gate _) => refuseFire .halted 0 s
  | .exposing _ (.load f) => abandonFire .halted (takeAndCharge f) s
  | .exposing _ (.strobe f raisedAt) => cutStrobe f raisedAt .halted s

/-- R88, R94, R95: the arm has left IDLE. -/
def captureArmLeft (s : State) : State :=
  match s.capture.state with
  | .free => s
  | .holding _ => s
  | .exposing c (.gate _) => setCapture (.exposing c (.gate none)) s
  | .exposing _ (.load _) => abandonFire .armFault (armNumber s.seq.arm) s
  | .exposing _ (.strobe f raisedAt) => cutStrobe f raisedAt .armFault s

/-- R95: a bar is FAILED: a charged fire of its side that has not raised its strobe is abandoned. -/
def captureBarFailed (side : Side) (s : State) : State :=
  match s.capture.state with
  | .exposing c (.load _) =>
    if c.params.sides.get side ∧ isFailed (s.lamps.get side).state then
      abandonFire .lampFault (failedSides s c.params.sides) s
    else s
  | .exposing _ (.gate _) => s
  | .exposing _ (.strobe _ _) => s
  | .free => s
  | .holding _ => s

/-- R92, R96: the temperature of the verifying POLL that matched is kept with the fire. -/
def recordTemp (side : Side) (temp : Nat) (s : State) : State :=
  match s.capture.state with
  | .exposing c (.load f) =>
    setCapture (.exposing c (.load
      { f with sides := f.sides.set side ((f.sides.get side).map fun x => { x with temp := temp }) })) s
  | .exposing _ (.gate _) => s
  | .exposing _ (.strobe _ _) => s
  | .free => s
  | .holding _ => s

/-- R94: the park conditions watched while the strobe is raised: the outcome of the cut they make, if any. -/
def strobeFails (s : State) : Option OutcomeCode :=
  if s.seq.arm ≠ .idle then some .armFault
  else
    match parkCheck s with
    | .holds => none
    | .noPosition | .stale | .outside => some .noPosition

end Sys2Proof.Machine
end

