-- ==== Sys2Proof/Machine/Lamps.lean ====
section
/-! DEFINITION. The lamp unit (sections 5.1, 5.2): judging in-words, thermal transitions, failures, and the verification
of a LOAD. -/
namespace Sys2Proof.Machine

/-- Change the record of a bar. -/
def setBar (side : Side) (b : Bar) (s : State) : State := { s with lamps := s.lamps.set side b }

/-- R83: the judgement of an in-word. -/
inductive Verdict where
  | noReply | stale | answered
  deriving DecidableEq, Repr

/-- R83: no reply, stale or answered. -/
def lampVerdict (b : Bar) (w : Half) : Verdict :=
  if noReply w then .noReply else if b.life = some (lampLife w) then .stale else .answered

/-- Table 5-1: the thermal transition of a bar that is not FAILED, warn and error temperature and reply in °C + 40. -/
def thermalNext (warn error temp : Nat) (b : BarState) : BarState :=
  match b with
  | .ready => if error ≤ temp then .hot else if warn ≤ temp then .warm else .ready
  | .warm => if error ≤ temp then .hot else if temp + 3 ≤ warn then .ready else .warm
  | .hot => if temp ≤ warn then .warm else .hot
  | .failed k => .failed k

/-- R84: the events and the latched fault of a thermal step from `old` to the bar's present state. -/
def thermalEvents (side : Side) (temp : Nat) (old : BarState) (s : State) : State :=
  let now := (s.lamps.get side).state
  if now = .hot then
    if old = .hot then latch .lampHot .lampHot (sideNumber side) temp s
    else latchWithEvent .lampHot .lampHot (sideNumber side) temp s
  else if now = .warm ∧ old ≠ .warm then raise .lampWarm (sideNumber side) temp s
  else s

/-- R85: a bar that is not FAILED enters FAILED; a FAILED bar is unchanged. -/
def failBar (side : Side) (k : FailKind) (s : State) : State :=
  if isFailed (s.lamps.get side).state then s
  else setBar side { s.lamps.get side with state := .failed k } s

/-- R83: a no reply or a stale in-word is counted. -/
def countMiss (side : Side) (s : State) : State :=
  let b := s.lamps.get side
  let n := min 8 (b.noReply + 1)
  let s1 := setBar side { b with noReply := n } s
  if n = 8 then failBar side .noReply s1 else s1

/-- R83, R84: an answered in-word. -/
def takeAnswer (side : Side) (w : Half) (s : State) : State :=
  let b := s.lamps.get side
  let s1 := setBar side { b with noReply := 0, life := some (lampLife w), temp := some (lampTemp w) } s
  match lampFaultField w with
  | some k => failBar side k s1
  | none =>
    thermalEvents side (lampTemp w) b.state
      (setBar side { s1.lamps.get side with
        state := thermalNext (mechOf s).warnTemp (mechOf s).errorTemp (lampTemp w) b.state } s1)

/-- R83: judge an in-word of a bar. -/
def judgeLamp (side : Side) (w : Half) (s : State) : State :=
  match lampVerdict (s.lamps.get side) w with
  | .noReply => countMiss side s
  | .stale => countMiss side s
  | .answered => takeAnswer side w s

/-- R85: the latched fault of a FAILED bar is examined as an exchange of it completes, whatever its in-word. -/
def examineFailed (side : Side) (s : State) : State :=
  match (s.lamps.get side).state with
  | .failed k => latch (lampFaultOf side) .lampFault (sideNumber side) (failNumber k) s
  | .ready | .warm | .hot => s

/-- R92: the load echo result of a verified echo: a match, a first mismatch with a second LOAD, or the failure echo. -/
def compareEcho (side : Side) (w : Half) (s : State) : State :=
  let b := s.lamps.get side
  let code := b.lastCode.getD 0
  if lampEcho w = code % 16 then
    recordTemp side (lampTemp w) (setBar side { b with echo := .isMatch, load := .loaded } s)
  else if b.echo = .mismatch then failBar side .echo s
  else placeLoad side code (setBar side { b with echo := .mismatch } s)

/-- R92: the verifying POLL of a bar whose in-word has been judged; `verdict` is its judgement. -/
def verifyLoad (side : Side) (w : Half) (verdict : Verdict) (s : State) : State :=
  let b := s.lamps.get side
  if b.load = .verify ∧ ¬ isFailed b.state then
    if verdict = .answered then compareEcho side w s else placeVerifyPoll side s
  else s

/-- R83, R92: a POLL exchange of a bar completes with an in-word. -/
def pollReply (side : Side) (w : Half) (s : State) : State :=
  let verdict := lampVerdict (s.lamps.get side) w
  captureBarFailed side (examineFailed side (verifyLoad side w verdict (judgeLamp side w s)))

/-- R92: the LOAD of the present fire has completed: it needs a verifying POLL. -/
def awaitVerify (side : Side) (s : State) : State :=
  let b := s.lamps.get side
  if b.load = .underway then placeVerifyPoll side (setBar side { b with load := .verify } s) else s

/-- R83, R92: a LOAD exchange of a bar completes with an in-word. -/
def loadReply (side : Side) (code : Nat) (w : Half) (s : State) : State :=
  let s1 := judgeLamp side w s
  let s2 := setBar side { s1.lamps.get side with lastCode := some code } s1
  captureBarFailed side (examineFailed side (awaitVerify side s2))

end Sys2Proof.Machine
end

