-- ==== Sys2Proof/Machine/Motion.lean ====
section
/-! DEFINITION. The motion unit (sections 3.1, 3.2): the ramp of a move, the conversion of an angle to steps, taking a
move, and hard stops. -/
namespace Sys2Proof.Machine

/-- R39: the steps remaining. -/
def remaining (r : Ramp) : Nat := r.requested - r.taken

/-- R40: a move as the engine takes it. -/
def newRamp (requested top : Nat) : Ramp :=
  { requested := requested, top := top, rung := 0, taken := 0, atRung := 0, stopOrdered := false }

/-- R41: the review of the rung after a step, with top rung `t` in force: approach, shed, climb, or keep. -/
def reviewRung (t : Nat) (r : Ramp) : Ramp :=
  if r.rung > 0 ∧ remaining r ≤ 24 * r.rung then { r with rung := r.rung - 1, atRung := 0 }
  else if r.rung > t ∧ 24 ≤ r.atRung then { r with rung := r.rung - 1, atRung := 0 }
  else if 24 ≤ r.atRung ∧ r.rung < t ∧ remaining r > 24 * (r.rung + 1) then { r with rung := r.rung + 1, atRung := 0 }
  else r

/-- R41: the step under way has been taken. -/
def stepTaken (r : Ramp) : Ramp := { r with taken := r.taken + 1, atRung := r.atRung + 1 }

/-- R43: the top rung in force of the ARM engine. -/
def armTop (s : State) (r : Ramp) : Nat := if eitherDown s then min r.top 3 else r.top

/-- R46: the difference of two angles brought into −2048 to 2047. -/
def angleDifference (a g : Nat) : Int :=
  let d : Int := (g : Int) - (a : Int)
  if d < -2048 then d + 4096 else if 2047 < d then d - 4096 else d

/-- R46: the steps of an arm move from angle `a` to angle `g`. -/
def moveSteps (spr a g : Nat) : Nat := ((angleDifference a g).natAbs * spr + 2048) / 4096

/-- R46: the move is in the positive direction. -/
def movePositive (a g : Nat) : Bool := decide (0 < angleDifference a g)

/-- A ramp with a hard stop ordered. -/
def orderStop (r : Ramp) : Ramp := { r with stopOrdered := true }

/-- R44: a hard stop of the ARM engine; no effect on an IDLE one. -/
def stopArm (s : State) : State :=
  { s with motion := { s.motion with arm := s.motion.arm.map fun m => { m with ramp := orderStop m.ramp } } }

/-- R44: a hard stop of both engines. -/
def stopBoth (s : State) : State :=
  { s with motion := { s.motion with
      arm := s.motion.arm.map fun m => { m with ramp := orderStop m.ramp }
      platen := s.motion.platen.map fun m => { m with ramp := orderStop m.ramp } } }

/-- R40: the ARM engine takes a move. -/
def takeArmMove (positive : Bool) (steps top : Nat) (s : State) : State :=
  { s with motion := { s.motion with arm := some { positive := positive, ramp := newRamp steps top } } }

/-- R42: a move of the ARM engine ends: the engine returns to IDLE, with the end kind and the steps taken reported. -/
def endArm (kind : EndKind) (taken : Nat) (s : State) : State :=
  { s with motion := { s.motion with arm := none, armEnd := some { kind := kind, taken := taken } } }

/-- R42: a move of the PLATEN engine ends: the engine returns to IDLE, with the end kind, the steps taken and the
switches as last sampled reported. -/
def endPlaten (kind : EndKind) (taken : Nat) (s : State) : State :=
  { s with motion := { s.motion with
      platen := none
      platenEnd := some { kind := kind, taken := taken, switches := s.motion.switches } } }

/-- R45: a sought switch of a move until limit is closed. -/
def soughtClosed (down : Bool) (sw : Switches) : Bool := if down then sw.down else sw.up || sw.contact

/-- R45: the switches are sampled. -/
def sampleSwitches (sw : Switches) (s : State) : State := { s with motion := { s.motion with switches := sw } }

/-- R40, R45: the PLATEN engine takes a move until limit with top rung 7 and platen max steps. -/
def takePlatenMove (down : Bool) (s : State) : State :=
  { s with motion := { s.motion with
      platen := some { down := down, ramp := newRamp (mechOf s).platenMax 7 } } }

end Sys2Proof.Machine
end

