-- ==== Sys2Proof/Machine/Turn.lean ====
section
/-! DEFINITION. The turn sequencer (Chapter 4): arm states, arm and platen moves with their end reports, faults, halts,
recovery and homing. -/
namespace Sys2Proof.Machine

/-- Change the sequencer's record. -/
def setSeq (q : Sequencer) (s : State) : State := { s with seq := q }

/-- R59: enter an arm state; the capture unit is told when the arm leaves IDLE. The new state has offered no move. -/
def setArm (a : ArmState) (s : State) : State :=
  let s1 := setSeq { s.seq with arm := a, armPhase := .none, platenPhase := .none } s
  if s.seq.arm = .idle ∧ a ≠ .idle then captureArmLeft s1 else s1

/-- The vacuum (R59). -/
def setVacuum (on : Bool) (s : State) : State := setSeq { s.seq with vacuum := on } s

/-- Start the sequencer's timer for `n` ms. -/
def startTimer (k : TimerKind) (n : Nat) (s : State) : State :=
  setSeq { s.seq with timer := some { kind := k, due := after s.ms n } } s

/-- Stop the sequencer's timer. -/
def stopTimer (s : State) : State := setSeq { s.seq with timer := none } s

/-- The timer runs for this purpose and has expired. -/
def timerExpired (k : TimerKind) (s : State) : Bool :=
  match s.seq.timer with
  | some t => decide (t.kind = k) && reached s.ms t.due
  | none => false

/-- The turn in flight ends with a completion. -/
def endTurn (outcome : OutcomeCode) (detail : Nat) (s : State) : State :=
  match s.seq.turn with
  | none => s
  | some t => complete (kindNumber t.kind) t.tag outcome t.slot detail (setSeq { s.seq with turn := none } s)

/-! ## Faults and halts (R73 to R75) -/

/-- Table 4-4: the fault causes. -/
inductive FaultCause where
  | platen | slip (target fused : Nat) | split | noPosition
  deriving DecidableEq, Repr

/-- R73: the number of a cause in the ARM_FAULT detail. -/
def causeCode : FaultCause → Nat
  | .platen => 1
  | .slip _ _ => 2
  | .split => 3
  | .noPosition => 4

/-- R73: the latched fault and event of a cause arising in a state. -/
def latchCause (c : FaultCause) (s : State) : State :=
  match c with
  | .platen => latch .platen .platen 0 (armNumber s.seq.arm) s
  | .slip target fused => latch .slip .slip 0 (twoPart target fused) s
  | .split => s
  | .noPosition => s

/-- R73: the sequencer enters FAULTED, from a state other than FAULTED. DESIGN CHOICE (notes/assumptions/7.md). -/
def enterFaulted (c : FaultCause) (s : State) : State :=
  if s.seq.arm = .faulted then s
  else
    let detail := armNumber s.seq.arm + 256 * causeCode c
    endTurn .armFault detail (attendArises (setArm .faulted (stopTimer (stopBoth (latchCause c s)))))

/-- R75: a HALT signal reaches the sequencer. -/
def haltSequencer (s : State) : State :=
  match s.seq.arm with
  | .idle | .halted | .faulted => s
  | .homing | .lowering | .reaching | .gripping | .sweeping | .releasing | .returning | .raising | .settling =>
    endTurn .halted (armNumber s.seq.arm) (attendArises (setArm .halted (stopTimer (stopBoth s))))

/-! ## Entering states without a move -/

/-- R66: a grip attempt begins: vacuum on, the grip time runs. -/
def beginGrip (s : State) : State := startTimer .grip (mechOf s).gripTime (setVacuum true s)

/-- R65: GRIPPING is entered with the retry count 0. -/
def enterGripping (s : State) : State :=
  let s1 := setArm .gripping s
  beginGrip (setSeq { s1.seq with retries := 0 } s1)

/-- R69: on entry to RELEASING the vacuum goes off and the release time runs. -/
def enterReleasing (s : State) : State :=
  startTimer .release (mechOf s).releaseTime (setVacuum false (setArm .releasing s))

/-- R72: on entry to SETTLING the settle time runs. -/
def enterSettling (s : State) : State := startTimer .settle (mechOf s).settleTime (setArm .settling s)

/-! ## The platen raise (R71, R78 steps 4 and 5) -/

/-- R9, R71: a raise has ended at a limit: the unpressed flag of the ACTIVE volume and the UNPRESSED event. -/
def raisedFlag (sw : Switches) (s : State) : State :=
  match activeVolume s with
  | some (slot, _) =>
    if sw.contact then modifyVolume slot (fun v => { v with unpressed := false }) s
    else raise .unpressed 0 slot (modifyVolume slot (fun v => { v with unpressed := true }) s)
  | none => if sw.contact then s else raise .unpressed 0 255 s

/-- R71, R78: the raise of RAISING leads to SETTLING, that of homing to IDLE. -/
def afterRaise (s : State) : State :=
  if s.seq.arm = .homing then setArm .idle s else enterSettling s

/-- R71: a raise ends with a kind and the switches as last sampled. -/
def raiseEnded (k : EndKind) (sw : Switches) (s : State) : State :=
  match k with
  | .limit => afterRaise (raisedFlag sw s)
  | .max => enterFaulted .platen s
  | .count => s
  | .stopped => s

/-- R45, R63, R71: the sequencer offers a move UP until limit, or owes it while the engine is RUNNING; with a sought
switch closed the move ends LIMIT with 0 steps taken. -/
def beginRaise (sw : Switches) (s : State) : State :=
  if s.motion.platen.isSome then setSeq { s.seq with platenPhase := .owed } s
  else if soughtClosed false sw then raiseEnded .limit sw (endPlaten .limit 0 (sampleSwitches sw s))
  else takePlatenMove false (sampleSwitches sw (setSeq { s.seq with platenPhase := .offered } s))

/-! ## Arm moves (R63, R64) -/

/-- The step that follows when an arm move has reached its target: R65, R68, R70, R78 step 3. -/
def armReached (sw : Switches) (s : State) : State :=
  match s.seq.arm with
  | .reaching => enterGripping s
  | .sweeping => enterReleasing s
  | .returning => beginRaise sw (setArm .raising s)
  | .homing => beginRaise sw (setSeq { s.seq with homing := .platenRaise, armPhase := .none } s)
  | .idle | .lowering | .gripping | .releasing | .raising | .settling | .halted | .faulted => s

/-- R64: the fused angle lies within the slip tolerance of the target. -/
def withinTolerance (s : State) (angle : Nat) : Bool :=
  decide (circular angle s.seq.target ≤ (mechOf s).slipTolerance)

/-- R63: the sequencer offers the ARM engine a move from a fused angle to the target. -/
def offerArm (angle steps top : Nat) (s : State) : State :=
  takeArmMove (movePositive angle s.seq.target) steps top (setSeq { s.seq with armPhase := .offered } s)

/-- R64: the slip check at the end of an arm move. -/
def slipCheck (sw : Switches) (s : State) : State :=
  match s.position.fused with
  | none => enterFaulted .noPosition s
  | some f =>
    if withinTolerance s f.angle then armReached sw s
    else if s.seq.corrections = 0 then
      let steps := moveSteps (mechOf s).spr f.angle s.seq.target
      let s1 := setSeq { s.seq with corrections := 1 } s
      if steps = 0 then enterFaulted (.slip s.seq.target f.angle) s1 else offerArm f.angle steps 0 s1
    else enterFaulted (.slip s.seq.target f.angle) s

/-- R63: the arm move to the recorded target is made with the recorded top rung. -/
def makeArmMove (sw : Switches) (s : State) : State :=
  match s.position.fused with
  | none => enterFaulted .noPosition s
  | some f =>
    let s1 := setSeq { s.seq with corrections := 0 } s
    let steps := moveSteps (mechOf s).spr f.angle s.seq.target
    if steps = 0 then slipCheck sw s1 else offerArm f.angle steps s.seq.top s1

/-- R63: an arm move to a target with a top rung, or owed while the engine is RUNNING. -/
def beginArm (target top : Nat) (sw : Switches) (s : State) : State :=
  let s1 := setSeq { s.seq with target := target, top := top } s
  if s.motion.arm.isSome then setSeq { s1.seq with armPhase := .owed } s1 else makeArmMove sw s1

/-- Table 4-2: the grip edge of a direction. -/
def gripEdge (m : MechSettings) (forward : Bool) : Nat := if forward then m.pickup else m.drop

/-- Table 4-2: the far side of a direction. -/
def farSide (m : MechSettings) (forward : Bool) : Nat := if forward then m.drop else m.pickup

/-- The direction of the turn in flight. -/
def turnForward (s : State) : Bool :=
  match s.seq.turn with
  | some t => t.forward
  | none => true

/-- R65: REACHING is entered. -/
def enterReaching (sw : Switches) (s : State) : State :=
  beginArm (gripEdge (mechOf s) (turnForward s)) 7 sw (setArm .reaching s)

/-- R68: SWEEPING is entered with the vacuum on and the LEAF count 0. -/
def enterSweeping (sw : Switches) (s : State) : State :=
  let s1 := setArm .sweeping s
  beginArm (farSide (mechOf s) (turnForward s)) 7 sw (setSeq { s1.seq with lowReads := 0, nextLeaf := s.ms } s1)

/-- R70, R77: RETURNING is entered, with top rung 7 in a turn and 2 in a recovery. -/
def enterReturning (top : Nat) (sw : Switches) (s : State) : State :=
  beginArm (mechOf s).park top sw (setArm .returning s)

/-! ## The platen lowering (R62, R78 step 2) -/

/-- R62, R78: a lowering ends with a kind; the switches are those of a move that follows. -/
def lowerEnded (k : EndKind) (sw : Switches) (s : State) : State :=
  match k with
  | .limit =>
    if s.seq.arm = .homing then
      beginArm (mechOf s).park 2 sw (setSeq { s.seq with homing := .armToPark, platenPhase := .none } s)
    else enterReaching sw s
  | .max => enterFaulted .platen s
  | .count => s
  | .stopped => s

/-- R45, R62: the sequencer offers a move DOWN until limit, or owes it while the engine is RUNNING; with DOWN closed the
move ends LIMIT with 0 steps taken. -/
def beginLower (sw : Switches) (s : State) : State :=
  if s.motion.platen.isSome then setSeq { s.seq with platenPhase := .owed } s
  else if soughtClosed true sw then lowerEnded .limit sw (endPlaten .limit 0 (sampleSwitches sw s))
  else takePlatenMove true (sampleSwitches sw (setSeq { s.seq with platenPhase := .offered } s))

/-! ## End reports (R42, R63) -/

/-- The present state is one whose platen move goes DOWN: LOWERING, or step 2 of homing. -/
def lowersPlaten (s : State) : Bool :=
  decide (s.seq.arm = .lowering ∨ (s.seq.arm = .homing ∧ s.seq.homing = .platenDown))

/-- R63: the end report of a PLATEN move reaches the sequencer; `sw` is what a move that follows samples. -/
def platenReport (r : PlatenEnd) (sw : Switches) (s : State) : State :=
  match s.seq.platenPhase with
  | .none => s
  | .owed =>
    let s1 := setSeq { s.seq with platenPhase := .none } s
    if lowersPlaten s then beginLower sw s1 else beginRaise sw s1
  | .offered =>
    let s1 := setSeq { s.seq with platenPhase := .none } s
    if lowersPlaten s then lowerEnded r.kind sw s1 else raiseEnded r.kind r.switches s1

/-- R63: the end report of an ARM move reaches the sequencer. -/
def armReport (r : ArmEnd) (sw : Switches) (s : State) : State :=
  match s.seq.armPhase with
  | .none => s
  | .owed => makeArmMove sw (setSeq { s.seq with armPhase := .none } s)
  | .offered =>
    let s1 := setSeq { s.seq with armPhase := .none } s
    match r.kind with
    | .count => slipCheck sw s1
    | .limit => s1
    | .max => s1
    | .stopped => s1

/-! ## Steps of the engines (R41, R44, R45) -/

/-- R42: a move of the ARM engine ends and its report reaches the sequencer. -/
def armEnds (kind : EndKind) (taken : Nat) (sw : Switches) (s : State) : State :=
  armReport { kind := kind, taken := taken } sw (endArm kind taken s)

/-- R42: a move of the PLATEN engine ends and its report, with the switches as last sampled, reaches the sequencer. -/
def platenEnds (kind : EndKind) (taken : Nat) (sw : Switches) (s : State) : State :=
  platenReport { kind := kind, taken := taken, switches := s.motion.switches } sw (endPlaten kind taken s)

/-- R41, R42, R44: the period of the ARM engine's step under way passes. DESIGN CHOICE (notes/assumptions/12.md). -/
def armStep (sw : Switches) (s : State) : State :=
  match s.motion.arm with
  | none => s
  | some m =>
    let r := stepTaken m.ramp
    if r.stopOrdered then armEnds .stopped r.taken sw s
    else if remaining r = 0 then armEnds .count r.taken sw s
    else { s with motion := { s.motion with arm := some { m with ramp := reviewRung (armTop s r) r } } }

/-- R41, R44, R45: the period of the PLATEN engine's step under way passes. -/
def platenStep (sw : Switches) (s : State) : State :=
  match s.motion.platen with
  | none => s
  | some m =>
    let r := stepTaken m.ramp
    if r.stopOrdered then platenEnds .stopped r.taken sw s
    else if soughtClosed m.down sw then platenEnds .limit r.taken sw (sampleSwitches sw s)
    else if remaining r = 0 then platenEnds .max r.taken sw (sampleSwitches sw s)
    else sampleSwitches sw
      { s with motion := { s.motion with platen := some { m with ramp := reviewRung r.top r } } }

/-! ## Homing and recovery (R77, R78) -/

/-- R78, step 1: a head is UP with a consecutive-good count of 3. -/
def headsReady (s : State) : Bool :=
  (s.position.heads.a.up && decide (s.position.heads.a.goodCount = 3))
    || (s.position.heads.b.up && decide (s.position.heads.b.goodCount = 3))

/-- R78, step 1: when the condition on the heads is met, the timer is stopped and the platen is lowered. -/
def homingHeads (sw : Switches) (s : State) : State :=
  if s.seq.arm = .homing ∧ s.seq.homing = .heads ∧ headsReady s then
    beginLower sw (setSeq { s.seq with timer := none, homing := .platenDown } s)
  else s

/-- R78: HOMING is entered: vacuum off, the homing limit runs, step 1. -/
def enterHoming (s : State) : State :=
  let s1 := startTimer .homing 500 (setVacuum false (setArm .homing s))
  setSeq { s1.seq with homing := .heads } s1

/-- R77: the RESUME press acts on the sequencer in READY. -/
def resumeSequencer (sw : Switches) (s : State) : State :=
  match s.seq.arm with
  | .halted => enterReturning 2 sw (attendClears (setVacuum false s))
  | .faulted => homingHeads sw (enterHoming (attendClears s))
  | .idle | .homing | .lowering | .reaching | .gripping | .sweeping | .releasing | .returning | .raising
  | .settling => s

/-! ## The turn (R60 to R72) -/

/-- R62: a turn begins in LOWERING. -/
def startTurn (t : Turn) (sw : Switches) (s : State) : State :=
  let s1 := setArm .lowering s
  beginLower sw (setSeq { s1.seq with turn := some t, outcome := .done, retries := 0, corrections := 0 } s1)

/-- R66, R67: the retries are spent: vacuum off, the pending outcome, RETURNING. -/
def gripFailed (multi : Bool) (sw : Switches) (s : State) : State :=
  enterReturning 7 sw
    (setSeq { s.seq with vacuum := false, timer := none, outcome := if multi then .doubleLeaf else .noLeaf } s)

/-- R66: the grip time expires with a reading of the leaf sensor. -/
def gripExpired (leaf multi : Bool) (sw : Switches) (s : State) : State :=
  if leaf ∧ ¬ multi then enterSweeping sw (stopTimer s)
  else if s.seq.retries < (mechOf s).gripRetries then
    startTimer .release (mechOf s).releaseTime (setSeq { s.seq with vacuum := false, retries := s.seq.retries + 1 } s)
  else gripFailed (leaf && multi) sw s

/-- R68: the fifth consecutive reading of no leaf: hard stop, vacuum off, LEAF_DROPPED, RETURNING. -/
def leafDropped (sw : Switches) (s : State) : State :=
  let s1 := stopArm s
  enterReturning 7 sw (setSeq { s1.seq with vacuum := false, outcome := .leafDropped } s1)

/-- R69: the opening index after a turn in a direction. -/
def turnedOpening (forward : Bool) (o : Nat) : Nat := if forward then o + 1 else o - 1

/-- R69: the release time of RELEASING expires: the opening index and the take change, and RETURNING begins. -/
def releaseExpired (sw : Switches) (s : State) : State :=
  let s1 := stopTimer s
  match s.seq.turn with
  | none => enterReturning 7 sw s1
  | some t =>
    enterReturning 7 sw
      (modifyVolume t.slot (fun v => { v with opening := turnedOpening t.forward v.opening, take := 0 }) s1)

/-- The opening index of a slot's volume. -/
def openingOf (s : State) (slot : Nat) : Nat :=
  match volumeAt s slot with
  | some v => v.opening
  | none => 0

/-- R61, R104: the sequencer hands its ADVANCE to the capture unit, which enters HOLDING. -/
def handOver (t : Turn) (p : CaptureParams) (s : State) : State :=
  setCapture (.holding { kind := t.kind, tag := t.tag, slot := t.slot, params := p })
    (setSeq { s.seq with turn := none } s)

/-- R61, R72: the turn in flight ends with its pending outcome. -/
def finishTurn (t : Turn) (s : State) : State :=
  match s.seq.outcome with
  | .done =>
    match t.capture with
    | some p => handOver t p (attendClears s)
    | none => endTurn .done (openingOf s t.slot) (attendClears s)
  | .noLeaf => attendArises (endTurn .noLeaf (s.seq.retries + 1) s)
  | .doubleLeaf => attendArises (endTurn .doubleLeaf (s.seq.retries + 1) s)
  | .leafDropped => attendArises (endTurn .leafDropped (openingOf s t.slot) s)

/-- R72: the settle time expires: IDLE, and the turn in flight ends. -/
def settleExpired (s : State) : State :=
  let s1 := setArm .idle (stopTimer s)
  match s1.seq.turn with
  | none => s1
  | some t => finishTurn t s1

end Sys2Proof.Machine
end

