-- ==== Sys2Proof/Machine/Position.lean ====
section
/-! DEFINITION. The position unit (section 3.4): judging samples, head states, the fused angle, the split check, and the
sampling rounds. -/
namespace Sys2Proof.Machine

/-- Replace the record of a head. -/
def setHead (h : Head) (u : HeadUnit) (s : State) : State :=
  { s with position := { s.position with heads := s.position.heads.set h u } }

/-- R52, Table 12-4: why a sample is bad: 1 no reply, 2 error, 3 stale; none when it is good. DEDUCED
(notes/assumptions/18.md). -/
def badKind (u : HeadUnit) (w : Half) : Option Nat :=
  if noReply w then some 1
  else if headError w then some 2
  else if u.life = some (headLife w) then some 3
  else none

/-- R52: the previous life counter after a reply. -/
def nextLife (u : HeadUnit) (w : Half) : Option (BitVec 2) := if noReply w then u.life else some (headLife w)

/-- R52, R53: the head after a good sample, before its state is examined. -/
def goodSample (u : HeadUnit) (q : SampleRequest) (w : Half) : HeadUnit :=
  { u with good := some { angle := headAngle w, time := q.time }, life := nextLife u w, badCount := 0,
           goodCount := min 3 (u.goodCount + 1) }

/-- R52, R53: the head after a bad sample, before its state is examined. -/
def badSample (u : HeadUnit) (w : Half) : HeadUnit :=
  { u with life := nextLife u w, badCount := min 255 (u.badCount + 1), goodCount := 0 }

/-- R53, R54: a good sample: HEAD_UP at the third in a row of a DOWN head, HEAD_WARN once in an UP period. The detail
word of both events is 0. DESIGN CHOICE (notes/assumptions/36.md). -/
def judgeGood (h : Head) (q : SampleRequest) (w : Half) (s : State) : State :=
  let u := s.position.heads.get h
  let g := goodSample u q w
  if u.up then
    if headWarning w ∧ ¬ u.warned then
      raise .headWarn (headLetter h) 0 (setHead h { g with warned := true } s)
    else setHead h g s
  else if g.goodCount = 3 then raise .headUp (headLetter h) 0 (setHead h { g with up := true, warned := false } s)
  else setHead h g s

/-- R53: a bad sample: HEAD_DOWN at the eighth in a row of an UP head; the latched fault of a DOWN head. -/
def judgeBad (h : Head) (w : Half) (kind : Nat) (s : State) : State :=
  let u := s.position.heads.get h
  let b := badSample u w
  if 8 ≤ b.badCount then
    if u.up then
      latchWithEvent (headFault h) .headDown (headLetter h) kind
        (markSingleHead (setHead h { b with up := false } s))
    else latch (headFault h) .headDown (headLetter h) kind (setHead h b s)
  else setHead h b s

/-- R52, R53: a reply of a head is judged. -/
def judgeSample (h : Head) (q : SampleRequest) (w : Half) (s : State) : State :=
  match badKind (s.position.heads.get h) w with
  | none => judgeGood h q w s
  | some kind => judgeBad h w kind s

/-- R55: head B's angle corrected by the offset. -/
def correctedB (offset b : Nat) : Nat := (b + 4096 - offset) % 4096

/-- R56: the fused angle formed from the heads. -/
def fusedOf (m : MechSettings) (heads : PerHead HeadUnit) : Option Fix :=
  if heads.a.up then heads.a.good
  else if heads.b.up then heads.b.good.map fun f => { f with angle := correctedB m.bOffset f.angle }
  else none

/-- R56: the fused angle is formed after a judged sample. -/
def updateFused (s : State) : State :=
  { s with position := { s.position with fused := fusedOf (mechOf s) s.position.heads } }

/-- Replace the split checks still to be made. -/
def setChecks (l : List RoundCheck) (s : State) : State := { s with position := { s.position with checks := l } }

/-- R55: the check of a round as the angle of a head's good sample is noted in it. -/
def notedCheck (h : Head) (angle : Nat) (c : RoundCheck) : RoundCheck :=
  { c with angles := c.angles.set h (some angle) }

/-- The checks of other rounds. -/
def otherChecks (n : Nat) (l : List RoundCheck) : List RoundCheck := l.filter fun c => decide (c.round ≠ n)

/-- R55, R74: the angles A and B of a round are compared: a split is latched and signalled. -/
def compareAngles (a b : Nat) (s : State) : State :=
  let b' := correctedB (mechOf s).bOffset b
  if (mechOf s).splitTolerance < circular a b' then
    enterFaulted .split (latch .split .split 0 (twoPart a b') s)
  else s

/-- R55: a sample of round `n` has been judged, good with an angle or bad: the round's check waits for the other head,
or is made once, with both heads UP, or is given up. DEDUCED (notes/assumptions/33.md). -/
def checkSplit (h : Head) (n : Nat) (angle : Option Nat) (s : State) : State :=
  match s.position.checks.find? (fun c => decide (c.round = n)), angle with
  | none, _ => s
  | some _, none => setChecks (otherChecks n s.position.checks) s
  | some c, some g =>
    match (notedCheck h g c).angles with
    | { a := some a, b := some b } =>
      let s1 := setChecks (otherChecks n s.position.checks) s
      if s.position.heads.a.up ∧ s.position.heads.b.up then compareAngles a b s1 else s1
    | _ => setChecks (s.position.checks.map fun x => if x.round = n then notedCheck h g x else x) s

/-- R52: the angle of a reply that is good for its head as it stands. -/
def goodAngle (u : HeadUnit) (w : Half) : Option Nat := if (badKind u w).isNone then some (headAngle w) else none

/-- R52 to R57: an encoder sample exchange has completed: the sample is judged, the fused angle formed, the round
checked for a split, and a homing that waits for the heads goes on. -/
def sampleReply (h : Head) (q : SampleRequest) (w : Half) (sw : Switches) (s : State) : State :=
  homingHeads sw
    (checkSplit h q.round (goodAngle (s.position.heads.get h) w) (updateFused (judgeSample h q w s)))

/-! ## Sampling rounds (R51) -/

/-- R51: the fast condition. -/
def fastSampling (s : State) : Bool :=
  s.motion.arm.isSome || s.motion.platen.isSome || decide (s.seq.arm = .homing)

/-- R51: the time from one round to the next. -/
def roundPeriod (s : State) : Nat := if fastSampling s then 1 else 20

/-- R51: a round falls due. -/
def roundFallsDue (s : State) : State :=
  { s with position := { s.position with
      due := s.position.due ++ [s.ms]
      lastRound := s.ms
      nextRound := after s.ms (roundPeriod s) } }

/-- R51: sampling begins, and the first round falls due at once. -/
def beginSampling (s : State) : State :=
  roundFallsDue { s with position := { s.position with due := [], checks := [] } }

/-- R51: the counter has come to the time of the next round. -/
def roundsFallDue (s : State) : State :=
  if inService s ∧ reached s.ms s.position.nextRound then roundFallsDue s else s

/-- R51: the fast condition begins, and a round falls due at once. One that fell due in this ms and has not placed its
requests is that round. DEDUCED (notes/assumptions/33.md). -/
def fastBegins (s : State) : State :=
  if s.position.due.getLast? = some s.ms then
    { s with position := { s.position with nextRound := after s.ms 1 } }
  else roundFallsDue s

/-- R51: the fast condition ends, and the next round falls due 20 ms after the last that fell due. -/
def fastEnds (s : State) : State :=
  { s with position := { s.position with nextRound := after s.position.lastRound 20 } }

/-- R51: the fast condition has begun or ended in the step from `before` to `s`, while the position unit samples. -/
def roundEdge (before s : State) : State :=
  if inService s ∧ fastSampling s ∧ ¬ fastSampling before then fastBegins s
  else if inService s ∧ fastSampling before ∧ ¬ fastSampling s then fastEnds s
  else s

/-- R55: the split check of a round that places both of its requests. -/
def newChecks (n : Nat) (s : State) : List RoundCheck :=
  if s.link.samples.a.isNone ∧ s.link.samples.b.isNone then
    [{ round := n, angles := { a := none, b := none } }]
  else []

/-- R51: a round that fell due at `time` places a request for each head, with that time. -/
def placeRound (time : Word) (s : State) : State :=
  let q : SampleRequest := { round := s.position.roundNumber, time := time }
  let s1 := placeSample .b q (placeSample .a q s)
  { s1 with position := { s1.position with
      due := s.position.due.tail
      roundNumber := s.position.roundNumber + 1
      checks := s.position.checks ++ newChecks s.position.roundNumber s } }

/-- R51: the oldest round that has fallen due places its requests. -/
def placeDueRound (s : State) : State :=
  match s.position.due with
  | [] => s
  | time :: _ => placeRound time s

end Sys2Proof.Machine
end

