-- ==== Sys2Proof/Machine/Tickets.lean ====
section
/-! DEFINITION. The ticket unit and the executor (Chapter 2): posts, fetches, arrivals, HALT, the examination of the
ticket at the head of the fetched queue, and completions from it. -/
namespace Sys2Proof.Machine

/-! ## The post word (R26, R27) -/

/-- R27: a post fault. -/
def postFault (data : Word) (s : State) : State := latch .postFault .postFault 0 (data.toNat % 65536) s

/-- R26: a producer index is offered. -/
def offerProducer (p : Half) (data : Word) (s : State) : State :=
  if p = s.tickets.producer then s
  else
    match mapOf s with
    | none => s
    | some m =>
      if (p - s.tickets.fetchIndex).toNat ≤ m.nt then { s with tickets := { s.tickets with producer := p } }
      else postFault data s

/-- R26, R27, R148: a post-word write is handed to the ticket unit. -/
def takePost (w : BusWord) (s : State) : State :=
  if w.be = 15 then offerProducer (w.data.setWidth 16) w.data s else postFault w.data s

/-! ## Fetching (R28) -/

/-- R28: the number of announced tickets not yet requested. -/
def announced (s : State) : Nat := (s.tickets.producer - s.tickets.fetchIndex).toNat

/-- R28: the number of tickets a fetch requests in a ring of `nt`. -/
def fetchCount (nt : Nat) (s : State) : Nat :=
  min (min 8 (8 - s.tickets.queue.length)) (min (announced s) (nt - slotOf s.tickets.fetchIndex nt))

/-- R28: the conditions of a fetch. -/
def mayFetch (s : State) : Bool :=
  decide (s.tickets.outstanding = 0) && inService s && !s.tickets.barrier && decide (announced s ≠ 0)
    && decide (s.tickets.queue.length < 8)

/-- R28: reads of the tickets from index `i`, `n` of them, are placed in ascending order. -/
def placeTicketReads (m : MapSettings) : Half → Nat → State → State
  | _, 0, s => s
  | i, n + 1, s =>
    placeTicketReads m (i + 1) n
      (placeInternal
        { purpose := .ticketRead i, addr := BitVec.ofNat 32 (m.ticketBase + 64 * slotOf i m.nt), data := [] } s)

/-- R28: a fetch is issued when its conditions hold. -/
def issueFetch (s : State) : State :=
  match mapOf s with
  | none => s
  | some m =>
    if mayFetch s then
      let n := fetchCount m.nt s
      placeTicketReads m s.tickets.fetchIndex n
        { s with tickets := { s.tickets with
            fetchIndex := s.tickets.fetchIndex + BitVec.ofNat 16 n
            outstanding := n } }
    else s

/-! ## The head of the fetched queue -/

/-- The head leaves the fetched queue; a RESTART that leaves it here has completed, and the barrier falls (R31). -/
def popHead (s : State) : State := { s with tickets := { s.tickets with queue := s.tickets.queue.tail } }

/-- R31: the barrier falls when a RESTART completes. -/
def dropBarrier (s : State) : State := { s with tickets := { s.tickets with barrier := false } }

/-- The barrier falls when the completing ticket is a RESTART. -/
def dropBarrierFor (kind : Nat) (s : State) : State := if kind = 15 then dropBarrier s else s

/-- R34: the detail of a failing header check of a ticket of a known kind. -/
def headerFault (k : Kind) (t : Ticket) : Option Nat :=
  if ticketIndexField t ≠ t.index then some 3 else if flagLimit k ≤ ticketFlags t then some 4 else none

/-- R33: a ticket of no known kind, or a HALT that reached the executor with a mismatched index (R35), completes as
soon as it becomes the head, and so does each such ticket behind it. DEDUCED (notes/assumptions/26.md). -/
def clearBadHeads : Nat → State → State
  | 0, s => s
  | fuel + 1, s =>
    match s.tickets.queue with
    | [] => s
    | t :: _ =>
      match kindOf (ticketKind t) with
      | none =>
        clearBadHeads fuel (complete (ticketKind t) (ticketTag t) .badKind 255 (ticketKind t) (popHead s))
      | some .halt =>
        match headerFault .halt t with
        | some d => clearBadHeads fuel (complete 11 (ticketTag t) .badField 255 d (popHead s))
        | none => s
      | some _ => s

/-- The head completes from the queue with an outcome, and the next becomes the head. -/
def completeHead (t : Ticket) (outcome : OutcomeCode) (slot detail : Nat) (s : State) : State :=
  let s1 := dropBarrierFor (ticketKind t) (complete (ticketKind t) (ticketTag t) outcome slot detail (popHead s))
  clearBadHeads s1.tickets.queue.length s1

/-- The head starts and leaves the queue to run in its unit (R35), and the next becomes the head. -/
def startHead (s : State) : State := clearBadHeads s.tickets.queue.length (popHead s)

/-- R33, step 3: the kinds accepted in BARE. -/
def acceptedInBare : Kind → Bool
  | .configure | .restart | .clear | .quiet => true
  | .openVolume | .select | .park | .close | .manual | .skip | .turn | .capture | .advance | .light | .halt => false

/-- R33, steps 1 to 3: the examination of a ticket of kind `k` at the head, which the kind's own rule goes on with. A
command for a kind that is not at the head finds nothing to examine. DESIGN CHOICE (notes/assumptions/5.md). -/
def examine (k : Kind) (s : State) (own : Ticket → State) : State :=
  match s.tickets.queue with
  | [] => s
  | t :: _ =>
    if kindOf (ticketKind t) = some k then
      match headerFault k t with
      | some d => completeHead t .badField 255 d s
      | none =>
        if s.settings.startup = .bare ∧ ¬ acceptedInBare k then completeHead t .notReady 255 0 s else own t
    else s

/-! ## HALT and STOP (R30, R32) -/

/-- R30, step 1: HALT is signalled to the turn sequencer, the motion unit and the capture unit. -/
def signalHalt (s : State) : State := haltCapture (haltSequencer s)

/-- R30, step 2: a flushed ticket completes HALTED. -/
def flushOne (t : Ticket) (s : State) : State :=
  dropBarrierFor (ticketKind t) (complete (ticketKind t) (ticketTag t) .halted 255 0 s)

/-- R30, step 2: every ticket in the fetched queue completes HALTED, the oldest first. -/
def flushQueue (s : State) : State :=
  s.tickets.queue.foldl (fun x t => flushOne t x) { s with tickets := { s.tickets with queue := [] } }

/-- R30: a HALT acts at fetch. DESIGN CHOICE (notes/assumptions/7.md). -/
def haltAtFetch (tag : Half) (s : State) : State :=
  complete 11 tag .done 255 s.tickets.queue.length (flushQueue (signalHalt s))

/-! ## Arrival (R29, R31) -/

/-- R31: a RESTART has arrived: the barrier stands, the fetch index is set back, the rest of the fetch is discarded. -/
def raiseBarrier (s : State) : State :=
  { s with tickets := { s.tickets with
      barrier := true
      fetchIndex := s.tickets.taken
      discarding := decide (s.tickets.outstanding ≠ 0) } }

/-- A ticket enters the tail of the fetched queue. -/
def enqueue (t : Ticket) (s : State) : State :=
  { s with tickets := { s.tickets with queue := s.tickets.queue ++ [t] } }

/-- R29: a ticket that has arrived is taken and examined. -/
def takeTicket (t : Ticket) (s : State) : State :=
  let s1 := { s with tickets := { s.tickets with taken := t.index + 1 } }
  if ticketKind t = 11 ∧ ticketIndexField t = t.index then haltAtFetch (ticketTag t) s1
  else
    let s2 := enqueue t s1
    let s3 := if ticketKind t = 15 then raiseBarrier s2 else s2
    clearBadHeads s3.tickets.queue.length s3

/-- R29, R31: the read of the ticket of index `i` is served with these bytes: it is taken, or discarded unexamined. -/
def arrive (i : Half) (bytes : List Byte) (s : State) : State :=
  let n := s.tickets.outstanding - 1
  if s.tickets.discarding then
    { s with tickets := { s.tickets with outstanding := n, discarding := decide (n ≠ 0) } }
  else takeTicket { index := i, bytes := bytes } { s with tickets := { s.tickets with outstanding := n } }

/-! ## Holds -/

/-- R35: an ADVANCE is in flight, in its turn half or in its capture half. -/
def advanceInFlight (s : State) : Bool :=
  (match s.seq.turn with
    | some t => decide (t.kind = .advance)
    | none => false)
  || (match heldCapture s with
    | some c => decide (c.kind = .advance)
    | none => false)

/-- R36: the return queue holds 12 or more records. -/
def returnQueueHigh (s : State) : Bool := decide (12 ≤ s.ret.queue.length)

/-- R14, R17: the cradle is busy with a volume: the arm is not IDLE, a capture is HOLDING or EXPOSING, or one of its
windows is armed. -/
def cradleHolds (s : State) (slot : Nat) : Bool :=
  decide (s.seq.arm ≠ .idle) || !captureFree s || windowOfSlot s slot

/-- R60: the holds of a TURN. -/
def turnHolds (s : State) : Bool :=
  decide (s.seq.arm ≠ .idle) || isExposing s || advanceInFlight s || returnQueueHigh s

/-- R103: the holds of a CAPTURE. -/
def captureHolds (s : State) : Bool := !captureFree s || advanceInFlight s || returnQueueHigh s

/-- R61, R104, Table 2-2: the holds of an ADVANCE. -/
def advanceHolds (s : State) : Bool := turnHolds s || !captureFree s

end Sys2Proof.Machine
end

