-- ==== Sys2Proof/Machine/Settings.lean ====
section
/-! DEFINITION. The settings unit (Chapter 11): loading, entering service, CONFIGURE images and their storing, and a
restart taking effect. -/
namespace Sys2Proof.Machine

/-- Change the settings unit's record. -/
def setSettings (u : SettingsUnit) (s : State) : State := { s with settings := u }

/-! ## The I2C link (R172, R178) -/

/-- R172: the 7-bit address of the EEPROM. -/
def eepromAddress : BitVec 7 := 0x56

/-- R172, R178: the settings unit begins transfers on its I2C link, in this order. -/
def sendI2c (l : List I2cTransfer) (s : State) : State :=
  setSettings { s.settings with i2c := s.settings.i2c ++ l } s

/-- R172: the EEPROM is addressed for writing, sent a first byte address, addressed for reading, and bytes are read in
order. -/
def readEeprom (byteAddress count : Nat) (s : State) : State :=
  sendI2c [.read eepromAddress (BitVec.ofNat 8 byteAddress) count] s

/-- R178: the byte of an image at an offset is written, and the device is polled until it acknowledges. How often is not
counted (DESIGN CHOICE, notes/assumptions/12.md). -/
def writeEeprom (image : List Byte) (offset : Nat) (s : State) : State :=
  sendI2c
    [.write eepromAddress (BitVec.ofNat 8 offset) (image.getD offset 0), .poll eepromAddress] s

/-! ## Entering READY or BARE -/

/-- R51, R82, R169, R176: the startup state becomes READY or BARE: a sampling round and the POLL of each bar fall due
at once, the first comparison of the profile pins 100 ms later, and each button line counts as asserted. DESIGN CHOICE
(notes/assumptions/20.md). -/
def enterService (st : Startup) (s : State) : State :=
  beginSampling { s with
    settings := { s.settings with startup := st, profileDue := after s.ms 100 }
    lamps := { v := { s.lamps.v with pollDue := s.ms }, r := { s.lamps.r with pollDue := s.ms } }
    stopLine := 0
    resumeLine := 0 }

/-- R173: the STATE event: the startup state reached and the reset cause. -/
def stateEvent (s : State) : State :=
  raise .state 0 (startupNumber s.settings.startup + 256 * causeNumber s.settings.cause) s

/-- Table 11-2: the settings chosen from the sections that were good. -/
def chooseSettings (profile : Nat) (map : Option MapSettings) (mech : Option MechSettings) : Settings :=
  { map := map.getD defaultMap
    mapOrigin := if map.isSome then .eeprom else .defaultMap
    mech := mech.getD (profileDefaults profile)
    mechOrigin := if mech.isSome then .eeprom else .profileDefaults }

/-- Table 11-2: the candidate of a loading. -/
def loadedCandidate (profile : Nat) (map : Option MapSettings) (mech : Option MechSettings) : Candidate :=
  { settings := chooseSettings profile map mech, profile := profile, mapBad := map.isNone, mechBad := mech.isNone }

/-- Table 11-2: the state reached with settings. -/
def reachedState (w : Settings) : Startup := if w.mapOrigin = .defaultMap then .bare else .ready

/-- Table 11-2: the faults of a loading are latched; the STATE event stands for them. -/
def latchLoading (c : Candidate) (s : State) : State :=
  let s1 := if c.mapBad then enterLatched .settingsMap s else s
  if c.mechBad then enterLatched .settingsMech s1 else s1

/-- R58, R78: the sequencer homes in READY and stays FAULTED in BARE. -/
def homeIfReady (s : State) : State := if s.settings.startup = .ready then enterHoming s else s

/-- R173: LOADING after a full reset ends. -/
def endLoading (c : Candidate) (s : State) : State :=
  let s1 := setSettings { s.settings with working := some c.settings, loading := none } s
  stateEvent (homeIfReady (latchLoading c (enterService (reachedState c.settings) s1)))

/-! ## Reading the EEPROM (R172, R173) -/

/-- R173: LOADING begins with the map section. -/
def beginLoading : Loading := { reading := .mapSection, failed := 0, retryAt := none, map := none }

/-- R171, R172: the number of bytes of a section. -/
def sectionLength : SectionName → Nat
  | .mapSection => 64
  | .mechSection => 192

/-- R171, R172: the first byte address of a section. -/
def sectionStart : SectionName → Nat
  | .mapSection => 0
  | .mechSection => 64

/-- R172: a read attempt of a section begins. -/
def beginAttempt (n : SectionName) (s : State) : State := readEeprom (sectionStart n) (sectionLength n) s

/-- R172: the bytes of a read attempt that passes: acknowledged, whole, and of a matching CRC-16. DEDUCED
(notes/assumptions/14.md). -/
def attemptBytes (n : SectionName) (reply : Option (List Byte)) : Option (List Byte) :=
  match reply with
  | none => none
  | some bs => if bs.length = sectionLength n ∧ crcMatches bs (sectionLength n - 2) then some bs else none

/-- R171: a good map section. -/
def goodMap (bs : List Byte) : Option MapSettings :=
  if mapContentsPass (mapFields bs) then some (mapFields bs) else none

/-- R171: a good mechanism section. -/
def goodMech (bs : List Byte) : Option MechSettings :=
  if mechContentsPass (mechFields bs) then some (mechFields bs) else none

/-- R173, R180: both sections have been read: LOADING ends, or the candidate of a RESTART is formed. -/
def sectionsRead (map : Option MapSettings) (mech : Option MechSettings) (s : State) : State :=
  match s.settings.restart with
  | none => endLoading (loadedCandidate s.settings.profile map mech) s
  | some r =>
    setSettings
      { s.settings with
        loading := none
        restart := some { r with candidate := some (loadedCandidate r.profile map mech) } } s

/-- R173: a section has been found good (with these bytes) or bad, and the reading goes on. -/
def sectionDone (l : Loading) (bytes : Option (List Byte)) (s : State) : State :=
  match l.reading with
  | .mapSection =>
    beginAttempt .mechSection
      (setSettings
        { s.settings with
          loading := some { reading := .mechSection, failed := 0, retryAt := none, map := bytes.bind goodMap } } s)
  | .mechSection => sectionsRead l.map (bytes.bind goodMech) s

/-- R172: a read attempt completes. -/
def readAttempt (l : Loading) (reply : Option (List Byte)) (s : State) : State :=
  match attemptBytes l.reading reply with
  | some bs => sectionDone l (some bs) s
  | none =>
    if l.failed + 1 < 4 then
      setSettings
        { s.settings with loading := some { l with failed := l.failed + 1, retryAt := some (after s.ms 10) } } s
    else sectionDone l none s

/-! ## CONFIGURE (R177, R178) -/

/-- R177: the detail of the first check an image fails. -/
def imageFault (image : List Byte) : Option Nat :=
  if ¬ crcMatches (mapBytes image) 62 then some 1
  else if ¬ crcMatches (mechBytes image) 190 then some 2
  else if ¬ mapContentsPass (mapFields (mapBytes image)) then some 3
  else if ¬ mechContentsPass (mechFields (mechBytes image)) then some 4
  else none

/-- R177: the four reads of an image are placed in ascending order. -/
def placeImageReads (addr : Nat) : Nat → State → State
  | 0, s => s
  | n + 1, s =>
    placeImageReads addr n
      (placeInternal
        { purpose := .imageRead (3 - n), addr := BitVec.ofNat 32 (addr + 64 * (3 - n)), data := [] } s)

/-- R177: the CONFIGURE in flight completes. -/
def endConfigure (outcome : OutcomeCode) (detail : Nat) (s : State) : State :=
  match s.settings.configure with
  | none => s
  | some c => complete 14 c.tag outcome 255 detail (setSettings { s.settings with configure := none } s)

/-- R177: words of the image are delivered. -/
def deliverImage (bytes : List Byte) (s : State) : State :=
  match s.settings.configure with
  | some { tag := tag, store := store, phase := .reading bs } =>
    setSettings { s.settings with configure := some { tag := tag, store := store, phase := .reading (bs ++ bytes) } } s
  | _ => s

/-- R178: the byte at `offset` of the pending settings is written to the EEPROM, or, when all 256 have been, the whole
image is read back. -/
def storeFrom (c : Configure) (offset : Nat) (s : State) : State :=
  if offset < 256 then
    writeEeprom (s.settings.pendingImage.getD []) offset
      (setSettings { s.settings with configure := some { c with phase := .storing offset s.ms } } s)
  else readEeprom 0 256 (setSettings { s.settings with configure := some { c with phase := .readback } } s)

/-- R177: the whole image has been read: it is checked, and adopted as the pending settings or refused. -/
def imageRead (s : State) : State :=
  match s.settings.configure with
  | none => s
  | some c =>
    match c.phase with
    | .reading image =>
      match imageFault image with
      | some d => endConfigure .settingsBad d s
      | none =>
        let s1 := setSettings { s.settings with pendingImage := some image } s
        if c.store then storeFrom c 0 s1 else endConfigure .done 0 s1
    | .storing _ _ => s
    | .readback => s

/-- R178: the first byte in which a readback differs from the image; a byte that was not read differs. DEDUCED
(notes/assumptions/14.md). -/
def firstDifference (image back : List Byte) : Option Nat :=
  (List.range 256).find? fun i => decide (image[i]? ≠ back[i]?)

/-! ## RESTART (R179, R180) -/

/-- R179: the detail of a BUSY refusal; 0 when there is none. -/
def busyDetail (s : State) : Nat :=
  if ¬ (s.seq.arm = .idle ∨ (s.seq.arm = .faulted ∧ s.seq.vacuum = false)) then 1
  else if ¬ captureFree s then 2
  else if windowsInUse s ≠ 0 then 3
  else if s.motion.arm.isSome ∨ s.motion.platen.isSome then 4
  else 0

/-- R180: the settings of a CONFIGURE image. -/
def imageSettings (image : List Byte) : Settings :=
  { map := mapFields (mapBytes image), mapOrigin := .configureImage, mech := mechFields (mechBytes image),
    mechOrigin := .configureImage }

/-- R180: the candidate of a RESTART without RELOAD: the pending settings, or the working settings. -/
def heldCandidate (profile : Nat) (s : State) : Option Candidate :=
  match s.settings.pendingImage, s.settings.working with
  | some image, _ =>
    some { settings := imageSettings image, profile := profile, mapBad := false, mechBad := false }
  | none, some w => some { settings := w, profile := profile, mapBad := false, mechBad := false }
  | none, none => none

/-- R180: the candidate is a map change: a base or a capacity differs, the chirp option aside. -/
def isMapChange (s : State) (c : Candidate) : Bool :=
  match mapOf s with
  | none => true
  | some m => decide ({ m with chirp := false } ≠ { c.settings.map with chirp := false })

/-- R180: the detail of a MAP_BUSY refusal of a candidate; 0 when there is none. -/
def mapBusyDetail (s : State) (c : Candidate) : Nat :=
  if ¬ isMapChange s c then 0
  else if s.ret.queue ≠ [] then 2
  else if returnUnread s ≠ 0 then 1
  else if accountUnread s ≠ 0 then 3
  else 0

/-- R2: the drive codes of a volume clamped to a range. -/
def clampDrive (m : MechSettings) (v : Volume) : Volume :=
  { v with drive := { v := clamp m.dMin m.dMax v.drive.v, r := clamp m.dMin m.dMax v.drive.r } }

/-- R2: the volume table through a warm restart. -/
def restartVolumes (old new : MechSettings) (t : VolumeTable) : VolumeTable :=
  if old.dMin = new.dMin ∧ old.dMax = new.dMax then t
  else { t with entries := t.entries.map fun e => e.map (clampDrive new) }

/-- R157, R163, R167: the return writer through a warm restart. -/
def restartReturn (change : Bool) (r : ReturnUnit) : ReturnUnit :=
  let r1 := { r with latched := [], tone := .silent }
  if change then
    { r1 with producer := 0, postedProducer := 0, consumer := 0, posted := [], readMarks := [] }
  else r1

/-- R31, Table 2-1: the ticket unit through a warm restart. -/
def restartTickets (change : Bool) (t : TicketUnit) : TicketUnit :=
  let t1 := { t with queue := [], barrier := false }
  if change then { t1 with producer := 0, fetchIndex := 0, taken := 0 } else t1

/-- R118: the frame tracker through a warm restart. -/
def restartFrames (change : Bool) (f : FrameTracker) : FrameTracker :=
  if change then { f with guards := FrameTracker.fullReset.guards } else f

/-- R180, Table 11-4: each block takes its warm-restart values. -/
def restartBlocks (change : Bool) (c : Candidate) (s : State) : State :=
  let s1 := discardRequests s
  { s1 with
    settings := { s.settings with
      cause := .warmRestart, working := some c.settings, pendingImage := none, profile := c.profile, lock := false,
      loading := none, restart := none }
    tickets := restartTickets change s.tickets
    volumes := restartVolumes (mechOf s) c.settings.mech s.volumes
    account := if change then AccountUnit.fullReset else s.account
    ret := restartReturn change s.ret
    motion := { s.motion with arm := none, platen := none }
    position := { PositionUnit.fullReset with roundNumber := s.position.roundNumber }
    seq := Sequencer.fullReset
    lamps := { v := Bar.fullReset, r := Bar.fullReset }
    capture := CaptureUnit.fullReset
    frames := restartFrames change s.frames
    path := { s.path with waitCount := 0 } }

/-- R180: the candidate of the RESTART with this tag takes effect. DEDUCED (notes/assumptions/23.md). -/
def takeEffect (tag : Half) (c : Candidate) (s : State) : State :=
  let change := isMapChange s c
  let s1 := enterService (reachedState c.settings) (restartBlocks change c s)
  stateEvent (complete 15 tag .done 255 (bitOf change 1) (homeIfReady (latchLoading c s1)))

/-- R180: a RESTART whose candidate is refused MAP_BUSY after its LOADING returns to the startup state it left. -/
def refuseReload (r : Restart) (detail : Nat) (s : State) : State :=
  complete 15 r.tag .mapBusy 255 detail
    (dropBarrier (enterService r.leftFrom (setSettings { s.settings with restart := none } s)))

/-- R180, R49: a RESTART with RELOAD enters LOADING. -/
def beginReload (tag : Half) (profile : Nat) (s : State) : State :=
  discardRequests
    (beginAttempt .mapSection
      (setSettings
        { s.settings with
          startup := .loading
          loading := some beginLoading
          restart := some { tag := tag, leftFrom := s.settings.startup, profile := profile, candidate := none } } s))

end Sys2Proof.Machine
end

