-- ==== Sys2Proof/Machine/Path.lean ====
section
/-! DEFINITION. The through-path (Chapter 9): the region decoder, dropped words, the service of transactions on the
memory port, and what ends every step. -/
namespace Sys2Proof.Machine

/-! ## The region decoder (R144, Table 9-1) -/

/-- Where a write word falls: a region only the controller writes, a guard, the post word, a FILLING window, or none of
these. -/
inductive Place where
  | ownRegion
  | guarded (i : Nat)
  | postWord
  | filling (i : Nat)
  | plain
  deriving DecidableEq, Repr

/-- An address lies in a range. -/
def inRange (a : Nat) (e : Extent) : Bool := decide (e.1 ≤ a ∧ a < e.1 + e.2)

/-- R145: the address lies in the return ring, the account ring or the status block. -/
def inOwnRegion (m : MapSettings) (a : Nat) : Bool :=
  inRange a (m.returnBase, 16 * m.nr) || inRange a (m.accountBase, 64 * m.na) || inRange a (m.statusBase, 64)

/-- The guard an address lies in. -/
def guardOf (s : State) (a : Nat) : Option Nat :=
  s.frames.guards.findIdx? fun g =>
    match g with
    | some h => inRange a (h.base, h.length)
    | none => false

/-- The FILLING window an address lies in. -/
def fillingOf (s : State) (a : Nat) : Option Nat :=
  s.frames.windows.findIdx? fun w =>
    match w with
    | some x => x.filling && inRange a (x.base, windowLength x)
    | none => false

/-- R144, R154, R156: where a write word falls. While no map is in force every word is plain; the post word is handed
over in READY and in BARE only. -/
def placeOf (s : State) (a : Nat) : Place :=
  match mapOf s with
  | none => .plain
  | some m =>
    if inOwnRegion m a then .ownRegion
    else
      match guardOf s a with
      | some i => .guarded i
      | none =>
        if inService s ∧ a = m.postWord then .postWord
        else
          match fillingOf s a with
          | some i => .filling i
          | none => .plain

/-- R145: a word that falls in a region of the controller's own or in a guard is dropped. -/
def isDropped : Place → Bool
  | .ownRegion => true
  | .guarded _ => true
  | .postWord => false
  | .filling _ => false
  | .plain => false

/-- The words of a burst from `a`, each with its address. -/
def addressed : Word → List BusWord → List (Word × BusWord)
  | _, [] => []
  | a, w :: ws => (a, w) :: addressed (a + 4) ws

/-- R145: a word as it reaches memory: its byte enables are cleared when it is dropped. -/
def forwarded (s : State) (x : Word × BusWord) : BusWord :=
  if isDropped (placeOf s x.1.toNat) then { x.2 with be := 0 } else x.2

/-- R145: the words of a burst as they reach memory. -/
def forwardedWords (s : State) (a : Word) (ws : List BusWord) : List BusWord :=
  (addressed a ws).map (forwarded s)

/-- R146: a word dropped in a region of the controller's own. -/
def foreignWrite (a : Word) (s : State) : State :=
  latch .foreignWrite .foreignWrite 0 a.toNat
    { s with path := { s.path with foreignWrites := min 65535 (s.path.foreignWrites + 1) } }

/-- R144 to R149: the report of a word that fell in a place. -/
def reportWord (a : Word) (w : BusWord) (p : Place) (s : State) : State :=
  match p with
  | .ownRegion => if w.be = 0 then s else foreignWrite a s
  | .guarded i => if w.be = 0 then s else guardWord i a s
  | .postWord => takePost w s
  | .filling i => frameWord i a w s
  | .plain => s

/-- R143 to R149, R153: an upstream write is served whole: its words are judged against the ranges as they stand at the
service, and their reports made in word order. -/
def serveWrite (a : Word) (ws : List BusWord) (s : State) : State :=
  (addressed a ws).foldl (fun x y => reportWord y.1 y.2 (placeOf s y.1.toNat) x)
    (portWrite a (forwardedWords s a ws) (leaveUpstream s))

/-! ## Upstream reads (R150) -/

/-- A closing word a read covers. -/
inductive Closing where
  | account (slot : Nat)
  | ret (slot : Nat)
  deriving DecidableEq, Repr

/-- R150: the closing word at an address, if it is one. -/
def closingAt (m : MapSettings) (a : Nat) : Option Closing :=
  if inRange a (m.accountBase, 64 * m.na) ∧ (a - m.accountBase) % 64 = 60 then
    some (.account ((a - m.accountBase) / 64))
  else if inRange a (m.returnBase, 16 * m.nr) ∧ (a - m.returnBase) % 16 = 12 then
    some (.ret ((a - m.returnBase) / 16))
  else none

/-- The addresses of a read of `n` words. -/
def readAddresses : Word → Nat → List Word
  | _, 0 => []
  | a, n + 1 => a :: readAddresses (a + 4) n

/-- R150, R156: the closing words a read reports, in address order; none outside READY and BARE. -/
def closings (s : State) (a : Word) (n : Nat) : List Closing :=
  match mapOf s with
  | none => []
  | some m => if inService s then (readAddresses a n).filterMap fun x => closingAt m x.toNat else []

/-- R134, R150, R161: a closing word is reported to its owner. -/
def reportClosing (c : Closing) (s : State) : State :=
  match c with
  | .account k => accountClosing k s
  | .ret k => returnClosing k s

/-- R143, R150: an upstream read is served: its words return to the host, and the closing words it covers are
reported. -/
def serveRead (a : Word) (n : Nat) (s : State) : State :=
  let s1 := portRead a n (leaveUpstream s)
  (closings s a n).foldl (fun x c => reportClosing c x)
    { s1 with path := { s1.path with hostData := s1.path.hostData ++ [readWords s.memory a n] } }

/-- A closing word of the account ring. -/
def isAccountClosing : Closing → Bool
  | .account _ => true
  | .ret _ => false

/-- A closing word of the return ring. -/
def isReturnClosing : Closing → Bool
  | .account _ => false
  | .ret _ => true

/-! ## Transactions that no command stands for -/

/-- The memory port serves the arbiter's choice when no command stands for its service: an upstream read that reports
no closing word, or one of the first three reads of a CONFIGURE image. DESIGN CHOICE (notes/assumptions/11.md). -/
def serveSilent (s : State) : Option State :=
  match arbiter s with
  | some (.upstream (.read a n)) => if closings s a n = [] then some (serveRead a n s) else none
  | some (.internal e) =>
    match e.purpose with
    | .imageRead part => if part < 3 then some (deliverImage (readBlock s.memory e.addr) (serveInternal e s)) else none
    | .ticketRead _ => none
    | .accountWrite _ => none
    | .returnWrite _ => none
    | .statusWrite => none
  | some (.upstream (.write _ _)) => none
  | none => none

/-- The memory port serves such transactions while the arbiter chooses one, at most `fuel` of them. -/
def pumpBy : Nat → State → State
  | 0, s => s
  | fuel + 1, s =>
    match serveSilent s with
    | none => s
    | some s1 => pumpBy fuel s1

/-- How many transactions wait. -/
def waitingTransactions (s : State) : Nat :=
  s.path.upstream.length + s.path.internal.length + s.path.blocked.length

/-- The memory port serves the transactions that no command stands for. -/
def pump (s : State) : State := pumpBy (waitingTransactions s) s

/-! ## The end of a step -/

/-- What follows every command, from the state `before` it: the sampling rounds take up a change of the fast condition
(R51), the free link starts the exchange that stands first (R48), and a change of the shadow reaches the status block
(R166). -/
def settle (before s : State) : State := statusChange before (startExchange (roundEdge before s))

end Sys2Proof.Machine
end

