-- ==== Sys2Proof/Machine/Clock.lean ====
section
/-! DEFINITION. One millisecond in which no command waits: what a step on an empty queue does (notes/assumptions/1.md),
and the queue of commands. -/
namespace Sys2Proof.Machine

/-- R174: the millisecond counter counts once it has started; in RESET_HELD it is held at 0 (R173). -/
def countMs (s : State) : State :=
  if s.settings.startup = .resetHeld then s else { s with ms := s.ms + 1 }

/-- R169: one more millisecond since each button line last counted as asserted, kept up to the 40 ms a press needs. -/
def ageButtons (s : State) : State :=
  { s with stopLine := min 40 (s.stopLine + 1), resumeLine := min 40 (s.resumeLine + 1) }

/-- One millisecond passes with no command waiting (DESIGN CHOICE, notes/assumptions/1.md): the memory port serves what
no command stands for, the counter counts, the sampling rounds fall due (R51), and the button ages grow. -/
def tick (s : State) : State := ageButtons (roundsFallDue (countMs (pump s)))

/-- A command enters the queue at its front. -/
def putFirst (i : Instr) (s : State) : State := { s with pending := i :: s.pending }

end Sys2Proof.Machine
end

