-- ==== Sys2Proof/Machine/CaptureEvents.lean ====
section
/-! DEFINITION. The meanings of the events of the lamp unit, the capture unit and the frame tracker's timeout. -/
namespace Sys2Proof.Machine

/-! ## Lamp unit -/

/-- R82: a routine POLL of a bar has fallen due. -/
def pollFallsDue (side : Side) (s : State) : State :=
  let b := s.lamps.get side
  placeRoutinePoll side (setBar side { b with pollDue := after b.pollDue 100 } s)

/-- LAMP_POLL_DUE (R82). -/
def execLampPollDue (side : Side) (s : State) : Host.Outcome State Fault Refusal :=
  .next (settle s
    (if inService s ∧ reached s.ms (s.lamps.get side).pollDue then pollFallsDue side s else s))

/-- R49, R83, R85: a POLL exchange completes; nothing when another exchange is under way. With its in-word discarded
only the latched fault of a FAILED bar is examined. -/
def lampPollEnds (w : Half) (s : State) : State :=
  match s.link.exchange with
  | some (.poll side) =>
    if s.link.discard then examineFailed side (endExchange s) else pollReply side w (endExchange s)
  | some (.load _ _) => s
  | some (.sample _ _) => s
  | none => s

/-- LAMP_POLL_REPLY (R83 to R85, R92). -/
def execLampPollReply (w : Half) (s : State) : Host.Outcome State Fault Refusal :=
  .next (settle s (lampPollEnds w s))

/-- R49, R81, R85, R92: a LOAD exchange completes; nothing when another exchange is under way. With its in-word
discarded its code is still the bar's last loaded code, and the latched fault of a FAILED bar is examined. -/
def lampLoadEnds (w : Half) (s : State) : State :=
  match s.link.exchange with
  | some (.load side code) =>
    if s.link.discard then
      examineFailed side (endExchange (setBar side { s.lamps.get side with lastCode := some code } s))
    else loadReply side code w (endExchange s)
  | some (.poll _) => s
  | some (.sample _ _) => s
  | none => s

/-- LAMP_LOAD_REPLY (R83 to R85, R92). -/
def execLampLoadReply (w : Half) (s : State) : Host.Outcome State Fault Refusal :=
  .next (settle s (lampLoadEnds w s))

/-! ## Capture unit -/

/-- R105: a HOLDING capture tries to acquire. -/
def tryAcquire (s : State) : State :=
  match s.capture.state with
  | .holding c => acquire c s
  | .free => s
  | .exposing _ _ => s

/-- CAPTURE_ACQUISITION (R105). -/
def execCaptureAcquisition (s : State) : Host.Outcome State Fault Refusal :=
  .next (settle s (tryAcquire s))

/-- R88: the gate of a waiting fire is examined. -/
def gateExamined (s : State) : State :=
  match s.capture.state with
  | .exposing c (.gate wait) => examineGate c wait s
  | .exposing _ (.load _) => s
  | .exposing _ (.strobe _ _) => s
  | .holding _ => s
  | .free => s

/-- FIRE_GATE (R88 to R91). -/
def execFireGate (s : State) : Host.Outcome State Fault Refusal :=
  .next (settle s (gateExamined s))

/-- R88: the park wait of a fire expires: the fire is refused, unless the park condition has come to hold. DESIGN
CHOICE (notes/assumptions/22.md). -/
def parkWaitEnds (s : State) : State :=
  match s.capture.state with
  | .exposing c (.gate (some due)) =>
    if reached s.ms due ∧ s.seq.arm = .idle then
      if parkCheck s = .holds then examineGate c (some due) s
      else refuseFire .noPosition (parkDetail (parkCheck s)) s
    else s
  | .exposing _ (.gate none) => s
  | .exposing _ (.load _) => s
  | .exposing _ (.strobe _ _) => s
  | .holding _ => s
  | .free => s

/-- PARK_WAIT_EXPIRY (R88). -/
def execParkWaitExpiry (s : State) : Host.Outcome State Fault Refusal :=
  .next (settle s (parkWaitEnds s))

/-- R93: once every bar of the capture is loaded, the final park check is made. -/
def strobeRaised (s : State) : State :=
  match s.capture.state with
  | .exposing c (.load f) => if allLoaded s c.params.sides then finalParkCheck c f s else s
  | .exposing _ (.gate _) => s
  | .exposing _ (.strobe _ _) => s
  | .holding _ => s
  | .free => s

/-- STROBE_RAISE (R93, R95). -/
def execStrobeRaise (s : State) : Host.Outcome State Fault Refusal :=
  .next (settle s (strobeRaised s))

/-- R93: the exposure time has elapsed. -/
def strobeElapsed (s : State) : State :=
  match s.capture.state with
  | .exposing _ (.strobe f raisedAt) =>
    if f.exposure ≤ elapsed s.ms raisedAt then strobeEnds f f.exposure false .done s else s
  | .exposing _ (.gate _) => s
  | .exposing _ (.load _) => s
  | .holding _ => s
  | .free => s

/-- STROBE_END (R93, R106). -/
def execStrobeEnd (s : State) : Host.Outcome State Fault Refusal :=
  .next (settle s (strobeElapsed s))

/-- R94: the raised strobe is examined against the arm and the park condition, and cut when one of them fails. -/
def strobeWatched (s : State) : State :=
  match s.capture.state with
  | .exposing _ (.strobe f raisedAt) =>
    match strobeFails s with
    | some outcome => cutStrobe f raisedAt outcome s
    | none => s
  | .exposing _ (.gate _) => s
  | .exposing _ (.load _) => s
  | .holding _ => s
  | .free => s

/-- STROBE_CUT (R94). -/
def execStrobeCut (s : State) : Host.Outcome State Fault Refusal :=
  .next (settle s (strobeWatched s))

/-! ## Frame tracker -/

/-- FRAME_TIMEOUT (R113): the frame timeout of a window expires. -/
def execFrameTimeout (window : Nat) (s : State) : Host.Outcome State Fault Refusal :=
  .next (settle s (frameExpired window s))

end Sys2Proof.Machine
end

