-- ==== Sys2Proof/Machine/MechanismEvents.lean ====
section
/-! DEFINITION. The meanings of the buttons and of the events of the mechanism: engine steps, the sequencer's timers,
the leaf sensor, sampling rounds and encoder replies. -/
namespace Sys2Proof.Machine

/-! ## Buttons (R32, R77, R169) -/

/-- R169: a press is taken: in READY or BARE, its line released for 20 ms and then asserted for 20 ms, both since the
line last counted as asserted `quiet` ms ago. DESIGN CHOICE (notes/assumptions/15.md). -/
def pressTaken (released quiet : Nat) (s : State) : Bool :=
  inService s && decide (20 ≤ released ∧ 40 ≤ quiet)

/-- R32, R169: a STOP press is taken. -/
def stopPressed (s : State) : State :=
  flushQueue (signalHalt (raise .stopPressed 0 (armNumber s.seq.arm) { s with stopLine := 0 }))

/-- STOP_PRESS (R32, R169). -/
def execStopPress (released : Nat) (s : State) : Host.Outcome State Fault Refusal :=
  .next (settle s (if pressTaken released s.stopLine s then stopPressed s else s))

/-- R77, R169: a RESUME press is taken; the sequencer acts on it in READY. -/
def resumePressed (sw : Switches) (s : State) : State :=
  let s1 := raise .resumePressed 0 (armNumber s.seq.arm) { s with resumeLine := 0 }
  if s.settings.startup = .ready then resumeSequencer sw s1 else s1

/-- RESUME_PRESS (R77, R169). -/
def execResumePress (released : Nat) (sw : Switches) (s : State) : Host.Outcome State Fault Refusal :=
  .next (settle s (if pressTaken released s.resumeLine s then resumePressed sw s else s))

/-! ## Engines (R41) -/

/-- R41: the period of the step under way of an engine passes. -/
def engineStep (e : Engine) (sw : Switches) (s : State) : State :=
  match e with
  | .arm => armStep sw s
  | .platen => platenStep sw s

/-- MOVE_STEP (R41, R42, R44, R45). -/
def execMoveStep (e : Engine) (sw : Switches) (s : State) : Host.Outcome State Fault Refusal :=
  .next (settle s (engineStep e sw s))

/-! ## Timers of the sequencer -/

/-- GRIP_TIMER (R66): the grip time expires with a reading of the leaf sensor. -/
def execGripTimer (leaf multi : Bool) (sw : Switches) (s : State) : Host.Outcome State Fault Refusal :=
  .next (settle s
    (if s.seq.arm = .gripping ∧ timerExpired .grip s then gripExpired leaf multi sw s else s))

/-- GRIP_RELEASE_WAIT (R66): the release time between attempts expires and the next begins. -/
def execGripReleaseWait (s : State) : Host.Outcome State Fault Refusal :=
  .next (settle s (if s.seq.arm = .gripping ∧ timerExpired .release s then beginGrip s else s))

/-- R68: a reading of LEAF in SWEEPING. -/
def leafRead (leaf : Bool) (sw : Switches) (s : State) : State :=
  let n := if leaf then 0 else s.seq.lowReads + 1
  let s1 := setSeq { s.seq with lowReads := n, nextLeaf := after s.seq.nextLeaf 1 } s
  if 5 ≤ n then leafDropped sw s1 else s1

/-- SWEEP_LEAF_READ (R68): LEAF is read, once each millisecond. -/
def execSweepLeafRead (leaf : Bool) (sw : Switches) (s : State) : Host.Outcome State Fault Refusal :=
  .next (settle s
    (if s.seq.arm = .sweeping ∧ reached s.ms s.seq.nextLeaf then leafRead leaf sw s else s))

/-- RELEASE_TIMER (R69): the release time of RELEASING expires. -/
def execReleaseTimer (sw : Switches) (s : State) : Host.Outcome State Fault Refusal :=
  .next (settle s (if s.seq.arm = .releasing ∧ timerExpired .release s then releaseExpired sw s else s))

/-- SETTLE_TIMER (R72): the settle time expires. -/
def execSettleTimer (s : State) : Host.Outcome State Fault Refusal :=
  .next (settle s (if s.seq.arm = .settling ∧ timerExpired .settle s then settleExpired s else s))

/-- HOMING_LIMIT (R79): the homing limit expires in step 1. -/
def execHomingLimit (s : State) : Host.Outcome State Fault Refusal :=
  .next (settle s
    (if s.seq.arm = .homing ∧ s.seq.homing = .heads ∧ timerExpired .homing s then enterFaulted .noPosition s else s))

/-! ## Position unit and sensor link -/

/-- SAMPLE_ROUND (R51): a round that has fallen due places its requests. -/
def execSampleRound (s : State) : Host.Outcome State Fault Refusal :=
  .next (settle s (if inService s then placeDueRound s else s))

/-- R49, R52: an encoder sample exchange completes; nothing when another exchange is under way. -/
def encoderReply (w : Half) (sw : Switches) (s : State) : State :=
  match s.link.exchange with
  | some (.sample h q) => if s.link.discard then endExchange s else sampleReply h q w sw (endExchange s)
  | some (.load _ _) => s
  | some (.poll _) => s
  | none => s

/-- ENCODER_SAMPLE_REPLY (R52 to R57, R74, R78). -/
def execEncoderSampleReply (w : Half) (sw : Switches) (s : State) : Host.Outcome State Fault Refusal :=
  .next (settle s (encoderReply w sw s))

end Sys2Proof.Machine
end

