-- ==== Sys2Proof/WellFormed.lean ====
section
/-! DEFINITION. Which command terms stand for something the part's lines can carry. -/
namespace Sys2Proof

/-- Section 9.1: a transaction starts at a multiple of 4 and has 1 to 16 words. -/
def Transaction.wf : Transaction → Bool
  | .read start len => start.toNat % 4 == 0 && decide (1 ≤ len) && decide (len ≤ 16)
  | .write start words => start.toNat % 4 == 0 && decide (1 ≤ words.length) && decide (words.length ≤ 16)

/-- A command is well formed when its operands are values its lines can carry: a bus transaction (section 9.1), an
entry number of the armed window table (R107), the bytes of one settings section (R172) or of the whole image (R178). -/
def Instr.wf : Instr → Bool
  | .upstreamTransaction t => t.wf
  | .frameTimeout w => decide (w < 4)
  | .eepromReadAttempt (some bs) => bs.length == 64 || bs.length == 192
  | .storeReadback (some bs) => bs.length == 256
  | .eepromReadAttempt none | .storeReadback none => true
  | .openVolume | .select | .park | .close | .manual | .skip | .turn _ | .capture | .advance _ | .light | .halt
  | .quiet | .clear | .configure | .restart _ _ | .postWordWrite | .fetch | .ticketArrival | .stopPress _
  | .resumePress _ _ | .moveStep _ _ | .gripTimer _ _ _ | .gripReleaseWait | .sweepLeafRead _ _ | .releaseTimer _
  | .settleTimer | .homingLimit | .sampleRound | .lampPollDue _ | .encoderSampleReply _ _ | .lampPollReply _
  | .lampLoadReply _ | .captureAcquisition | .fireGate | .parkWaitExpiry | .strobeRaise | .strobeEnd | .strobeCut
  | .upstreamWrite | .accountWriteServed | .accountClosingRead | .returnClosingRead | .returnWriteServed
  | .statusWriteServed | .statusPeriod | .attendTonePeriod | .chirpEnd | .resetnAssert | .resetnRelease _
  | .powerSettlingEnd _ _ | .eepromRetryWait | .profileCheck _ _ | .configureImageRead | .storeByteAck
  | .storeByteTimeout | .restartTakeEffect => true

end Sys2Proof
end

