-- ==== Sys2Proof/Machine/PathEvents.lean ====
section
/-! DEFINITION. The meanings of the events of the through-path and of the rings: acceptance and service of upstream
transactions, fetches and arrivals, served writes, closing-word reads, status block writes, and the tone. -/
namespace Sys2Proof.Machine

/-! ## Upstream port -/

/-- R143: the upstream port accepts a transaction; while four wait, or in RESET_HELD, it does not, and the host bus
waits. DESIGN CHOICE (notes/assumptions/5.md). -/
def acceptUpstream (t : Transaction) (s : State) : State :=
  if s.settings.startup = .resetHeld ∨ 4 ≤ s.path.upstream.length then s
  else { s with path := { s.path with upstream := s.path.upstream ++ [t] } }

/-- UPSTREAM_TRANSACTION (R143). -/
def execUpstreamTransaction (t : Transaction) (s : State) : Host.Outcome State Fault Refusal :=
  if t.wf then .next (settle s (pump (acceptUpstream t s))) else .fault .malformedTransaction

/-- R144: the memory port serves the upstream write the arbiter chooses. -/
def upstreamWriteServed (s : State) : State :=
  match arbiter s with
  | some (.upstream (.write a ws)) => pump (serveWrite a ws s)
  | some (.upstream (.read _ _)) => s
  | some (.internal _) => s
  | none => s

/-- UPSTREAM_WRITE (R143 to R149). -/
def execUpstreamWrite (s : State) : Host.Outcome State Fault Refusal :=
  .next (settle s (upstreamWriteServed s))

/-- A burst has a word at the post word (R148). -/
def coversPostWord (s : State) (a : Word) (ws : List BusWord) : Bool :=
  (addressed a ws).any fun x => decide (placeOf s x.1.toNat = .postWord)

/-- R26, R148: the memory port serves an upstream write, chosen by the arbiter, that has a word at the post word.
DEDUCED (notes/assumptions/26.md). -/
def postWordServed (s : State) : State :=
  match arbiter s with
  | some (.upstream (.write a ws)) => if coversPostWord s a ws then pump (serveWrite a ws s) else s
  | some (.upstream (.read _ _)) => s
  | some (.internal _) => s
  | none => s

/-- POST_WORD_WRITE (R26, R27, R148). -/
def execPostWordWrite (s : State) : Host.Outcome State Fault Refusal :=
  .next (settle s (postWordServed s))

/-- R134: the memory port serves an upstream read, chosen by the arbiter, that covers a closing word of the account
ring. -/
def accountClosingServed (s : State) : State :=
  match arbiter s with
  | some (.upstream (.read a n)) =>
    if (closings s a n).any isAccountClosing then pump (serveRead a n s) else s
  | some (.upstream (.write _ _)) => s
  | some (.internal _) => s
  | none => s

/-- ACCOUNT_CLOSING_READ (R134, R135, R117). -/
def execAccountClosingRead (s : State) : Host.Outcome State Fault Refusal :=
  .next (settle s (accountClosingServed s))

/-- R161: the memory port serves an upstream read, chosen by the arbiter, that covers a closing word of the return
ring. -/
def returnClosingServed (s : State) : State :=
  match arbiter s with
  | some (.upstream (.read a n)) =>
    if (closings s a n).any isReturnClosing then pump (serveRead a n s) else s
  | some (.upstream (.write _ _)) => s
  | some (.internal _) => s
  | none => s

/-- RETURN_CLOSING_READ (R159 to R161). -/
def execReturnClosingRead (s : State) : Host.Outcome State Fault Refusal :=
  .next (settle s (returnClosingServed s))

/-! ## Tickets -/

/-- FETCH (R28): a fetch is issued when its conditions hold. -/
def execFetch (s : State) : Host.Outcome State Fault Refusal :=
  .next (settle s (issueFetch s))

/-- R29: the memory port serves the ticket read the arbiter chooses. -/
def ticketArrives (s : State) : State :=
  match arbiter s with
  | some (.internal e) =>
    match e.purpose with
    | .ticketRead i => pump (arrive i (readBlock s.memory e.addr) (serveInternal e s))
    | .accountWrite _ => s
    | .returnWrite _ => s
    | .statusWrite => s
    | .imageRead _ => s
  | some (.upstream _) => s
  | none => s

/-- TICKET_ARRIVAL (R29 to R31). -/
def execTicketArrival (s : State) : Host.Outcome State Fault Refusal :=
  .next (settle s (ticketArrives s))

/-- R30: the ticket of index `i` in memory at `a` is a HALT that acts at fetch. -/
def isHaltTicket (i : Half) (t : Ticket) : Bool := decide (ticketKind t = 11 ∧ ticketIndexField t = i)

/-- R30: the memory port serves the ticket read the arbiter chooses, when that ticket is a HALT that acts at fetch.
DEDUCED (notes/assumptions/26.md). -/
def haltArrives (s : State) : State :=
  match arbiter s with
  | some (.internal e) =>
    match e.purpose with
    | .ticketRead i =>
      if isHaltTicket i { index := i, bytes := readBlock s.memory e.addr } then
        pump (arrive i (readBlock s.memory e.addr) (serveInternal e s))
      else s
    | .accountWrite _ => s
    | .returnWrite _ => s
    | .statusWrite => s
    | .imageRead _ => s
  | some (.upstream _) => s
  | none => s

/-- HALT (R30). -/
def execHalt (s : State) : Host.Outcome State Fault Refusal :=
  .next (settle s (haltArrives s))

/-! ## Served writes of the controller's own -/

/-- R133: the memory port serves the account write the arbiter chooses. -/
def accountWriteIsServed (s : State) : State :=
  match arbiter s with
  | some (.internal e) =>
    match e.purpose with
    | .accountWrite i => pump (accountPosted i (serveInternal e s))
    | .ticketRead _ => s
    | .returnWrite _ => s
    | .statusWrite => s
    | .imageRead _ => s
  | some (.upstream _) => s
  | none => s

/-- ACCOUNT_WRITE_SERVED (R133). -/
def execAccountWriteServed (s : State) : Host.Outcome State Fault Refusal :=
  .next (settle s (accountWriteIsServed s))

/-- R159: the memory port serves the return write the arbiter chooses. -/
def returnWriteIsServed (s : State) : State :=
  match arbiter s with
  | some (.internal e) =>
    match e.purpose with
    | .returnWrite i => pump (returnPosted i (serveInternal e s))
    | .ticketRead _ => s
    | .accountWrite _ => s
    | .statusWrite => s
    | .imageRead _ => s
  | some (.upstream _) => s
  | none => s

/-- RETURN_WRITE_SERVED (R159). -/
def execReturnWriteServed (s : State) : Host.Outcome State Fault Refusal :=
  .next (settle s (returnWriteIsServed s))

/-- R166: the status write that waited has been served; another is placed when the shadow was marked as changed again. -/
def statusServed (s : State) : State :=
  let s1 := { s with ret := { s.ret with statusWaiting := false } }
  if s.ret.statusAgain then placeStatus s1 else s1

/-- R166: the memory port serves the status write the arbiter chooses. -/
def statusWriteIsServed (s : State) : State :=
  match arbiter s with
  | some (.internal e) =>
    match e.purpose with
    | .statusWrite => pump (statusServed (serveInternal e s))
    | .ticketRead _ => s
    | .accountWrite _ => s
    | .returnWrite _ => s
    | .imageRead _ => s
  | some (.upstream _) => s
  | none => s

/-- STATUS_WRITE_SERVED (R166). -/
def execStatusWriteServed (s : State) : Host.Outcome State Fault Refusal :=
  .next (settle s (statusWriteIsServed s))

/-- R166: a second has passed since the last status write was placed. -/
def periodPasses (s : State) : State :=
  if statusWritten s ∧ s.ret.statusWaiting = false ∧ reached s.ms (after s.ret.statusPlacedAt 1000) then placeStatus s
  else s

/-- STATUS_PERIOD (R166). -/
def execStatusPeriod (s : State) : Host.Outcome State Fault Refusal :=
  .next (settle s (periodPasses s))

/-! ## Tone (R167) -/

/-- R167: an on or off period of the ATTEND pattern ends. -/
def toneToggles (s : State) : State :=
  match s.ret.tone with
  | .attend on due =>
    if reached s.ms due then { s with ret := { s.ret with tone := .attend (!on) (after due 250) } } else s
  | .silent => s
  | .chirp _ => s

/-- ATTEND_TONE_PERIOD (R167). -/
def execAttendTonePeriod (s : State) : Host.Outcome State Fault Refusal :=
  .next (settle s (toneToggles s))

/-- R167: the 60 ms of a chirp end. -/
def chirpEnds (s : State) : State :=
  match s.ret.tone with
  | .chirp due => if reached s.ms due then { s with ret := { s.ret with tone := .silent } } else s
  | .silent => s
  | .attend _ _ => s

/-- CHIRP_END (R167). -/
def execChirpEnd (s : State) : Host.Outcome State Fault Refusal :=
  .next (settle s (chirpEnds s))

end Sys2Proof.Machine
end

