-- ==== Sys2Proof/Machine/SettingsEvents.lean ====
section
/-! DEFINITION. The meanings of the events of start-up and of the settings unit: RESETN, POWER_SETTLING, the EEPROM,
the profile pins, CONFIGURE images and their storing, and a restart taking effect. -/
namespace Sys2Proof.Machine

/-! ## Reset and start-up (R173, R174) -/

/-- R173: RESETN is asserted, or power comes up: every block at its full-reset state; frame memory is untouched.
DESIGN CHOICE (notes/assumptions/28.md). -/
def assertReset (s : State) : State :=
  { State.reset with memory := s.memory, freeChoices := s.freeChoices, pending := s.pending }

/-- RESETN_ASSERT (R173). -/
def execResetnAssert (s : State) : Host.Outcome State Fault Refusal := .next (assertReset s)

/-- R173, R174: RESET_HELD is left: the counter starts from 0, the reset cause is recorded, POWER_SETTLING begins.
DEDUCED (notes/assumptions/19.md). -/
def releaseReset (powerOn : Bool) (s : State) : State :=
  if s.settings.startup = .resetHeld then
    { s with
      ms := 0
      settings := { s.settings with
        startup := .powerSettling, cause := if powerOn then .powerOn else .resetn, settleUntil := 20 } }
  else s

/-- RESETN_RELEASE (R173). -/
def execResetnRelease (powerOn : Bool) (s : State) : Host.Outcome State Fault Refusal :=
  .next (settle s (releaseReset powerOn s))

/-- R173, R175: POWER_SETTLING ends: the profile pins are sampled and LOADING begins. -/
def powerSettled (profile : Nat) (s : State) : State :=
  if s.settings.startup = .powerSettling ∧ reached s.ms s.settings.settleUntil then
    beginAttempt .mapSection
      (setSettings { s.settings with startup := .loading, profile := profile, loading := some beginLoading } s)
  else s

/-- POWER_SETTLING_END (R173, R175). -/
def execPowerSettlingEnd (prof1 prof0 : Level) (s : State) : Host.Outcome State Fault Refusal :=
  .next (settle s (powerSettled (profileOf prof1 prof0) s))

/-- R172: a read attempt completes, in LOADING, when no wait between attempts runs. -/
def attemptCompletes (reply : Option (List Byte)) (s : State) : State :=
  match s.settings.loading with
  | none => s
  | some l => if s.settings.startup = .loading ∧ l.retryAt = none then readAttempt l reply s else s

/-- EEPROM_READ_ATTEMPT (R171 to R173). -/
def execEepromReadAttempt (reply : Option (List Byte)) (s : State) : Host.Outcome State Fault Refusal :=
  .next (settle s (attemptCompletes reply s))

/-- R172: the 10 ms wait after a failed attempt expires, and the next attempt begins. -/
def retryWaitEnds (s : State) : State :=
  match s.settings.loading with
  | none => s
  | some l =>
    match l.retryAt with
    | none => s
    | some due =>
      if reached s.ms due then
        beginAttempt l.reading (setSettings { s.settings with loading := some { l with retryAt := none } } s)
      else s

/-- EEPROM_RETRY_WAIT (R172). -/
def execEepromRetryWait (s : State) : Host.Outcome State Fault Refusal :=
  .next (settle s (retryWaitEnds s))

/-! ## The profile pins (R176) -/

/-- R176: a comparison of the profile pins with the sampled profile. DEDUCED (notes/assumptions/17.md). -/
def compareProfile (profile : Nat) (s : State) : State :=
  let s1 := setSettings { s.settings with profileDue := after s.settings.profileDue 100 } s
  if profile = s.settings.profile then s1
  else latch .profileChanged .profileChanged 0 profile (setSettings { s1.settings with lock := true } s1)

/-- PROFILE_CHECK (R176). -/
def execProfileCheck (prof1 prof0 : Level) (s : State) : Host.Outcome State Fault Refusal :=
  .next (settle s
    (if inService s ∧ reached s.ms s.settings.profileDue then compareProfile (profileOf prof1 prof0) s else s))

/-! ## CONFIGURE (R177, R178) -/

/-- R177: the memory port serves the last read of an image. -/
def imageReadServed (s : State) : State :=
  match arbiter s with
  | some (.internal e) =>
    match e.purpose with
    | .imageRead part =>
      if 3 ≤ part then pump (imageRead (deliverImage (readBlock s.memory e.addr) (serveInternal e s))) else s
    | .ticketRead _ => s
    | .accountWrite _ => s
    | .returnWrite _ => s
    | .statusWrite => s
  | some (.upstream _) => s
  | none => s

/-- CONFIGURE_IMAGE_READ (R177). -/
def execConfigureImageRead (s : State) : Host.Outcome State Fault Refusal :=
  .next (settle s (imageReadServed s))

/-- R178: the EEPROM acknowledges within the 20 ms of a byte: the next is written, or the readback begins. -/
def byteAcknowledged (s : State) : State :=
  match s.settings.configure with
  | none => s
  | some c =>
    match c.phase with
    | .storing offset since => if elapsed s.ms since ≤ 20 then storeFrom c (offset + 1) s else s
    | .reading _ => s
    | .readback => s

/-- STORE_BYTE_ACK (R178). -/
def execStoreByteAck (s : State) : Host.Outcome State Fault Refusal :=
  .next (settle s (byteAcknowledged s))

/-- R178: the 20 ms of a byte expire without an acknowledge. DESIGN CHOICE (notes/assumptions/27.md). -/
def byteTimedOut (s : State) : State :=
  match s.settings.configure with
  | none => s
  | some c =>
    match c.phase with
    | .storing offset since => if 20 ≤ elapsed s.ms since then endConfigure .storeFailed offset s else s
    | .reading _ => s
    | .readback => s

/-- STORE_BYTE_TIMEOUT (R178). -/
def execStoreByteTimeout (s : State) : Host.Outcome State Fault Refusal :=
  .next (settle s (byteTimedOut s))

/-- R178: the readback of a stored image completes. -/
def readbackCompletes (reply : Option (List Byte)) (s : State) : State :=
  match s.settings.configure with
  | none => s
  | some c =>
    match c.phase with
    | .readback =>
      match reply with
      | none => endConfigure .storeFailed 512 s
      | some back =>
        match firstDifference (s.settings.pendingImage.getD []) back with
        | some i => endConfigure .storeFailed (256 + i) s
        | none => endConfigure .done 0 s
    | .reading _ => s
    | .storing _ _ => s

/-- STORE_READBACK (R178). -/
def execStoreReadback (reply : Option (List Byte)) (s : State) : Host.Outcome State Fault Refusal :=
  .next (settle s (readbackCompletes reply s))

/-! ## A restart taking effect (R180) -/

/-- R180: the candidate of a RESTART with RELOAD is examined for MAP_BUSY and takes effect. -/
def reloadEnds (s : State) : State :=
  match s.settings.restart with
  | none => s
  | some r =>
    match r.candidate with
    | none => s
    | some c => if mapBusyDetail s c ≠ 0 then refuseReload r (mapBusyDetail s c) s else takeEffect r.tag c s

/-- RESTART_TAKE_EFFECT (R180). -/
def execRestartTakeEffect (s : State) : Host.Outcome State Fault Refusal :=
  .next (settle s (reloadEnds s))

end Sys2Proof.Machine
end

