-- ==== Sys2Proof/Machine/VolumeTickets.lean ====
section
/-! DEFINITION. The meanings of the volume tickets (section 1.3): OPEN, SELECT, PARK, CLOSE, MANUAL, SKIP. -/
namespace Sys2Proof.Machine

/-! ## OPEN (R12, R13) -/

/-- R12: the slot that holds an equal shelf mark. -/
def duplicateOf (s : State) (name : List Byte) : Option Nat :=
  s.volumes.entries.findIdx? fun e =>
    match e with
    | some v => decide (v.shelfMark = name)
    | none => false

/-- R13: the lowest-numbered FREE entry. -/
def freeSlot (s : State) : Option Nat := s.volumes.entries.findIdx? fun e => e.isNone

/-- R137: the content of the OPENED record. -/
def openedContent (v : Volume) : AccountContent :=
  .opened (v.leafCount.getD 0) v.opening v.allowance v.target v.exposure v.drive.v v.drive.r

/-- R13: a volume takes an entry, ACTIVE when none is. -/
def takeEntry (slot : Nat) (v : Volume) (s : State) : State :=
  setVolume slot (some v)
    (if s.volumes.active = none then { s with volumes := { s.volumes with active := some slot } } else s)

/-- R13: OPEN takes effect on a slot. -/
def openEffect (t : Ticket) (slot : Nat) (v : Volume) (s : State) : State :=
  completeHead t .done slot (if s.volumes.active = none then 0 else 1)
    (handAccount slot (openedContent v) (takeEntry slot v (grantSlots 1 s)))

/-- R12, R13: the examination of an OPEN. -/
def openTicket (s : State) (t : Ticket) : State :=
  match openFields (mechOf s) s.ms t with
  | .error n => completeHead t .badField 255 n s
  | .ok v =>
    match duplicateOf s v.shelfMark with
    | some slot => completeHead t .duplicate 255 slot s
    | none =>
      match freeSlot s with
      | none => completeHead t .tableFull 255 0 s
      | some slot => if 1 ≤ accountFree s then openEffect t slot v s else refuseSlots 1 s

/-- OPEN (R12, R13). -/
def execOpen (s : State) : Host.Outcome State Fault Refusal :=
  .next (settle s (examine .openVolume s (openTicket s)))

/-! ## SELECT and PARK (R14 to R16) -/

/-- R14: what holds SELECT and PARK. -/
def activeHolds (s : State) : Bool :=
  decide (s.seq.arm ≠ .idle) || !captureFree s
    || (match s.volumes.active with
      | some slot => windowOfSlot s slot
      | none => false)

/-- The slot field of a SELECT, CLOSE or SKIP. -/
def slotField (t : Ticket) : Nat := byteAt t.bytes 8

/-- The ACTIVE slot as the detail of a SELECT names it. -/
def parkedDetail (s : State) : Nat := s.volumes.active.getD 255

/-- Make an entry ACTIVE, or none. -/
def setActive (a : Option Nat) (s : State) : State := { s with volumes := { s.volumes with active := a } }

/-- R15: the examination of a SELECT. -/
def selectTicket (s : State) (t : Ticket) : State :=
  let slot := slotField t
  if 7 < slot then completeHead t .badField 255 5 s
  else
    match volumeAt s slot with
    | none => completeHead t .noVolume slot 0 s
    | some _ =>
      if s.volumes.active = some slot then completeHead t .done slot 255 s
      else if activeHolds s then s
      else completeHead t .done slot (parkedDetail s) (setActive (some slot) s)

/-- SELECT (R15). -/
def execSelect (s : State) : Host.Outcome State Fault Refusal :=
  .next (settle s (examine .select s (selectTicket s)))

/-- R16: the examination of a PARK. -/
def parkTicket (s : State) (t : Ticket) : State :=
  match activeVolume s with
  | none => completeHead t .noVolume 255 0 s
  | some (slot, _) => if activeHolds s then s else completeHead t .done slot 0 (setActive none s)

/-- PARK (R16). -/
def execPark (s : State) : Host.Outcome State Fault Refusal :=
  .next (settle s (examine .park s (parkTicket s)))

/-! ## CLOSE (R17, R18) -/

/-- R18, R140: the EXCEPTION records, from position `i`, of a list of `n` entries. -/
def handExceptions (slot n : Nat) : Nat → List ExceptionEntry → State → State
  | _, [], s => s
  | i, e :: es, s => handExceptions slot n (i + 1) es (handAccount slot (.exception e.leaf e.side e.reason i n) s)

/-- R18, R140: the CLOSED record of a volume whose list held `n` entries. -/
def handClosed (slot n : Nat) (s : State) : State :=
  match volumeAt s slot with
  | none => s
  | some v =>
    handAccount slot
      (.closed v.captureCount v.doseUsed v.allowance v.opening n v.overfull v.chain) s

/-- R18: the entry becomes FREE. -/
def freeEntry (slot : Nat) (s : State) : State :=
  setVolume slot none (if s.volumes.active = some slot then setActive none s else s)

/-- R18: CLOSE takes effect. -/
def closeEffect (t : Ticket) (slot : Nat) (v : Volume) (s : State) : State :=
  let n := v.exceptions.length
  completeHead t (if 1 ≤ n ∨ v.overfull then .incomplete else .done) slot n
    (freeEntry slot (handClosed slot n (handExceptions slot n 1 v.exceptions (grantSlots (1 + n) s))))

/-- R17, R18: the examination of a CLOSE. -/
def closeTicket (s : State) (t : Ticket) : State :=
  let slot := slotField t
  if 7 < slot then completeHead t .badField 255 5 s
  else
    match volumeAt s slot with
    | none => completeHead t .noVolume slot 0 s
    | some v =>
      if s.volumes.active = some slot ∧ cradleHolds s slot then s
      else if 1 + v.exceptions.length ≤ accountFree s then closeEffect t slot v s
      else refuseSlots (1 + v.exceptions.length) s

/-- CLOSE (R17, R18). -/
def execClose (s : State) : Host.Outcome State Fault Refusal :=
  .next (settle s (examine .close s (closeTicket s)))

/-! ## MANUAL (R19) -/

/-- R19: MANUAL takes effect with the new opening index. -/
def manualEffect (t : Ticket) (slot : Nat) (v : Volume) (opening : Nat) (s : State) : State :=
  completeHead t .done slot opening
    (handAccount slot (.noteManual v.opening opening)
      (setVolume slot (some { v with opening := opening, take := 0 }) (grantSlots 1 s)))

/-- R19, R182: the examination of a MANUAL. DEDUCED (notes/assumptions/16.md). -/
def manualTicket (s : State) (t : Ticket) : State :=
  let k := manualCount t
  if k = 0 ∨ k = -32768 then completeHead t .badField (activeSlotNumber s) 5 s
  else
    match activeVolume s with
    | none => completeHead t .noVolume 255 0 s
    | some (slot, v) =>
      let o : Int := (v.opening : Int) + k
      if (highestOpening v.leafCount : Int) < o then completeHead t .atEnd slot 0 s
      else if o < 0 then completeHead t .atStart slot 0 s
      else if s.seq.arm ≠ .idle ∨ ¬ captureFree s then s
      else if 1 ≤ accountFree s then manualEffect t slot v o.toNat s
      else refuseSlots 1 s

/-- MANUAL (R19). -/
def execManual (s : State) : Host.Outcome State Fault Refusal :=
  .next (settle s (examine .manual s (manualTicket s)))

/-! ## SKIP (R20) -/

/-- R20: the sides a skip selects, V first. -/
def selectedSides (p : PerSide Bool) : List Side := (if p.v then [.v] else []) ++ (if p.r then [.r] else [])

/-- R20: the entries a skip offers, in order. -/
def skipEntries (first count : Nat) (p : PerSide Bool) : List ExceptionEntry :=
  (List.range count).flatMap fun i =>
    (selectedSides p).map fun side => { leaf := first + i, side := side, reason := .skipped }

/-- R20: entries are offered in order; the volume and how many were placed or replaced. -/
def offerAll : List ExceptionEntry → Volume → Volume × Nat
  | [], v => (v, 0)
  | e :: es, v =>
    let rest := offerAll es (offerException e v)
    (rest.1, rest.2 + (if canPlace e v.exceptions then 1 else 0))

/-- R20: the highest leaf of a volume. -/
def lastLeaf : Option Nat → Nat
  | some lc => lc - 1
  | none => 65535

/-- R20: SKIP takes effect. -/
def skipEffect (t : Ticket) (slot first count : Nat) (p : PerSide Bool) (v : Volume) (s : State) : State :=
  let entries := skipEntries first count p
  let result := offerAll entries v
  let missed := entries.length - result.2
  completeHead t .done slot missed
    (handAccount slot (.noteSkip first count (sidesNumber p) result.2 missed)
      (setVolume slot (some result.1) (grantSlots 1 s)))

/-- R20: the examination of a SKIP. -/
def skipTicket (s : State) (t : Ticket) : State :=
  let slot := slotField t
  let first := le16At t.bytes 10
  let count := byteAt t.bytes 12
  if 7 < slot then completeHead t .badField 255 5 s
  else if ¬ (1 ≤ count ∧ count ≤ 16) then completeHead t .badField slot 7 s
  else
    match sidesOf (byteAt t.bytes 13) with
    | none => completeHead t .badField slot 8 s
    | some p =>
      match volumeAt s slot with
      | none => completeHead t .noVolume slot 0 s
      | some v =>
        if lastLeaf v.leafCount < first + count - 1 then completeHead t .badField slot 6 s
        else if 1 ≤ accountFree s then skipEffect t slot first count p v s
        else refuseSlots 1 s

/-- SKIP (R20). -/
def execSkip (s : State) : Host.Outcome State Fault Refusal :=
  .next (settle s (examine .skip s (skipTicket s)))

end Sys2Proof.Machine
end

