-- ==== Sys2Proof/Machine/WorkTickets.lean ====
section
/-! DEFINITION. The meanings of the tickets that work the cradle and the part: TURN, CAPTURE, ADVANCE, LIGHT, QUIET,
CLEAR, CONFIGURE and RESTART. -/
namespace Sys2Proof.Machine

/-! ## Refusals of TURN, CAPTURE and ADVANCE -/

/-- A refusal: its outcome and its detail. -/
abbrev Refused := Option (OutcomeCode × Nat)

/-- R60, items 2 to 6: the refusals of a turn in a direction, in their order. -/
def turnRefusal (s : State) (forward : Bool) : Refused :=
  if s.settings.lock then some (.mechLocked, 0)
  else
    match activeVolume s with
    | none => some (.noVolume, 0)
    | some (_, v) =>
      if s.seq.arm = .halted ∨ s.seq.arm = .faulted then some (.armFault, armNumber s.seq.arm)
      else if bothDown s then some (.noPosition, 0)
      else if forward ∧ v.opening = highestOpening v.leafCount then some (.atEnd, 0)
      else if ¬ forward ∧ v.opening = 0 then some (.atStart, 0)
      else none

/-- The range of the buffer of a side of a capture. -/
def bufferExtent (p : CaptureParams) (side : Side) : Extent := (p.buffer.get side, frameLength p)

/-- R102: the ranges of the map's regions, the windows and the guards. -/
def protectedExtents (s : State) : List Extent :=
  (match mapOf s with
    | some m => regionsOf m
    | none => [])
  ++ s.frames.windows.filterMap (fun w => w.map fun x => (x.base, windowLength x))
  ++ s.frames.guards.filterMap (fun g => g.map fun x => (x.base, x.length))

/-- R102: a buffer shares a byte with a protected range or with the other requested buffer. -/
def overlaps (s : State) (p : CaptureParams) (side other : Side) : Bool :=
  p.sides.get side
    && ((protectedExtents s).any (fun e => !disjoint (bufferExtent p side) e)
      || (p.sides.get other && !disjoint (bufferExtent p side) (bufferExtent p other)))

/-- R102: the OVERLAP refusal, side V examined first. -/
def overlapRefusal (s : State) (p : CaptureParams) : Refused :=
  if overlaps s p .v .r then some (.overlap, 1)
  else if overlaps s p .r .v then some (.overlap, 2)
  else none

/-- R97: the lamp and allowance checks of a capture of these sides on a volume. -/
def lampRefusal (s : State) (sides : PerSide Bool) (v : Volume) : Refused :=
  if failedSides s sides ≠ 0 then some (.lampFault, failedSides s sides)
  else if hotSides s sides ≠ 0 then some (.lampHot, hotSides s sides)
  else if doseCap v sides < (mechOf s).dMin then some (.allowance, doseCap v sides)
  else none

/-- R103, items 3 to 6: the refusals of a capture after its fields and its buffers. -/
def captureRefusal (s : State) (sides : PerSide Bool) : Refused :=
  match activeVolume s with
  | none => some (.noVolume, 0)
  | some (_, v) =>
    if s.seq.arm = .halted ∨ s.seq.arm = .faulted then some (.armFault, armNumber s.seq.arm)
    else if bothDown s then some (.noPosition, 1)
    else lampRefusal s sides v

/-- R104, items 3 and 4, for the ACTIVE volume. -/
def advanceCaptureRefusal (s : State) (p : CaptureParams) : Refused :=
  (overlapRefusal s p).or
    (match activeVolume s with
      | none => none
      | some (_, v) => lampRefusal s p.sides v)

/-! ## TURN (R60) -/

/-- R35, R60, R62: the TURN leaves the queue and starts. The tickets its leaving exposes complete before what the start
itself places. DESIGN CHOICE (notes/assumptions/32.md). -/
def turnStart (t : Ticket) (forward : Bool) (sw : Switches) (s : State) : State :=
  startTurn { kind := .turn, tag := ticketTag t, forward := forward, slot := activeSlotNumber s, capture := none } sw
    (startHead s)

/-- R60: the examination of a TURN. -/
def turnTicket (sw : Switches) (s : State) (t : Ticket) : State :=
  match forwardOf (byteAt t.bytes 8) with
  | none => completeHead t .badField (activeSlotNumber s) 5 s
  | some forward =>
    match turnRefusal s forward with
    | some (o, d) => completeHead t o (activeSlotNumber s) d s
    | none => if turnHolds s then s else turnStart t forward sw s

/-- TURN (R60). -/
def execTurn (sw : Switches) (s : State) : Host.Outcome State Fault Refusal :=
  .next (settle s (examine .turn s (turnTicket sw s)))

/-! ## CAPTURE (R103) -/

/-- R103: the CAPTURE starts: the unit takes the capture record and enters HOLDING. DEDUCED (notes/assumptions/6.md).
-/
def captureStart (t : Ticket) (p : CaptureParams) (s : State) : State :=
  setCapture (.holding { kind := .capture, tag := ticketTag t, slot := activeSlotNumber s, params := p }) (startHead s)

/-- R103: the examination of a CAPTURE. -/
def captureTicket (s : State) (t : Ticket) : State :=
  match captureFields t 8 5 with
  | .error n => completeHead t .badField (activeSlotNumber s) n s
  | .ok p =>
    match (overlapRefusal s p).or (captureRefusal s p.sides) with
    | some (o, d) => completeHead t o (activeSlotNumber s) d s
    | none => if captureHolds s then s else captureStart t p s

/-- CAPTURE (R103). -/
def execCapture (s : State) : Host.Outcome State Fault Refusal :=
  .next (settle s (examine .capture s (captureTicket s)))

/-! ## ADVANCE (R61, R104) -/

/-- R35, R104: the ADVANCE leaves the queue and starts its turn half. The tickets its leaving exposes complete before what
the start itself places. DESIGN CHOICE (notes/assumptions/32.md). -/
def advanceStart (t : Ticket) (forward : Bool) (p : CaptureParams) (sw : Switches) (s : State) : State :=
  startTurn
    { kind := .advance, tag := ticketTag t, forward := forward, slot := activeSlotNumber s, capture := some p } sw
    (startHead s)

/-- R104: the examination of an ADVANCE. -/
def advanceTicket (sw : Switches) (s : State) (t : Ticket) : State :=
  match forwardOf (byteAt t.bytes 8) with
  | none => completeHead t .badField (activeSlotNumber s) 5 s
  | some forward =>
    match captureFields t 9 6 with
    | .error n => completeHead t .badField (activeSlotNumber s) n s
    | .ok p =>
      match (turnRefusal s forward).or (advanceCaptureRefusal s p) with
      | some (o, d) => completeHead t o (activeSlotNumber s) d s
      | none => if advanceHolds s then s else advanceStart t forward p sw s

/-- ADVANCE (R104). -/
def execAdvance (sw : Switches) (s : State) : Host.Outcome State Fault Refusal :=
  .next (settle s (examine .advance s (advanceTicket sw s)))

/-! ## LIGHT (R98, R99) -/

/-- R98: the number of the first failing field of a LIGHT. -/
def lightField (m : MechSettings) (t : Ticket) : Option Nat :=
  if ticketFlag t 0 ∧ ¬ codeAllowed m (le16At t.bytes 8) then some 5
  else if ticketFlag t 0 ∧ ¬ codeAllowed m (le16At t.bytes 10) then some 6
  else if ticketFlag t 2 ∧ ¬ (1024 ≤ le16At t.bytes 12 ∧ le16At t.bytes 12 ≤ 60000) then some 7
  else if ticketFlag t 3 ∧ ¬ (1 ≤ le16At t.bytes 14 ∧ le16At t.bytes 14 ≤ 250) then some 8
  else none

/-- R99: the code of a side after a LIGHT: its field, unless CODES is clear or the field is 0. -/
def lightCode (t : Ticket) (field old : Nat) : Nat := if ticketFlag t 0 ∧ field ≠ 0 then field else old

/-- R99: the volume entry after a LIGHT. -/
def lightVolume (t : Ticket) (v : Volume) : Volume :=
  { v with
    drive := { v := lightCode t (le16At t.bytes 8) v.drive.v, r := lightCode t (le16At t.bytes 10) v.drive.r }
    regulation := if ticketFlag t 1 then true else if ticketFlag t 0 then false else v.regulation
    target := if ticketFlag t 2 then le16At t.bytes 12 else v.target
    exposure := if ticketFlag t 3 then le16At t.bytes 14 else v.exposure }

/-- R98, R99: the examination of a LIGHT. -/
def lightTicket (s : State) (t : Ticket) : State :=
  match lightField (mechOf s) t with
  | some n => completeHead t .badField (activeSlotNumber s) n s
  | none =>
    match activeVolume s with
    | none => completeHead t .noVolume 255 0 s
    | some (slot, v) =>
      completeHead t .done slot (bitOf (lightVolume t v).regulation 1) (setVolume slot (some (lightVolume t v)) s)

/-- LIGHT (R98, R99). -/
def execLight (s : State) : Host.Outcome State Fault Refusal :=
  .next (settle s (examine .light s (lightTicket s)))

/-! ## QUIET and CLEAR (R168, R164) -/

/-- R168: the examination of a QUIET. -/
def quietTicket (s : State) (t : Ticket) : State :=
  match s.ret.tone with
  | .attend _ _ => completeHead t .done 255 1 { s with ret := { s.ret with tone := .silent } }
  | .silent | .chirp _ => completeHead t .done 255 0 s

/-- QUIET (R168). -/
def execQuiet (s : State) : Host.Outcome State Fault Refusal :=
  .next (settle s (examine .quiet s (quietTicket s)))

/-- R164: the examination of a CLEAR. -/
def clearTicket (s : State) (t : Ticket) : State :=
  completeHead t .done 255 s.ret.latched.length { s with ret := { s.ret with latched := [] } }

/-- CLEAR (R164). -/
def execClear (s : State) : Host.Outcome State Fault Refusal :=
  .next (settle s (examine .clear s (clearTicket s)))

/-! ## CONFIGURE (R177) -/

/-- R35, R177: the CONFIGURE leaves the queue and starts: four reads of its image are placed, behind the completions of
the tickets its leaving exposes. DESIGN CHOICE (notes/assumptions/32.md). -/
def configureStart (t : Ticket) (s : State) : State :=
  let s1 := startHead s
  placeImageReads (le32At t.bytes 8) 4
    (setSettings
      { s1.settings with configure := some { tag := ticketTag t, store := ticketFlag t 0, phase := .reading [] } } s1)

/-- R177: the examination of a CONFIGURE. -/
def configureTicket (s : State) (t : Ticket) : State :=
  let addr := le32At t.bytes 8
  if addr % 4 ≠ 0 ∨ 4294967296 < addr + 256 then completeHead t .badField 255 5 s
  else if s.settings.configure.isSome then s
  else configureStart t s

/-- CONFIGURE (R177). -/
def execConfigure (s : State) : Host.Outcome State Fault Refusal :=
  .next (settle s (pump (examine .configure s (configureTicket s))))

/-! ## RESTART (R179, R180) -/

/-- R180: a RESTART without RELOAD takes effect, or is refused MAP_BUSY. -/
def restartHeld (t : Ticket) (profile : Nat) (s : State) : State :=
  match heldCandidate profile s with
  | none => s
  | some c =>
    if mapBusyDetail s c ≠ 0 then completeHead t .mapBusy 255 (mapBusyDetail s c) s
    else takeEffect (ticketTag t) c (popHead s)

/-- R179, R180: the examination of a RESTART with the profile pins as sampled. -/
def restartTicket (profile : Nat) (s : State) (t : Ticket) : State :=
  if busyDetail s ≠ 0 then completeHead t .busy 255 (busyDetail s) s
  else if s.settings.configure.isSome then s
  else if ticketFlag t 0 then beginReload (ticketTag t) profile (startHead s)
  else restartHeld t profile s

/-- RESTART (R179, R180). -/
def execRestart (prof1 prof0 : Level) (s : State) : Host.Outcome State Fault Refusal :=
  .next (settle s (examine .restart s (restartTicket (profileOf prof1 prof0) s)))

end Sys2Proof.Machine
end

