-- ==== Sys2Proof/Machine/Dispatch.lean ====
section
/-! DEFINITION. One arm for each command, calling its meaning. -/
namespace Sys2Proof.Machine

/-- The effect of a command on everything but the queue of commands. -/
def exec (i : Instr) (s : State) : Host.Outcome State Fault Refusal :=
  match i with
  | .openVolume => Sys2Proof.Machine.execOpen s
  | .select => Sys2Proof.Machine.execSelect s
  | .park => Sys2Proof.Machine.execPark s
  | .close => Sys2Proof.Machine.execClose s
  | .manual => Sys2Proof.Machine.execManual s
  | .skip => Sys2Proof.Machine.execSkip s
  | .turn sw => Sys2Proof.Machine.execTurn sw s
  | .capture => Sys2Proof.Machine.execCapture s
  | .advance sw => Sys2Proof.Machine.execAdvance sw s
  | .light => Sys2Proof.Machine.execLight s
  | .halt => Sys2Proof.Machine.execHalt s
  | .quiet => Sys2Proof.Machine.execQuiet s
  | .clear => Sys2Proof.Machine.execClear s
  | .configure => Sys2Proof.Machine.execConfigure s
  | .restart prof1 prof0 => Sys2Proof.Machine.execRestart prof1 prof0 s
  | .postWordWrite => Sys2Proof.Machine.execPostWordWrite s
  | .fetch => Sys2Proof.Machine.execFetch s
  | .ticketArrival => Sys2Proof.Machine.execTicketArrival s
  | .stopPress released => Sys2Proof.Machine.execStopPress released s
  | .resumePress released sw => Sys2Proof.Machine.execResumePress released sw s
  | .moveStep engine sw => Sys2Proof.Machine.execMoveStep engine sw s
  | .gripTimer leaf multi sw => Sys2Proof.Machine.execGripTimer leaf multi sw s
  | .gripReleaseWait => Sys2Proof.Machine.execGripReleaseWait s
  | .sweepLeafRead leaf sw => Sys2Proof.Machine.execSweepLeafRead leaf sw s
  | .releaseTimer sw => Sys2Proof.Machine.execReleaseTimer sw s
  | .settleTimer => Sys2Proof.Machine.execSettleTimer s
  | .homingLimit => Sys2Proof.Machine.execHomingLimit s
  | .sampleRound => Sys2Proof.Machine.execSampleRound s
  | .lampPollDue side => Sys2Proof.Machine.execLampPollDue side s
  | .encoderSampleReply inWord sw => Sys2Proof.Machine.execEncoderSampleReply inWord sw s
  | .lampPollReply inWord => Sys2Proof.Machine.execLampPollReply inWord s
  | .lampLoadReply inWord => Sys2Proof.Machine.execLampLoadReply inWord s
  | .captureAcquisition => Sys2Proof.Machine.execCaptureAcquisition s
  | .fireGate => Sys2Proof.Machine.execFireGate s
  | .parkWaitExpiry => Sys2Proof.Machine.execParkWaitExpiry s
  | .strobeRaise => Sys2Proof.Machine.execStrobeRaise s
  | .strobeEnd => Sys2Proof.Machine.execStrobeEnd s
  | .strobeCut => Sys2Proof.Machine.execStrobeCut s
  | .upstreamTransaction t => Sys2Proof.Machine.execUpstreamTransaction t s
  | .upstreamWrite => Sys2Proof.Machine.execUpstreamWrite s
  | .frameTimeout window => Sys2Proof.Machine.execFrameTimeout window s
  | .accountWriteServed => Sys2Proof.Machine.execAccountWriteServed s
  | .accountClosingRead => Sys2Proof.Machine.execAccountClosingRead s
  | .returnClosingRead => Sys2Proof.Machine.execReturnClosingRead s
  | .returnWriteServed => Sys2Proof.Machine.execReturnWriteServed s
  | .statusWriteServed => Sys2Proof.Machine.execStatusWriteServed s
  | .statusPeriod => Sys2Proof.Machine.execStatusPeriod s
  | .attendTonePeriod => Sys2Proof.Machine.execAttendTonePeriod s
  | .chirpEnd => Sys2Proof.Machine.execChirpEnd s
  | .resetnAssert => Sys2Proof.Machine.execResetnAssert s
  | .resetnRelease powerOn => Sys2Proof.Machine.execResetnRelease powerOn s
  | .powerSettlingEnd prof1 prof0 => Sys2Proof.Machine.execPowerSettlingEnd prof1 prof0 s
  | .eepromReadAttempt reply => Sys2Proof.Machine.execEepromReadAttempt reply s
  | .eepromRetryWait => Sys2Proof.Machine.execEepromRetryWait s
  | .profileCheck prof1 prof0 => Sys2Proof.Machine.execProfileCheck prof1 prof0 s
  | .configureImageRead => Sys2Proof.Machine.execConfigureImageRead s
  | .storeByteAck => Sys2Proof.Machine.execStoreByteAck s
  | .storeByteTimeout => Sys2Proof.Machine.execStoreByteTimeout s
  | .storeReadback reply => Sys2Proof.Machine.execStoreReadback reply s
  | .restartTakeEffect => Sys2Proof.Machine.execRestartTakeEffect s

end Sys2Proof.Machine
end

