-- ==== Sys2Proof/Safety.lean ====
section
/-! DEFINITION. The terms the claims use: the parts of the state and what a step leaves alone, tickets under
examination, records handed over, and the laws that every step keeps. -/
namespace Sys2Proof.Machine

/-! ## The parts of the state -/

/-- The parts of the state a frame speaks of. -/
inductive Part where
  | settings | ms | tickets | volumes | account | returnRing | returnConsumer | returnQueue | overruns | latched
  | statusMarks | tone | motion | link | heads | fused | rounds | nextRound | seq | bars | barLoads | capture | frames
  | upstream | requests | waitCount | foreignWrites | memoryPort | hostData | memory | buttons | freeChoices | pending
  deriving DecidableEq, Repr

/-- A bar but for its progress in the load stage of a fire. -/
def Bar.lasting (b : Bar) : Bar := { b with load := .none }

/-- The two states agree on a part. -/
def Part.same : Part → State → State → Prop
  | .settings, s, t => t.settings = s.settings
  | .ms, s, t => t.ms = s.ms
  | .tickets, s, t => t.tickets = s.tickets
  | .volumes, s, t => t.volumes = s.volumes
  | .account, s, t => t.account = s.account
  | .returnRing, s, t => t.ret.producer = s.ret.producer ∧ t.ret.postedProducer = s.ret.postedProducer
      ∧ t.ret.posted = s.ret.posted ∧ t.ret.readMarks = s.ret.readMarks
  | .returnConsumer, s, t => t.ret.consumer = s.ret.consumer
  | .returnQueue, s, t => t.ret.queue = s.ret.queue
  | .overruns, s, t => t.ret.overruns = s.ret.overruns ∧ t.ret.overrunPending = s.ret.overrunPending
  | .latched, s, t => t.ret.latched = s.ret.latched
  | .statusMarks, s, t => t.ret.statusWaiting = s.ret.statusWaiting ∧ t.ret.statusAgain = s.ret.statusAgain
      ∧ t.ret.statusPlacedAt = s.ret.statusPlacedAt
  | .tone, s, t => t.ret.tone = s.ret.tone
  | .motion, s, t => t.motion = s.motion
  | .link, s, t => t.link = s.link
  | .heads, s, t => t.position.heads = s.position.heads
  | .fused, s, t => t.position.fused = s.position.fused
  | .rounds, s, t => t.position.roundNumber = s.position.roundNumber ∧ t.position.checks = s.position.checks
  | .nextRound, s, t => t.position.nextRound = s.position.nextRound ∧ t.position.lastRound = s.position.lastRound
      ∧ t.position.due = s.position.due
  | .seq, s, t => t.seq = s.seq
  | .bars, s, t => t.lamps.v.lasting = s.lamps.v.lasting ∧ t.lamps.r.lasting = s.lamps.r.lasting
  | .barLoads, s, t => t.lamps.v.load = s.lamps.v.load ∧ t.lamps.r.load = s.lamps.r.load
  | .capture, s, t => t.capture = s.capture
  | .frames, s, t => t.frames = s.frames
  | .upstream, s, t => t.path.upstream = s.path.upstream
  | .requests, s, t => t.path.internal = s.path.internal ∧ t.path.blocked = s.path.blocked
  | .waitCount, s, t => t.path.waitCount = s.path.waitCount
  | .foreignWrites, s, t => t.path.foreignWrites = s.path.foreignWrites
  | .memoryPort, s, t => t.path.memoryPort = s.path.memoryPort
  | .hostData, s, t => t.path.hostData = s.path.hostData
  | .memory, s, t => t.memory = s.memory
  | .buttons, s, t => t.stopLine = s.stopLine ∧ t.resumeLine = s.resumeLine
  | .freeChoices, s, t => t.freeChoices = s.freeChoices
  | .pending, s, t => t.pending = s.pending

/-- Between the two states only the parts of a list have changed. -/
def Changes (ps : List Part) (s t : State) : Prop := ∀ p, p ∉ ps → p.same s t

/-- What the end of every step may change: the link starts an exchange (R48), a round falls due as the fast condition
begins or ends (R51), a status block write is placed (R166). -/
def endOfStep : List Part := [.link, .barLoads, .nextRound, .statusMarks, .requests]

/-- A step has changed only the parts of a list, besides what its end may change. -/
def Only (ps : List Part) (s t : State) : Prop := Changes (ps ++ endOfStep) s t

/-! ## What each command may change -/

/-- The parts that a record handed to the return writer may change. -/
def handParts : List Part := [.returnRing, .returnQueue, .overruns, .latched, .requests]

/-- The parts that a read of a closing word of the return ring may change. -/
def returnParts : List Part := [.returnRing, .returnConsumer, .returnQueue, .overruns, .requests]

/-- The parts that a record handed to the account writer may change. -/
def accountParts : List Part := [.volumes, .account, .requests]

/-- The parts that the end of a frame may change. -/
def frameParts : List Part := [.volumes, .account, .frames, .requests, .tone]

/-- The parts that the end of a capture may change. -/
def captureParts : List Part := [.capture, .link, .barLoads] ++ handParts ++ frameParts

/-- The parts that the gate and the charge of a fire may change. -/
def fireParts : List Part := .bars :: captureParts

/-- The parts that a judged in-word of a bar may change. -/
def barParts : List Part := [.bars, .barLoads, .link, .capture] ++ handParts

/-- The parts that a completed exchange of a bar may change. -/
def lampParts : List Part := .bars :: captureParts

/-- The parts that the turn sequencer may change: its own, the engines, and what its signal to the capture unit may. -/
def turnParts : List Part := [.seq, .motion] ++ captureParts

/-- The parts that a judged sample may change by itself. -/
def sampleParts : List Part := [.heads, .rounds, .frames] ++ handParts

/-- The parts that a ticket's completion from the fetched queue may change. -/
def headParts : List Part := .tickets :: handParts

/-- The parts that a HALT may change. -/
def haltParts : List Part := .tickets :: turnParts

/-- The parts that the end of LOADING may change. -/
def loadingParts : List Part := [.settings, .rounds, .nextRound, .bars, .buttons] ++ turnParts

/-- The parts that a warm restart taking effect may change. -/
def restartParts : List Part :=
  [.settings, .tickets, .volumes, .account, .returnRing, .returnConsumer, .latched, .tone, .motion, .link, .heads,
    .fused, .rounds, .nextRound, .seq, .bars, .barLoads, .capture, .frames, .waitCount, .buttons, .returnQueue,
    .overruns, .requests]

/-- The parts that the reports of the words of an upstream write may change. -/
def reportParts : List Part := [.foreignWrites, .tickets] ++ handParts ++ frameParts

/-- The parts that the service of an upstream write may change. -/
def writeParts : List Part := [.upstream, .waitCount, .memory, .memoryPort] ++ reportParts

/-- The parts that the service of an upstream read may change. -/
def readParts : List Part :=
  [.upstream, .waitCount, .memoryPort, .hostData, .account, .frames] ++ returnParts

/-- The parts that the service of a read of the controller's own may change. -/
def fetchingParts : List Part := [.requests, .waitCount, .freeChoices, .memoryPort]

/-- The parts that the service of what no command stands for may change. -/
def silentParts : List Part := [.upstream, .hostData, .settings] ++ fetchingParts

/-- The parts that the service of an entry of the request queue may change. -/
def servingParts : List Part := [.requests, .waitCount, .freeChoices, .memory, .memoryPort]

/-- The parts that a command's own effect may change. -/
def partsOf : Instr → List Part
  | .openVolume | .close | .manual | .skip => [.volumes, .account] ++ headParts
  | .select | .park | .light => .volumes :: headParts
  | .turn _ | .advance _ => haltParts
  | .capture => .capture :: headParts
  | .quiet => .tone :: headParts
  | .clear => headParts
  | .configure => .settings :: headParts ++ silentParts
  | .restart _ _ | .restartTakeEffect => restartParts
  | .halt | .ticketArrival => haltParts ++ silentParts
  | .fetch => [.tickets, .requests]
  | .stopPress _ => .buttons :: haltParts
  | .resumePress _ _ => .buttons :: turnParts
  | .gripReleaseWait => [.seq]
  | .moveStep _ _ | .gripTimer _ _ _ | .sweepLeafRead _ _ | .releaseTimer _ | .settleTimer | .homingLimit => turnParts
  | .sampleRound => [.link, .rounds, .nextRound]
  | .lampPollDue _ => [.bars, .barLoads, .link]
  | .encoderSampleReply _ _ => .fused :: sampleParts ++ turnParts
  | .lampPollReply _ | .lampLoadReply _ => lampParts
  | .captureAcquisition | .fireGate | .parkWaitExpiry => fireParts
  | .strobeRaise | .strobeEnd | .strobeCut => captureParts
  | .frameTimeout _ => frameParts
  | .upstreamTransaction _ => silentParts
  | .upstreamWrite | .postWordWrite => writeParts ++ silentParts
  | .accountClosingRead | .returnClosingRead => readParts ++ silentParts
  | .accountWriteServed => .account :: servingParts ++ silentParts
  | .returnWriteServed => .returnRing :: servingParts ++ silentParts
  | .statusWriteServed => .statusMarks :: servingParts ++ silentParts
  | .statusPeriod => [.statusMarks, .requests]
  | .attendTonePeriod | .chirpEnd => [.tone]
  | .resetnAssert =>
    [.settings, .ms, .tickets, .volumes, .account, .returnRing, .returnConsumer, .returnQueue, .overruns, .latched,
      .statusMarks, .tone, .motion, .link, .heads, .fused, .rounds, .nextRound, .seq, .bars, .barLoads, .capture, .frames,
      .upstream, .requests, .waitCount, .foreignWrites, .memoryPort, .hostData, .buttons]
  | .resetnRelease _ => [.settings, .ms]
  | .powerSettlingEnd _ _ | .eepromRetryWait | .storeByteAck => [.settings]
  | .eepromReadAttempt _ => loadingParts
  | .profileCheck _ _ | .storeByteTimeout | .storeReadback _ => .settings :: handParts
  | .configureImageRead => .settings :: handParts ++ silentParts

/-! ## Tickets under examination -/

/-- Ticket `t` is the head of the fetched queue, of kind `k`, and passes the kind, header and startup checks of R33. -/
def Examined (k : Kind) (t : Ticket) (s : State) : Prop :=
  s.tickets.queue.head? = some t ∧ kindOf (ticketKind t) = some k ∧ headerFault k t = none
    ∧ (s.settings.startup = .bare → acceptedInBare k = true)

/-- The first of these tickets, if any, does not complete by itself as it becomes the head (R33 steps 1 and 2). -/
def waitsAtHead : List Ticket → Bool
  | [] => true
  | t :: _ =>
    match kindOf (ticketKind t) with
    | none => false
    | some .halt => (headerFault .halt t).isNone
    | some _ => true

/-- The tickets behind the head wait when the head leaves. -/
def TailWaits (s : State) : Prop := waitsAtHead s.tickets.queue.tail = true

/-- The ticket unit with the head of its queue gone. -/
def withoutHead (q : TicketUnit) : TicketUnit := { q with queue := q.queue.tail }

/-- The completion record of a ticket. -/
def completionOf (t : Ticket) (outcome : OutcomeCode) (slot detail : Nat) (now : Word) : ReturnRecord :=
  .completion (ticketKind t) (ticketTag t) outcome slot detail now

/-! ## Records handed over -/

/-- The state after records are handed to the return writer one after another (R159). -/
def handAll (rs : List ReturnRecord) (s : State) : State := rs.foldl (fun x r => handReturn r x) s

/-- The entries in the request queue or waiting for room in it. -/
def waiting (s : State) : List InternalEntry := s.path.internal ++ s.path.blocked

/-- In the step from `s` to `t` exactly these records were handed to the return writer, in this order: its ring, its
queue, its overrun count and the latched set stand as R159 and R160 leave them, and every write they place, with every
entry that waited before, waits in the request queue. -/
def Handed (rs : List ReturnRecord) (s t : State) : Prop :=
  t.ret.producer = (handAll rs s).ret.producer ∧ t.ret.queue = (handAll rs s).ret.queue
    ∧ t.ret.overruns = (handAll rs s).ret.overruns ∧ t.ret.overrunPending = (handAll rs s).ret.overrunPending
    ∧ t.ret.latched = (handAll rs s).ret.latched ∧ ∀ e ∈ waiting (handAll rs s), e ∈ waiting t

/-- An entry with this purpose, address and data waits in the request queue or for room in it. -/
def Requested (t : State) (purpose : Purpose) (addr : Word) (data : List Byte) : Prop :=
  { purpose := purpose, addr := addr, data := data } ∈ waiting t

/-! ## Records on a volume -/

/-- The address of the account ring slot of an index (R128). -/
def accountAddress (m : MapSettings) (i : Half) : Word := BitVec.ofNat 32 (m.accountBase + 64 * slotOf i m.na)

/-- The volume entry after records of these contents have been numbered and chained in order (R132). -/
def afterRecords (slot : Nat) (time : Word) (v : Volume) (cs : List AccountContent) : Volume :=
  cs.foldl (fun w c => chained w (recordBytes slot w time c)) v

/-- The bytes of records of these contents on a volume, each numbered and chained after the one before it (R132). -/
def recordsBytes (slot : Nat) (time : Word) : Volume → List AccountContent → List (List Byte)
  | _, [] => []
  | v, c :: cs => accountBytes slot v time c :: recordsBytes slot time (chained v (recordBytes slot v time c)) cs

/-- In the step to `t` the writes of account records with these bytes were placed from ring index `i` on (R132). -/
def Recorded (t : State) : Half → List (List Byte) → Prop
  | _, [] => True
  | i, b :: bs =>
    (∃ m, mapOf t = some m ∧ Requested t (.accountWrite i) (accountAddress m i) b) ∧ Recorded t (i + 1) bs

/-! ## Laws that every step keeps -/

/-- R91: the dose used of every volume entry never exceeds its allowance. -/
def DoseWithin (s : State) : Prop := ∀ slot v, volumeAt s slot = some v → v.doseUsed ≤ v.allowance

/-- R87: a strobe line, and with it the trigger line of its side, is raised only while the turn sequencer is IDLE and the
capture unit is EXPOSING, in the strobe of its fire. -/
def StrobeSafe (s : State) : Prop :=
  s.capture.strobe = s.capture.trig ∧
    (s.capture.strobe ≠ { v := false, r := false } →
      s.seq.arm = .idle ∧ ∃ c f raisedAt, s.capture.state = .exposing c (.strobe f raisedAt))

/-- R21: an exception list holds at most 16 entries in ascending order of leaf, V before R, no leaf side twice. -/
def ListOrdered (l : List ExceptionEntry) : Prop := l.length ≤ 16 ∧ l.Pairwise (fun a b => entryKey a < entryKey b)

/-- R21, for every volume. -/
def ExceptionsOrdered (s : State) : Prop := ∀ slot v, volumeAt s slot = some v → ListOrdered v.exceptions

/-- R105: at most 4 windows and at most 8 guard entries and reservations; each window holds one guard reservation. -/
def PoolsWithin (s : State) : Prop :=
  s.frames.windows.length = 4 ∧ s.frames.guards.length = 8 ∧ s.frames.guardReserved = windowsInUse s
    ∧ guardsInUse s + s.frames.guardReserved ≤ 8

/-- R1: eight entries; the ACTIVE entry holds a volume; no two entries hold the same shelf mark. -/
def TableSound (s : State) : Prop :=
  s.volumes.entries.length = 8 ∧ (∀ slot, s.volumes.active = some slot → (volumeAt s slot).isSome)
    ∧ ∀ i j v w, volumeAt s i = some v → volumeAt s j = some w → v.shelfMark = w.shelfMark → i = j

/-- An entry of the request queue is the read of a ticket. -/
def isTicketRead (e : InternalEntry) : Bool :=
  match e.purpose with
  | .ticketRead _ => true
  | .accountWrite _ | .returnWrite _ | .statusWrite | .imageRead _ => false

/-- R25, R29: the outstanding tickets are those whose reads wait, and the fetched queue has room for them all. -/
def QueueHasRoom (s : State) : Prop :=
  s.tickets.outstanding = (waiting s).countP isTicketRead
    ∧ s.tickets.queue.length + s.tickets.outstanding ≤ 8

/-- R143, R151, R152, R157: the bounds of the port's list, the request queue, the wait count, the return queue and the
saturating counts. -/
def QueuesBounded (s : State) : Prop :=
  s.path.upstream.length ≤ 4 ∧ s.path.internal.length ≤ 32 ∧ s.path.waitCount ≤ 8 ∧ s.ret.queue.length ≤ 16
    ∧ s.ret.overruns ≤ 65535 ∧ s.path.foreignWrites ≤ 65535

/-- Table 4-1: the vacuum by arm state; in GRIPPING it is on during a grip wait. -/
def VacuumMatches (s : State) : Prop :=
  match s.seq.arm with
  | .idle | .homing | .lowering | .reaching | .releasing | .returning | .raising | .settling => s.seq.vacuum = false
  | .sweeping => s.seq.vacuum = true
  | .gripping => ∀ t, s.seq.timer = some t → t.kind = .grip → s.seq.vacuum = true
  | .halted | .faulted => True

/-- R58, R100: a turn is in flight only in the arm states of a turn. -/
def TurnInMotion (s : State) : Prop :=
  s.seq.turn.isSome →
    s.seq.arm ∈ [ArmState.lowering, .reaching, .gripping, .sweeping, .releasing, .returning, .raising, .settling]

/-- R62, R71, R78: the sequencer awaits the report of a platen move only in LOWERING, in RAISING and in HOMING. -/
def PlatenPhaseMatches (s : State) : Prop :=
  s.seq.platenPhase ≠ .none → s.seq.arm ∈ [ArmState.lowering, .raising, .homing]

/-- R81, R83: the no-reply count of each bar stays within 0 to 8. R50: the counts of each head stay within 0 to 255 and
0 to 3. -/
def CountsBounded (s : State) : Prop :=
  (∀ side, (s.lamps.get side).noReply ≤ 8)
    ∧ ∀ h, (s.position.heads.get h).badCount ≤ 255 ∧ (s.position.heads.get h).goodCount ≤ 3

end Sys2Proof.Machine
end

