-- ==== Sys2Proof/Certificates/Slice0/Obligations.lean ====
section
/-! DEFINITION. The statements about the CP-24 that the provers are asked to settle. -/
open Sys2Proof Sys2Proof.Machine

/-! ## Terms the statements share -/

/-- Every check of a numbered list passes. -/
def AllHold (checks : List (Nat × Prop)) : Prop := ∀ c ∈ checks, c.2

/-- The first check of a numbered list that fails has this number. -/
def FirstFailing : List (Nat × Prop) → Nat → Prop
  | [], _ => False
  | (k, holds) :: rest, n => (¬ holds ∧ n = k) ∨ (holds ∧ FirstFailing rest n)

/-- R131: the ticket that a command examines is held for `k` account slots: nothing changes, but ACCOUNT_FULL is latched
with its event when it was not. -/
def HeldForSlots (i : Instr) (k : Nat) (s : State) : Prop :=
  (LatchedFault.accountFull ∈ s.ret.latched → ∃ u, exec i s = .next u ∧ Only [] s u)
    ∧ (LatchedFault.accountFull ∉ s.ret.latched →
      ∃ u, exec i s = .next u ∧ Only handParts s u
        ∧ Handed [.event .accountFull 0 (k % 65536 + 65536 * (accountFree s % 65536)) s.ms]
          (enterLatched .accountFull s) u)

/-- A sum over the sides of a set. -/
def overSides (sides : PerSide Bool) (f : Side → Nat) : Nat :=
  (if sides.v then f .v else 0) + (if sides.r then f .r else 0)

/-- R90: the cap common to the sides. -/
def capOf (v : Volume) (sides : PerSide Bool) : Nat :=
  (v.allowance - v.doseUsed) / (overSides sides (fun _ => 1) * v.exposure)

/-- R88: the sides of a set whose bar is in a state that `p` accepts, as a number. -/
def sidesIn (p : BarState → Bool) (sides : PerSide Bool) (x : State) : Nat :=
  (if sides.v = true ∧ p x.lamps.v.state = true then 1 else 0)
    + (if sides.r = true ∧ p x.lamps.r.state = true then 2 else 0)

/-- R51: the fast condition: an engine RUNNING, or HOMING. -/
def Fast (s : State) : Prop := s.motion.arm.isSome ∨ s.motion.platen.isSome ∨ s.seq.arm = .homing

/-- The position unit samples: READY or BARE. -/
def Serving (s : State) : Prop := s.settings.startup = .ready ∨ s.settings.startup = .bare

/-! ## Volume tickets (section 1.3) -/

/-- R12, R34 with Table 12-2: the range checks of an OPEN, each with the number of its field, in the field order. -/
def openChecks (m : MechSettings) (t : Ticket) : List (Nat × Prop) :=
  let name := (t.bytes.drop 9).take (byteAt t.bytes 8)
  let leaves := le16At t.bytes 42
  let codeFits := fun (code : Nat) => code = 0 ∨ (m.dMin ≤ code ∧ code ≤ m.dMax)
  [(5, 1 ≤ byteAt t.bytes 8 ∧ byteAt t.bytes 8 ≤ 32),
    (6, name.length = byteAt t.bytes 8 ∧ ∀ c ∈ name, 0x20 ≤ c.toNat ∧ c.toNat ≤ 0x7E),
    (7, leaves ≠ 1),
    (8, le16At t.bytes 44 ≤ if leaves = 0 then 65534 else leaves - 2),
    (9, 1 ≤ le32At t.bytes 48 ∧ le32At t.bytes 48 ≤ 4000000),
    (10, 1024 ≤ le16At t.bytes 52 ∧ le16At t.bytes 52 ≤ 60000),
    (11, 1 ≤ le16At t.bytes 54 ∧ le16At t.bytes 54 ≤ 250),
    (12, codeFits (le16At t.bytes 56)),
    (13, codeFits (le16At t.bytes 58))]

/-- R12, R4 with Table 1-2: the fields of an OPEN are taken exactly when every one lies in its range, and then give the
entry the values written in the ticket; otherwise the code is the number of the first field that fails. -/
def Obligations.OpenFieldsChecked : Prop :=
  ∀ (m : MechSettings) (now : Word) (t : Ticket),
    let start := fun (code : Nat) => if code = 0 then clamp m.dMin m.dMax 400 else code
    let taken : Volume := {
      shelfMark := (t.bytes.drop 9).take (byteAt t.bytes 8)
      leafCount := if le16At t.bytes 42 = 0 then none else some (le16At t.bytes 42)
      opening := le16At t.bytes 44, take := 0, nextSequence := 0, chain := BitVec.ofNat 32 (le32At t.bytes 60)
      allowance := 1000 * le32At t.bytes 48, doseUsed := 0, target := le16At t.bytes 52, exposure := le16At t.bytes 54
      drive := { v := start (le16At t.bytes 56), r := start (le16At t.bytes 58) }
      regulation := true, unpressed := false, captureCount := 0, exceptions := [], overfull := false, openedAt := now }
    (AllHold (openChecks m t) → openFields m now t = .ok taken)
    ∧ (∀ v, openFields m now t = .ok v → v = taken ∧ AllHold (openChecks m t))
    ∧ (∀ n, FirstFailing (openChecks m t) n → openFields m now t = .error n)
    ∧ ∀ n, openFields m now t = .error n → FirstFailing (openChecks m t) n

/-- R13: an OPEN that no refusal and no hold meets takes the lowest-numbered FREE entry, writes its OPENED record and
completes DONE; nothing else changes. -/
def Obligations.OpenTakesLowestFreeEntry : Prop :=
  ∀ (s : State) (t : Ticket) (v : Volume) (slot : Nat),
    Examined .openVolume t s → TailWaits s → openFields (mechOf s) s.ms t = .ok v →
    (∀ i w, volumeAt s i = some w → w.shelfMark ≠ v.shelfMark) → slot < s.volumes.entries.length →
    volumeAt s slot = none → (∀ j < slot, (volumeAt s j).isSome) → 1 ≤ accountFree s →
    ∃ u, exec .openVolume s = .next u
      ∧ u.volumes.entries = s.volumes.entries.set slot (some (afterRecords slot s.ms v [openedContent v]))
      ∧ (afterRecords slot s.ms v [openedContent v]).nextSequence = v.nextSequence + 1
      ∧ u.volumes.active = (if s.volumes.active = none then some slot else s.volumes.active)
      ∧ u.account.producer = s.account.producer + 1 ∧ u.account.reserved = s.account.reserved
      ∧ Recorded u s.account.producer (recordsBytes slot s.ms v [openedContent v])
      ∧ u.tickets = withoutHead s.tickets
      ∧ Handed [completionOf t .done slot (if s.volumes.active = none then 0 else 1) s.ms] s u
      ∧ Only (partsOf .openVolume) s u

/-- R12: the refusals of OPEN in their order, and its hold for want of an account slot, which latches ACCOUNT_FULL
(R131); the volume table is unchanged. -/
def Obligations.OpenRefusedOrHeld : Prop :=
  ∀ (s : State) (t : Ticket), Examined .openVolume t s → TailWaits s →
    (∀ n, openFields (mechOf s) s.ms t = .error n →
      ∃ u, exec .openVolume s = .next u ∧ u.tickets = withoutHead s.tickets
        ∧ Handed [completionOf t .badField 255 n s.ms] s u ∧ Only headParts s u)
    ∧ ∀ v, openFields (mechOf s) s.ms t = .ok v →
      (∀ i w, volumeAt s i = some w → w.shelfMark = v.shelfMark →
        (∀ j < i, ∀ x, volumeAt s j = some x → x.shelfMark ≠ v.shelfMark) →
        ∃ u, exec .openVolume s = .next u ∧ u.tickets = withoutHead s.tickets
          ∧ Handed [completionOf t .duplicate 255 i s.ms] s u ∧ Only headParts s u)
      ∧ ((∀ i w, volumeAt s i = some w → w.shelfMark ≠ v.shelfMark) →
        ((∀ i < s.volumes.entries.length, (volumeAt s i).isSome) →
          ∃ u, exec .openVolume s = .next u ∧ u.tickets = withoutHead s.tickets
            ∧ Handed [completionOf t .tableFull 255 0 s.ms] s u ∧ Only headParts s u)
        ∧ ((∃ i < s.volumes.entries.length, volumeAt s i = none) → accountFree s = 0 → HeldForSlots .openVolume 1 s))

/-- R15: what a SELECT does with a named slot: refused above 7 or FREE, done at once when ACTIVE, held while the cradle
is busy, and otherwise the one step that parks the old entry and activates the named one. -/
def SelectSwitchesVolume : Prop :=
  ∀ (s : State) (t : Ticket), Examined .select t s → TailWaits s →
    (7 < slotField t →
      ∃ u, exec .select s = .next u ∧ u.tickets = withoutHead s.tickets
        ∧ Handed [completionOf t .badField 255 5 s.ms] s u ∧ Only headParts s u)
    ∧ (slotField t ≤ 7 → volumeAt s (slotField t) = none →
      ∃ u, exec .select s = .next u ∧ u.tickets = withoutHead s.tickets
        ∧ Handed [completionOf t .noVolume (slotField t) 0 s.ms] s u ∧ Only headParts s u)
    ∧ (slotField t ≤ 7 → (volumeAt s (slotField t)).isSome → s.volumes.active = some (slotField t) →
      ∃ u, exec .select s = .next u ∧ u.tickets = withoutHead s.tickets
        ∧ Handed [completionOf t .done (slotField t) 255 s.ms] s u ∧ Only headParts s u)
    ∧ (slotField t ≤ 7 → (volumeAt s (slotField t)).isSome → s.volumes.active ≠ some (slotField t) →
      ((s.seq.arm ≠ .idle ∨ s.capture.state ≠ .free ∨ ∃ a, s.volumes.active = some a ∧ windowOfSlot s a = true) →
        ∃ u, exec .select s = .next u ∧ Only [] s u)
      ∧ (s.seq.arm = .idle → s.capture.state = .free → (∀ a, s.volumes.active = some a → windowOfSlot s a = false) →
        ∃ u, exec .select s = .next u ∧ u.volumes.entries = s.volumes.entries
          ∧ u.volumes.active = some (slotField t) ∧ u.tickets = withoutHead s.tickets
          ∧ Handed [completionOf t .done (slotField t) (s.volumes.active.getD 255) s.ms] s u
          ∧ Only (.volumes :: headParts) s u))

/-- R16, R14: PARK is refused with no ACTIVE volume, held while the cradle is busy, and otherwise parks it. -/
def ParkClearsActive : Prop :=
  ∀ (s : State) (t : Ticket), Examined .park t s → TailWaits s →
    (s.volumes.active = none →
      ∃ u, exec .park s = .next u ∧ u.tickets = withoutHead s.tickets
        ∧ Handed [completionOf t .noVolume 255 0 s.ms] s u ∧ Only headParts s u)
    ∧ ∀ slot v, s.volumes.active = some slot → volumeAt s slot = some v →
      ((s.seq.arm ≠ .idle ∨ s.capture.state ≠ .free ∨ windowOfSlot s slot = true) →
        ∃ u, exec .park s = .next u ∧ Only [] s u)
      ∧ (s.seq.arm = .idle → s.capture.state = .free → windowOfSlot s slot = false →
        ∃ u, exec .park s = .next u ∧ u.volumes.active = none ∧ u.volumes.entries = s.volumes.entries
          ∧ u.tickets = withoutHead s.tickets ∧ Handed [completionOf t .done slot 0 s.ms] s u
          ∧ Only (.volumes :: headParts) s u)

/-- R14 to R16: SELECT and PARK. -/
def Obligations.SelectAndParkSwitchVolumes : Prop := SelectSwitchesVolume ∧ ParkClearsActive

/-- The records of a closing, in order (R18): one EXCEPTION for each entry, then the CLOSED summary. -/
def closingRecords (slot : Nat) (time : Word) (v : Volume) : List AccountContent :=
  let exceptions := v.exceptions.zipIdx.map fun (e, i) =>
    AccountContent.exception e.leaf e.side e.reason (i + 1) v.exceptions.length
  exceptions ++
    [.closed v.captureCount v.doseUsed v.allowance v.opening v.exceptions.length v.overfull
      (afterRecords slot time v exceptions).chain]

/-- R18: a CLOSE that nothing holds writes one EXCEPTION record for each exception in list order and one CLOSED record,
frees the entry and completes INCOMPLETE or DONE. R17: it is refused BAD_FIELD above slot 7 and NO_VOLUME at a FREE
entry, held while the cradle is busy with its ACTIVE volume, and held for the account slots of its records. -/
def Obligations.CloseWritesAccountAndFrees : Prop :=
  ∀ (s : State) (t : Ticket), Examined .close t s → TailWaits s →
    let slot := slotField t
    let refused := fun (o : OutcomeCode) (at_ d : Nat) =>
      ∃ u, exec .close s = .next u ∧ u.tickets = withoutHead s.tickets
        ∧ Handed [completionOf t o at_ d s.ms] s u ∧ Only headParts s u
    (7 < slot → refused .badField 255 5)
    ∧ (slot ≤ 7 → volumeAt s slot = none → refused .noVolume slot 0)
    ∧ ∀ v, slot ≤ 7 → volumeAt s slot = some v →
      let busy := s.volumes.active = some slot
        ∧ (s.seq.arm ≠ .idle ∨ s.capture.state ≠ .free ∨ windowOfSlot s slot = true)
      let n := v.exceptions.length
      (busy → ∃ u, exec .close s = .next u ∧ Only [] s u)
      ∧ (¬ busy → accountFree s < 1 + n → HeldForSlots .close (1 + n) s)
      ∧ (¬ busy → 1 + n ≤ accountFree s →
        ∃ u, exec .close s = .next u
          ∧ u.volumes.entries = s.volumes.entries.set slot none
          ∧ u.volumes.active = (if s.volumes.active = some slot then none else s.volumes.active)
          ∧ u.account.producer = s.account.producer + BitVec.ofNat 16 (1 + n)
          ∧ u.account.reserved = s.account.reserved
          ∧ Recorded u s.account.producer (recordsBytes slot s.ms v (closingRecords slot s.ms v))
          ∧ u.tickets = withoutHead s.tickets
          ∧ Handed [completionOf t (if 1 ≤ n ∨ v.overfull then .incomplete else .done) slot n s.ms] s u
          ∧ Only (partsOf .close) s u)

/-- R19: MANUAL: its refusals in order, its holds, and its effect. The refusal of a count of −32768, which lies
outside R19's range, is the model's inference (notes/assumptions/16.md). -/
def Obligations.ManualMovesOpening : Prop :=
  ∀ (s : State) (t : Ticket), Examined .manual t s → TailWaits s →
    (manualCount t = 0 ∨ manualCount t = -32768 →
      ∃ u, exec .manual s = .next u ∧ u.tickets = withoutHead s.tickets
        ∧ Handed [completionOf t .badField (activeSlotNumber s) 5 s.ms] s u ∧ Only headParts s u)
    ∧ (manualCount t ≠ 0 → manualCount t ≠ -32768 → s.volumes.active = none →
      ∃ u, exec .manual s = .next u ∧ u.tickets = withoutHead s.tickets
        ∧ Handed [completionOf t .noVolume 255 0 s.ms] s u ∧ Only headParts s u)
    ∧ (manualCount t ≠ 0 → manualCount t ≠ -32768 → ∀ slot v, s.volumes.active = some slot → volumeAt s slot = some v →
      ((highestOpening v.leafCount : Int) < v.opening + manualCount t →
        ∃ u, exec .manual s = .next u ∧ u.tickets = withoutHead s.tickets
          ∧ Handed [completionOf t .atEnd slot 0 s.ms] s u ∧ Only headParts s u)
      ∧ ((v.opening : Int) + manualCount t < 0 →
        ∃ u, exec .manual s = .next u ∧ u.tickets = withoutHead s.tickets
          ∧ Handed [completionOf t .atStart slot 0 s.ms] s u ∧ Only headParts s u)
      ∧ (∀ o : Nat, (o : Int) = v.opening + manualCount t → o ≤ highestOpening v.leafCount →
        ((s.seq.arm ≠ .idle ∨ s.capture.state ≠ .free) → ∃ u, exec .manual s = .next u ∧ Only [] s u)
        ∧ (s.seq.arm = .idle → s.capture.state = .free → accountFree s = 0 → HeldForSlots .manual 1 s)
        ∧ (s.seq.arm = .idle → s.capture.state = .free → 1 ≤ accountFree s →
          ∃ u, exec .manual s = .next u
            ∧ u.volumes.active = s.volumes.active
            ∧ u.volumes.entries = s.volumes.entries.set slot
                (some (afterRecords slot s.ms { v with opening := o, take := 0 } [.noteManual v.opening o]))
            ∧ u.account.producer = s.account.producer + 1 ∧ u.account.reserved = s.account.reserved
            ∧ Recorded u s.account.producer
                (recordsBytes slot s.ms { v with opening := o, take := 0 } [.noteManual v.opening o])
            ∧ u.tickets = withoutHead s.tickets ∧ Handed [completionOf t .done slot o s.ms] s u
            ∧ Only (partsOf .manual) s u)))

/-- R20: a SKIP in range offers its entries in order, writes its NOTE and completes DONE with how many were not
inserted; its refusals come in their order, and it is held for an account slot. -/
def Obligations.SkipOffersEntries : Prop :=
  ∀ (s : State) (t : Ticket), Examined .skip t s → TailWaits s →
    let slot := slotField t
    let first := le16At t.bytes 10
    let count := byteAt t.bytes 12
    let sides := byteAt t.bytes 13
    let p : PerSide Bool := { v := decide (sides = 1 ∨ sides = 3), r := decide (sides = 2 ∨ sides = 3) }
    let refused := fun (o : OutcomeCode) (at_ d : Nat) =>
      ∃ u, exec .skip s = .next u ∧ u.tickets = withoutHead s.tickets
        ∧ Handed [completionOf t o at_ d s.ms] s u ∧ Only headParts s u
    (7 < slot → refused .badField 255 5)
    ∧ (slot ≤ 7 → ¬ (1 ≤ count ∧ count ≤ 16) → refused .badField slot 7)
    ∧ (slot ≤ 7 → 1 ≤ count → count ≤ 16 →
      (sides ≠ 1 → sides ≠ 2 → sides ≠ 3 → refused .badField slot 8)
      ∧ (sides = 1 ∨ sides = 2 ∨ sides = 3 →
        (volumeAt s slot = none → refused .noVolume slot 0)
        ∧ ∀ v, volumeAt s slot = some v →
          (lastLeaf v.leafCount < first + count - 1 → refused .badField slot 6)
          ∧ (first + count - 1 ≤ lastLeaf v.leafCount → accountFree s = 0 → HeldForSlots .skip 1 s)
          ∧ (first + count - 1 ≤ lastLeaf v.leafCount → 1 ≤ accountFree s →
            ∃ u w placed missed, exec .skip s = .next u
              ∧ offerAll (skipEntries first count p) v = (w, placed)
              ∧ placed + missed = overSides p (fun _ => 1) * count
              ∧ u.volumes.active = s.volumes.active
              ∧ u.volumes.entries = s.volumes.entries.set slot
                  (some (afterRecords slot s.ms w [.noteSkip first count sides placed missed]))
              ∧ u.account.producer = s.account.producer + 1 ∧ u.account.reserved = s.account.reserved
              ∧ Recorded u s.account.producer
                  (recordsBytes slot s.ms w [.noteSkip first count sides placed missed])
              ∧ u.tickets = withoutHead s.tickets ∧ Handed [completionOf t .done slot missed s.ms] s u
              ∧ Only (partsOf .skip) s u)))

/-- R21: where an offered entry goes. -/
def Obligations.ExceptionPlacement : Prop :=
  ∀ (e : ExceptionEntry) (v : Volume), ListOrdered v.exceptions →
    ((∃ x ∈ v.exceptions, x.leaf = e.leaf ∧ x.side = e.side) →
      (offerException e v).exceptions =
          v.exceptions.map (fun x => if x.leaf = e.leaf ∧ x.side = e.side then e else x)
        ∧ (offerException e v).overfull = v.overfull)
    ∧ ((∀ x ∈ v.exceptions, ¬ (x.leaf = e.leaf ∧ x.side = e.side)) →
      (v.exceptions.length < 16 →
        (∃ before after, v.exceptions = before ++ after ∧ (offerException e v).exceptions = before ++ e :: after)
          ∧ (offerException e v).overfull = v.overfull)
      ∧ (v.exceptions.length = 16 →
        (offerException e v).exceptions = v.exceptions ∧ (offerException e v).overfull = true))
    ∧ ListOrdered (offerException e v).exceptions
    ∧ offerException e v =
        { v with exceptions := (offerException e v).exceptions, overfull := (offerException e v).overfull }
    ∧ (∀ leaf side, (removeException leaf side v).exceptions =
        v.exceptions.filter fun x => decide ¬ (x.leaf = leaf ∧ x.side = side))
    ∧ ∀ slot s, volumeAt (freeEntry slot s) slot = none

/-! ## LIGHT, QUIET, CLEAR -/

/-- R98: the checks of a LIGHT, each with the number of its field, in the field order. -/
def lightChecks (m : MechSettings) (t : Ticket) : List (Nat × Prop) :=
  let codeFits := fun (code : Nat) => code = 0 ∨ (m.dMin ≤ code ∧ code ≤ m.dMax)
  [(5, ticketFlag t 0 = true → codeFits (le16At t.bytes 8)), (6, ticketFlag t 0 = true → codeFits (le16At t.bytes 10)),
    (7, ticketFlag t 2 = true → 1024 ≤ le16At t.bytes 12 ∧ le16At t.bytes 12 ≤ 60000),
    (8, ticketFlag t 3 = true → 1 ≤ le16At t.bytes 14 ∧ le16At t.bytes 14 ≤ 250)]

/-- R98, R99: a LIGHT whose fields pass writes the ACTIVE volume as its flags ask, in one step; it is refused BAD_FIELD
with the first field that fails, and then NO_VOLUME. -/
def Obligations.LightWritesActiveVolume : Prop :=
  ∀ (s : State) (t : Ticket), Examined .light t s → TailWaits s →
    let refused := fun (o : OutcomeCode) (slot d : Nat) =>
      ∃ u, exec .light s = .next u ∧ u.tickets = withoutHead s.tickets
        ∧ Handed [completionOf t o slot d s.ms] s u ∧ Only headParts s u
    (∀ n, FirstFailing (lightChecks (mechOf s) t) n → refused .badField (activeSlotNumber s) n)
    ∧ (AllHold (lightChecks (mechOf s) t) → s.volumes.active = none → refused .noVolume 255 0)
    ∧ ∀ slot v, AllHold (lightChecks (mechOf s) t) → s.volumes.active = some slot → volumeAt s slot = some v →
      ∃ u w, exec .light s = .next u
        ∧ u.volumes.active = s.volumes.active ∧ u.volumes.entries = s.volumes.entries.set slot (some w)
        ∧ w = { v with drive := w.drive, regulation := w.regulation, target := w.target, exposure := w.exposure }
        ∧ (w.drive.v = if ticketFlag t 0 = true ∧ le16At t.bytes 8 ≠ 0 then le16At t.bytes 8 else v.drive.v)
        ∧ (w.drive.r = if ticketFlag t 0 = true ∧ le16At t.bytes 10 ≠ 0 then le16At t.bytes 10 else v.drive.r)
        ∧ (ticketFlag t 1 = true → w.regulation = true)
        ∧ (ticketFlag t 1 = false → ticketFlag t 0 = true → w.regulation = false)
        ∧ (ticketFlag t 1 = false → ticketFlag t 0 = false → w.regulation = v.regulation)
        ∧ (w.target = if ticketFlag t 2 = true then le16At t.bytes 12 else v.target)
        ∧ (w.exposure = if ticketFlag t 3 = true then le16At t.bytes 14 else v.exposure)
        ∧ u.tickets = withoutHead s.tickets
        ∧ Handed [completionOf t .done slot (if w.regulation then 1 else 0) s.ms] s u
        ∧ Only (partsOf .light) s u

/-- R168: QUIET silences an ATTEND tone and nothing else, and a later arising sounds again. -/
def Obligations.QuietSilencesAttend : Prop :=
  ∀ (s : State) (t : Ticket), Examined .quiet t s → TailWaits s →
    (∀ on due, s.ret.tone = .attend on due →
      ∃ u, exec .quiet s = .next u ∧ u.ret.tone = .silent ∧ u.seq.attend = s.seq.attend
        ∧ u.tickets = withoutHead s.tickets ∧ Handed [completionOf t .done 255 1 s.ms] s u
        ∧ Only (partsOf .quiet) s u)
    ∧ ((∀ on due, s.ret.tone ≠ .attend on due) →
      ∃ u, exec .quiet s = .next u ∧ u.tickets = withoutHead s.tickets
        ∧ Handed [completionOf t .done 255 0 s.ms] s u ∧ Only headParts s u)
    ∧ ∀ x : State, (attendArises x).ret.tone = .attend true (x.ms + 250)

/-- R164: CLEAR empties the latched fault set and changes no count, lock, head, bar or arm state. -/
def Obligations.ClearEmptiesFaults : Prop :=
  ∀ (s : State) (t : Ticket), Examined .clear t s → TailWaits s →
    ∃ u, exec .clear s = .next u ∧ u.tickets = withoutHead s.tickets
      ∧ Handed [completionOf t .done 255 s.ret.latched.length s.ms]
          { s with ret := { s.ret with latched := [] } } u
      ∧ (s.ret.queue.length < 16 → u.ret.latched = [] ∧ u.ret.overruns = s.ret.overruns)
      ∧ Only headParts s u

/-! ## TURN, ADVANCE, CAPTURE (Chapters 4 and 6) -/

/-- R62, R40: a turn has begun in LOWERING with its PLATEN move DOWN offered and taken, the DOWN switch being open; its
ticket has left the queue and nothing else has changed. -/
def TurnBegun (sw : Switches) (turn : Turn) (s u : State) : Prop :=
  u.seq = { s.seq with arm := .lowering, turn := some turn, outcome := .done, retries := 0, corrections := 0,
                       armPhase := .none, platenPhase := .offered }
    ∧ u.motion = { s.motion with switches := sw, platen := some { down := true, ramp := newRamp (mechOf s).platenMax 7 } }
    ∧ u.tickets = withoutHead s.tickets ∧ Only [.tickets, .seq, .motion] s u

/-- R101, Table 6-1: the checks of the capture fields of a ticket whose sides byte is at offset `o` and whose fields are
numbered from `n`, each with the number it gives, in the order of the rule. -/
def captureChecks (t : Ticket) (o n : Nat) : List (Nat × Prop) :=
  let sides := byteAt t.bytes o
  let v := sides = 1 ∨ sides = 3
  let r := sides = 2 ∨ sides = 3
  let stride := le16At t.bytes 20
  let lines := le16At t.bytes 24
  [(n, v ∨ r), (n + 1, v → le32At t.bytes 12 % 4 = 0), (n + 2, r → le32At t.bytes 16 % 4 = 0),
    (n + 3, stride % 4 = 0 ∧ 8 ≤ stride ∧ stride ≤ 65532),
    (n + 4, 1 ≤ le16At t.bytes 22 ∧ 2 * le16At t.bytes 22 ≤ stride), (n + 5, 1 ≤ lines ∧ lines ≤ 16383),
    (n + 5, stride * lines ≤ 268435456), (n + 1, v → le32At t.bytes 12 + stride * lines ≤ 4294967296),
    (n + 2, r → le32At t.bytes 16 + stride * lines ≤ 4294967296)]

/-- R100, R101: the parameters of a capture as its ticket writes them. -/
def captureWritten (t : Ticket) (o : Nat) : CaptureParams :=
  let sides := byteAt t.bytes o
  { sides := { v := decide (sides = 1 ∨ sides = 3), r := decide (sides = 2 ∨ sides = 3) }
    buffer := { v := le32At t.bytes 12, r := le32At t.bytes 16 }
    stride := le16At t.bytes 20, width := le16At t.bytes 22, lines := le16At t.bytes 24 }

/-- R97: the lamp and allowance checks of a capture of these sides on a volume refuse it with an outcome and a detail. -/
def LampRefused (s : State) (sides : PerSide Bool) (v : Volume) (o : OutcomeCode) (d : Nat) : Prop :=
  let failed := sidesIn isFailed sides s
  let hot := sidesIn (fun b => decide (b = .hot)) sides s
  (failed ≠ 0 ∧ o = .lampFault ∧ d = failed)
    ∨ (failed = 0 ∧ hot ≠ 0 ∧ o = .lampHot ∧ d = hot)
    ∨ (failed = 0 ∧ hot = 0 ∧ capOf v sides < (mechOf s).dMin ∧ o = .allowance ∧ d = capOf v sides)

/-- R97: those checks pass. -/
def LampPasses (s : State) (sides : PerSide Bool) (v : Volume) : Prop :=
  sidesIn isFailed sides s = 0 ∧ sidesIn (fun b => decide (b = .hot)) sides s = 0 ∧ (mechOf s).dMin ≤ capOf v sides

/-- R60: the examination of a TURN: its refusals in their order, its holds, and its start. -/
def Obligations.TurnExamined : Prop :=
  ∀ (s : State) (t : Ticket) (sw : Switches), Examined .turn t s → TailWaits s →
    let refused := fun (o : OutcomeCode) (slot d : Nat) =>
      ∃ u, exec (.turn sw) s = .next u ∧ u.tickets = withoutHead s.tickets
        ∧ Handed [completionOf t o slot d s.ms] s u ∧ Only headParts s u
    (byteAt t.bytes 8 ≠ 1 → byteAt t.bytes 8 ≠ 2 → refused .badField (activeSlotNumber s) 5)
    ∧ ∀ forward : Bool, byteAt t.bytes 8 = (if forward then 1 else 2) →
      (s.settings.lock = true → refused .mechLocked (activeSlotNumber s) 0)
      ∧ (s.settings.lock = false →
        (s.volumes.active = none → refused .noVolume 255 0)
        ∧ ∀ slot v, s.volumes.active = some slot → volumeAt s slot = some v →
          (s.seq.arm = .halted → refused .armFault slot 10) ∧ (s.seq.arm = .faulted → refused .armFault slot 11)
          ∧ (s.seq.arm ≠ .halted → s.seq.arm ≠ .faulted →
            (s.position.heads.a.up = false → s.position.heads.b.up = false → refused .noPosition slot 0)
            ∧ (s.position.heads.a.up = true ∨ s.position.heads.b.up = true →
              (forward = true → v.opening = highestOpening v.leafCount → refused .atEnd slot 0)
              ∧ (forward = false → v.opening = 0 → refused .atStart slot 0)
              ∧ ((forward = true → v.opening ≠ highestOpening v.leafCount) → (forward = false → v.opening ≠ 0) →
                (s.seq.arm ≠ .idle ∨ (∃ c st, s.capture.state = .exposing c st) ∨ advanceInFlight s = true
                    ∨ 12 ≤ s.ret.queue.length → ∃ u, exec (.turn sw) s = .next u ∧ Only [] s u)
                ∧ (s.seq.arm = .idle → (∀ c st, s.capture.state ≠ .exposing c st) → advanceInFlight s = false →
                  s.ret.queue.length < 12 → s.motion.platen = none → sw.down = false →
                  ∃ u, exec (.turn sw) s = .next u
                    ∧ TurnBegun sw { kind := .turn, tag := ticketTag t, forward := forward, slot := slot, capture := none }
                        s u)))))

/-- R61, R104: the examination of an ADVANCE: its refusals in their order, those of its turn half before those of its
capture half, its holds, and its start, which begins its turn with the parameters of its capture half kept. -/
def Obligations.AdvanceStartsTurn : Prop :=
  ∀ (s : State) (t : Ticket) (sw : Switches), Examined .advance t s → TailWaits s →
    let p := captureWritten t 9
    let refused := fun (o : OutcomeCode) (slot d : Nat) =>
      ∃ u, exec (.advance sw) s = .next u ∧ u.tickets = withoutHead s.tickets
        ∧ Handed [completionOf t o slot d s.ms] s u ∧ Only headParts s u
    (byteAt t.bytes 8 ≠ 1 → byteAt t.bytes 8 ≠ 2 → refused .badField (activeSlotNumber s) 5)
    ∧ ∀ forward : Bool, byteAt t.bytes 8 = (if forward then 1 else 2) →
      (∀ n, FirstFailing (captureChecks t 9 6) n → refused .badField (activeSlotNumber s) n)
      ∧ (AllHold (captureChecks t 9 6) →
        (s.settings.lock = true → refused .mechLocked (activeSlotNumber s) 0)
        ∧ (s.settings.lock = false →
          (s.volumes.active = none → refused .noVolume 255 0)
          ∧ ∀ slot v, s.volumes.active = some slot → volumeAt s slot = some v →
            (s.seq.arm = .halted → refused .armFault slot 10) ∧ (s.seq.arm = .faulted → refused .armFault slot 11)
            ∧ (s.seq.arm ≠ .halted → s.seq.arm ≠ .faulted →
              (s.position.heads.a.up = false → s.position.heads.b.up = false → refused .noPosition slot 0)
              ∧ (s.position.heads.a.up = true ∨ s.position.heads.b.up = true →
                (forward = true → v.opening = highestOpening v.leafCount → refused .atEnd slot 0)
                ∧ (forward = false → v.opening = 0 → refused .atStart slot 0)
                ∧ ((forward = true → v.opening ≠ highestOpening v.leafCount) → (forward = false → v.opening ≠ 0) →
                  (∀ d, overlapRefusal s p = some (.overlap, d) → refused .overlap slot d)
                  ∧ (overlapRefusal s p = none →
                    (∀ o d, LampRefused s p.sides v o d → refused o slot d)
                    ∧ (LampPasses s p.sides v →
                      (s.seq.arm ≠ .idle ∨ s.capture.state ≠ .free ∨ advanceInFlight s = true
                          ∨ 12 ≤ s.ret.queue.length → ∃ u, exec (.advance sw) s = .next u ∧ Only [] s u)
                      ∧ (s.seq.arm = .idle → s.capture.state = .free → advanceInFlight s = false →
                        s.ret.queue.length < 12 → s.motion.platen = none → sw.down = false →
                        ∃ u, exec (.advance sw) s = .next u
                          ∧ TurnBegun sw
                              { kind := .advance, tag := ticketTag t, forward := forward, slot := slot, capture := some p }
                              s u))))))))

/-- R102: the OVERLAP refusal: some byte of a requested buffer lies in a region of the map, in a window, in a guard or in
the other requested buffer; side V is examined first. -/
def Obligations.OverlapMeansSharedByte : Prop :=
  ∀ (s : State) (p : CaptureParams), 0 < frameLength p →
    (∀ e ∈ protectedExtents s, 0 < e.2) →
    let inside := fun (a : Nat) (e : Extent) => e.1 ≤ a ∧ a < e.1 + e.2
    let shares := fun (side other : Side) =>
      p.sides.get side = true ∧ ∃ a, inside a (p.buffer.get side, frameLength p)
        ∧ ((∃ e ∈ protectedExtents s, inside a e)
          ∨ (p.sides.get other = true ∧ inside a (p.buffer.get other, frameLength p)))
    (overlapRefusal s p = some (.overlap, 1) ↔ shares .v .r)
    ∧ (overlapRefusal s p = some (.overlap, 2) ↔ ¬ shares .v .r ∧ shares .r .v)
    ∧ (overlapRefusal s p = none ↔ ¬ shares .v .r ∧ ¬ shares .r .v)

/-- R103: the examination of a CAPTURE: its refusals in their order, its holds, and its start: the capture unit takes its
record and is HOLDING. That the acquisition, tried at once (R103, R105), is the step CAPTURE_ACQUISITION and not part of
this one is the model's inference (notes/assumptions/6.md). -/
def Obligations.CaptureEntersHolding : Prop :=
  ∀ (s : State) (t : Ticket), Examined .capture t s → TailWaits s →
    let p := captureWritten t 8
    let refused := fun (o : OutcomeCode) (slot d : Nat) =>
      ∃ u, exec .capture s = .next u ∧ u.tickets = withoutHead s.tickets
        ∧ Handed [completionOf t o slot d s.ms] s u ∧ Only headParts s u
    (∀ n, FirstFailing (captureChecks t 8 5) n → refused .badField (activeSlotNumber s) n)
    ∧ (AllHold (captureChecks t 8 5) →
      (∀ d, overlapRefusal s p = some (.overlap, d) → refused .overlap (activeSlotNumber s) d)
      ∧ (overlapRefusal s p = none →
        (s.volumes.active = none → refused .noVolume 255 0)
        ∧ ∀ slot v, s.volumes.active = some slot → volumeAt s slot = some v →
          (s.seq.arm = .halted → refused .armFault slot 10) ∧ (s.seq.arm = .faulted → refused .armFault slot 11)
          ∧ (s.seq.arm ≠ .halted → s.seq.arm ≠ .faulted →
            (s.position.heads.a.up = false → s.position.heads.b.up = false → refused .noPosition slot 1)
            ∧ (s.position.heads.a.up = true ∨ s.position.heads.b.up = true →
              (∀ o d, LampRefused s p.sides v o d → refused o slot d)
              ∧ (LampPasses s p.sides v →
                (s.capture.state ≠ .free ∨ advanceInFlight s = true ∨ 12 ≤ s.ret.queue.length →
                  ∃ u, exec .capture s = .next u ∧ Only [] s u)
                ∧ (s.capture.state = .free → advanceInFlight s = false → s.ret.queue.length < 12 →
                  ∃ u, exec .capture s = .next u
                    ∧ u.capture = { s.capture with
                        state := .holding { kind := .capture, tag := ticketTag t, slot := slot, params := p } }
                    ∧ u.tickets = withoutHead s.tickets ∧ Only [.capture, .tickets] s u))))))

/-! ## CONFIGURE and RESTART (Chapter 11) -/

/-- R177, Table 2-2: a CONFIGURE: refused BAD_FIELD for its address, held while another is in flight, and otherwise
started with the four reads of its image placed in ascending order. The state is one in which the memory port waits for a
commanded service. With the port idle the first three of the reads are served within the step, since no command stands for
their service (the model's choice, notes/assumptions/11.md). The transactions of the port are kept as a history
(notes/assumptions/34.md). -/
def Obligations.ConfigurePlacesReads : Prop :=
  ∀ (s : State) (t : Ticket), Examined .configure t s → TailWaits s → serveSilent s = none →
    let a := le32At t.bytes 8
    let fits := a % 4 = 0 ∧ a + 256 ≤ 4294967296
    let reading := fun (bytes : List Byte) => { s.settings with
      configure := some { tag := ticketTag t, store := ticketFlag t 0, phase := .reading bytes } }
    (¬ fits → ∃ u, exec .configure s = .next u ∧ u.tickets = withoutHead s.tickets
      ∧ Handed [completionOf t .badField 255 5 s.ms] s u ∧ Only headParts s u)
    ∧ (fits → s.settings.configure.isSome → ∃ u, exec .configure s = .next u ∧ Only [] s u)
    ∧ (fits → s.settings.configure = none → s.path.internal ≠ [] ∨ (s.path.upstream ≠ [] ∧ s.path.waitCount < 8) →
      ∃ u, exec .configure s = .next u ∧ u.settings = reading []
        ∧ (∀ k < 4, Requested u (.imageRead k) (BitVec.ofNat 32 (a + 64 * k)) [])
        ∧ u.tickets = withoutHead s.tickets ∧ Only [.settings, .tickets, .requests] s u)
    ∧ (fits → s.settings.configure = none → s.path.internal = [] → s.path.upstream = [] → s.path.blocked = [] →
      ∃ u, exec .configure s = .next u
        ∧ u.settings = reading ((List.range 192).map fun k => readByte s.memory (a + k))
        ∧ u.path.memoryPort = s.path.memoryPort
            ++ [.read (BitVec.ofNat 32 a) 16, .read (BitVec.ofNat 32 (a + 64)) 16, .read (BitVec.ofNat 32 (a + 128)) 16]
        ∧ Requested u (.imageRead 3) (BitVec.ofNat 32 (a + 192)) []
        ∧ u.tickets = withoutHead s.tickets
        ∧ Only [.settings, .tickets, .requests, .waitCount, .memoryPort] s u)

/-- The candidate changes a base or a capacity of the five regions (R180). -/
def MapChange (s : State) (c : Candidate) : Prop :=
  ∀ m, mapOf s = some m →
    ¬ (c.settings.map.ticketBase = m.ticketBase ∧ c.settings.map.postWord = m.postWord
      ∧ c.settings.map.returnBase = m.returnBase ∧ c.settings.map.accountBase = m.accountBase
      ∧ c.settings.map.statusBase = m.statusBase ∧ c.settings.map.nt = m.nt ∧ c.settings.map.nr = m.nr
      ∧ c.settings.map.na = m.na)

/-- R179: the conditions under which a RESTART is not BUSY, each with the detail of the refusal that its failing makes. -/
def busyChecks (s : State) : List (Nat × Prop) :=
  [(1, s.seq.arm = .idle ∨ (s.seq.arm = .faulted ∧ s.seq.vacuum = false)), (2, s.capture.state = .free),
    (3, ∀ w ∈ s.frames.windows, w = none), (4, s.motion.arm = none ∧ s.motion.platen = none)]

/-- R180: the conditions under which a map change is not MAP_BUSY, each with the detail of its refusal, in the order of
the rule. -/
def mapBusyChecks (s : State) : List (Nat × Prop) :=
  [(2, s.ret.queue = []), (1, s.ret.producer = s.ret.consumer), (3, s.account.producer = s.account.consumer)]

/-- R180: the candidate is no map change, or the rings and the return queue are empty. -/
def MapFree (s : State) (c : Candidate) : Prop := MapChange s c → AllHold (mapBusyChecks s)

/-- R180, Table 11-4: the candidate of the RESTART with a tag has taken effect in the step from `s` to `u`. -/
def RestartTaken (tag : Half) (c : Candidate) (s u : State) : Prop :=
  let startup : Startup := if c.settings.mapOrigin = .defaultMap then .bare else .ready
  u.settings = { s.settings with
      startup := startup, cause := .warmRestart, working := some c.settings, pendingImage := none,
      profile := c.profile, lock := false, loading := none, restart := none, profileDue := s.ms + 100 }
    ∧ u.tickets.queue = [] ∧ u.tickets.barrier = false ∧ u.tickets.outstanding = s.tickets.outstanding
    ∧ u.capture = CaptureUnit.fullReset ∧ u.motion.arm = none ∧ u.motion.platen = none
    ∧ u.lamps = { v := { Bar.fullReset with pollDue := s.ms }, r := { Bar.fullReset with pollDue := s.ms } }
    ∧ u.position.heads = PositionUnit.fullReset.heads ∧ u.position.fused = none
    ∧ u.position.due = [s.ms] ∧ u.position.lastRound = s.ms ∧ u.position.checks = []
    ∧ (¬ Fast s → u.position.nextRound = if startup = .ready then s.ms + 1 else s.ms + 20)
    ∧ u.seq.arm = (if startup = .ready then .homing else .faulted) ∧ u.seq.vacuum = false ∧ u.seq.turn = none
    ∧ u.seq.attend = false ∧ u.ret.tone = .silent ∧ u.path.waitCount = 0
    ∧ u.seq.timer = (if startup = .ready then some { kind := .homing, due := s.ms + 500 } else none)
    ∧ u.link = { SensorLink.fullReset with exchange := s.link.exchange, discard := s.link.exchange.isSome }
    ∧ u.path.foreignWrites = s.path.foreignWrites ∧ u.ms = s.ms ∧ u.memory = s.memory
    ∧ u.volumes.active = s.volumes.active
    ∧ (∀ slot, volumeAt u slot =
        if (mechOf s).dMin = c.settings.mech.dMin ∧ (mechOf s).dMax = c.settings.mech.dMax then volumeAt s slot
        else (volumeAt s slot).map fun v =>
          { v with drive := { v := clamp c.settings.mech.dMin c.settings.mech.dMax v.drive.v,
                              r := clamp c.settings.mech.dMin c.settings.mech.dMax v.drive.r } })
    ∧ (MapChange s c →
        u.tickets.producer = 0 ∧ u.tickets.fetchIndex = 0 ∧ u.tickets.taken = 0
        ∧ u.account = AccountUnit.fullReset ∧ u.frames = { s.frames with guards := FrameTracker.fullReset.guards }
        ∧ Handed [.completion 15 tag .done 255 1 s.ms,
            .event .state 0 (startupNumber startup + 256 * causeNumber .warmRestart) s.ms]
          { s with
            settings := u.settings
            ret := { s.ret with producer := 0, postedProducer := 0, consumer := 0, posted := [], readMarks := [],
                                latched := (if c.mapBad then [.settingsMap] else [])
                                  ++ (if c.mechBad then [.settingsMech] else []) } } u)
    ∧ (¬ MapChange s c →
        u.tickets.producer = s.tickets.producer ∧ u.tickets.fetchIndex = s.tickets.fetchIndex
        ∧ u.tickets.taken = s.tickets.taken ∧ u.account = s.account ∧ u.frames = s.frames
        ∧ Handed [.completion 15 tag .done 255 0 s.ms,
            .event .state 0 (startupNumber startup + 256 * causeNumber .warmRestart) s.ms]
          { s with
            settings := u.settings
            ret := { s.ret with latched := (if c.mapBad then [.settingsMap] else [])
                                  ++ (if c.mechBad then [.settingsMech] else []) } } u)

/-- R180: a RESTART without RELOAD whose candidate is not refused takes effect in its own step, and one with RELOAD in
the step RESTART_TAKE_EFFECT once its sections have been read. The model's choices: the first comparison of the
profile pins 100 ms later (notes/assumptions/20.md), and the step in which a candidate takes effect
(notes/assumptions/23.md). -/
def Obligations.RestartTakesEffect : Prop :=
  (∀ (s : State) (t : Ticket) (prof1 prof0 : Level) (c : Candidate),
    Examined .restart t s → ticketFlag t 0 = false → AllHold (busyChecks s) → s.settings.configure = none →
    heldCandidate (profileOf prof1 prof0) s = some c → MapFree s c →
    ∃ u, exec (.restart prof1 prof0) s = .next u ∧ RestartTaken (ticketTag t) c s u)
  ∧ ∀ (s : State) (r : Restart) (c : Candidate),
    s.settings.restart = some r → r.candidate = some c → MapFree s c →
    ∃ u, exec .restartTakeEffect s = .next u ∧ RestartTaken r.tag c s u

/-- R179, R180, R181: a RESTART refused BUSY with the first condition found, held behind a CONFIGURE, refused MAP_BUSY
with the first of the rings and the queue found not empty, or entering LOADING to reload; and one with RELOAD refused
MAP_BUSY when its candidate stands, which returns to the startup state it left. In which step each happens is the model's
inference (notes/assumptions/23.md); its choices are that the transfers on the I2C link are kept as a history
(notes/assumptions/34.md) and that a RESTART refused after its LOADING has the profile pins compared 100 ms later
(notes/assumptions/20.md). -/
def Obligations.RestartRefusedHeldOrReloads : Prop :=
  (∀ (s : State) (t : Ticket) (prof1 prof0 : Level), Examined .restart t s → TailWaits s →
    let refused := fun (o : OutcomeCode) (d : Nat) =>
      ∃ u, exec (.restart prof1 prof0) s = .next u
        ∧ u.tickets = { withoutHead s.tickets with barrier := false }
        ∧ Handed [completionOf t o 255 d s.ms] s u ∧ Only headParts s u
    (∀ d, FirstFailing (busyChecks s) d → refused .busy d)
    ∧ (AllHold (busyChecks s) → s.settings.configure.isSome →
      ∃ u, exec (.restart prof1 prof0) s = .next u ∧ Only [] s u)
    ∧ (AllHold (busyChecks s) → s.settings.configure = none → ticketFlag t 0 = false →
      ∀ c, heldCandidate (profileOf prof1 prof0) s = some c → MapChange s c →
      ∀ d, FirstFailing (mapBusyChecks s) d → refused .mapBusy d)
    ∧ (AllHold (busyChecks s) → s.settings.configure = none → ticketFlag t 0 = true →
      ∃ u, exec (.restart prof1 prof0) s = .next u
        ∧ u.settings = { s.settings with
            startup := .loading
            loading := some { reading := .mapSection, failed := 0, retryAt := none, map := none }
            restart := some { tag := ticketTag t, leftFrom := s.settings.startup,
                              profile := 3 * levelNumber prof1 + levelNumber prof0, candidate := none }
            i2c := s.settings.i2c ++ [.read 0x56 0 64] }
        ∧ u.tickets = withoutHead s.tickets
        ∧ u.link = { SensorLink.fullReset with exchange := s.link.exchange, discard := s.link.exchange.isSome }
        ∧ Only [.settings, .tickets, .link] s u))
  ∧ ∀ (s : State) (r : Restart) (c : Candidate) (d : Nat),
    s.settings.restart = some r → r.candidate = some c → MapChange s c → FirstFailing (mapBusyChecks s) d →
    ∃ u, exec .restartTakeEffect s = .next u
      ∧ u.settings = { s.settings with startup := r.leftFrom, restart := none, profileDue := s.ms + 100 }
      ∧ u.tickets = { s.tickets with barrier := false }
      ∧ Handed [.completion 15 r.tag .mapBusy 255 d s.ms] { s with settings := u.settings } u
      ∧ Only ([.settings, .tickets, .rounds, .nextRound, .bars, .buttons] ++ handParts) s u

/-! ## The whole machine -/

/-- A step with a command at the front of the queue runs that command on the state with the rest of the queue. -/
def Obligations.StepRunsFrontCommand : Prop :=
  ∀ (i : Instr) (rest : List Instr) (s : State), s.pending = i :: rest → step s = exec i { s with pending := rest }

/-- R173, with Table 2-1, R2, R25, R39, R49, R50, R58, R81, R87, R107, R115, R129, R143, R146, R157: RESETN puts every
block at its full-reset state and leaves frame memory alone. The queue of commands and the count of free choices are the
model's own and stay (notes/assumptions/28.md). -/
def Obligations.ResetHoldsEveryBlock : Prop :=
  ∀ s : State, ∃ u, exec .resetnAssert s = .next u
    ∧ u.settings.startup = .resetHeld ∧ u.settings.working = none ∧ u.settings.pendingImage = none
    ∧ u.settings.lock = false ∧ u.settings.loading = none ∧ u.settings.configure = none ∧ u.settings.restart = none
    ∧ u.ms = 0 ∧ u.memory = s.memory ∧ u.pending = s.pending ∧ u.freeChoices = s.freeChoices
    ∧ u.tickets.producer = 0 ∧ u.tickets.fetchIndex = 0 ∧ u.tickets.taken = 0 ∧ u.tickets.queue = []
    ∧ u.tickets.outstanding = 0 ∧ u.tickets.discarding = false ∧ u.tickets.barrier = false
    ∧ (∀ slot < 8, entryState u slot = .free) ∧ u.volumes.active = none
    ∧ u.account.producer = 0 ∧ u.account.consumer = 0 ∧ u.account.reserved = 0 ∧ u.account.posted = []
    ∧ u.account.readMarks = [] ∧ u.account.postedProducer = 0 ∧ u.ret.producer = 0 ∧ u.ret.consumer = 0
    ∧ u.ret.posted = [] ∧ u.ret.readMarks = [] ∧ u.ret.postedProducer = 0
    ∧ u.ret.queue = [] ∧ u.ret.overruns = 0 ∧ u.ret.overrunPending = false ∧ u.ret.latched = [] ∧ u.ret.tone = .silent
    ∧ u.ret.statusWaiting = false ∧ u.ret.statusAgain = false
    ∧ u.motion.arm = none ∧ u.motion.platen = none ∧ u.motion.armEnd = none ∧ u.motion.platenEnd = none
    ∧ u.link.exchange = none ∧ nextExchange u.link = none
    ∧ u.position.fused = none ∧ u.position.due = [] ∧ u.position.checks = []
    ∧ (∀ h, (u.position.heads.get h).up = false ∧ (u.position.heads.get h).good = none
        ∧ (u.position.heads.get h).life = none ∧ (u.position.heads.get h).warned = false
        ∧ (u.position.heads.get h).badCount = 0 ∧ (u.position.heads.get h).goodCount = 0)
    ∧ u.seq.arm = .faulted ∧ u.seq.vacuum = false ∧ u.seq.turn = none ∧ u.seq.attend = false ∧ u.seq.timer = none
    ∧ u.seq.retries = 0 ∧ u.seq.corrections = 0
    ∧ (∀ side, (u.lamps.get side).state = .ready ∧ (u.lamps.get side).temp = none
        ∧ (u.lamps.get side).life = none ∧ (u.lamps.get side).echo = .none
        ∧ (u.lamps.get side).noReply = 0 ∧ (u.lamps.get side).lastCode = none)
    ∧ u.capture.state = .free ∧ u.capture.strobe = { v := false, r := false }
    ∧ u.capture.trig = { v := false, r := false }
    ∧ (∀ i < 4, windowAt u i = none) ∧ guardsInUse u = 0 ∧ u.frames.guardReserved = 0
    ∧ u.path.upstream = [] ∧ u.path.internal = [] ∧ u.path.blocked = [] ∧ u.path.waitCount = 0
    ∧ u.path.foreignWrites = 0

/-- Every well-formed command takes a next state in every state, one out of its occasion too (the model's choice,
notes/assumptions/5.md). The one fault is that of an upstream transaction whose operand is no burst of section 9.1 (the
model's choice, notes/assumptions/24.md); no command is refused. -/
def Obligations.WellFormedCommandsRun : Prop :=
  (∀ (i : Instr) (s : State), i.wf = true → ∃ t, exec i s = .next t)
    ∧ (∀ (i : Instr) (s : State) (f : Fault), exec i s = .fault f →
        ∃ t : Transaction, i = .upstreamTransaction t ∧ t.wf = false)
    ∧ ∀ (i : Instr) (s : State) (r : Refusal), exec i s ≠ .refused r

/-- The frame of every command: between the state before it and the state it leaves, only the parts that `partsOf` names
for it, and those the end of every step may change, have changed. -/
def Obligations.EachCommandChangesOnlyItsParts : Prop :=
  ∀ (i : Instr) (s t : State), exec i s = .next t → Only (partsOf i) s t

/-- R174, as the model lets time pass: the millisecond counter counts in a step that has no command, except in
RESET_HELD; no command but RESETN and its release moves it (the model's choice, notes/assumptions/1.md). -/
def Obligations.CounterCounts : Prop :=
  (∀ s : State, s.pending = [] →
    ∃ u, step s = .next u ∧ u.ms = (if s.settings.startup = .resetHeld then s.ms else s.ms + 1)
      ∧ Changes ([.ms, .nextRound, .buttons] ++ silentParts) s u)
  ∧ ∀ (i : Instr) (s u : State), exec i s = .next u → i ≠ .resetnAssert → (∀ p, i ≠ .resetnRelease p) → u.ms = s.ms

/-- The ticket kind whose examination a command is. -/
def examinedKind : Instr → Option Kind
  | .openVolume => some .openVolume
  | .select => some .select
  | .park => some .park
  | .close => some .close
  | .manual => some .manual
  | .skip => some .skip
  | .turn _ => some .turn
  | .capture => some .capture
  | .advance _ => some .advance
  | .light => some .light
  | .quiet => some .quiet
  | .clear => some .clear
  | .configure => some .configure
  | .restart _ _ => some .restart
  | _ => none

/-- R33, steps 2 and 3, and R34: the header checks of a ticket of a known kind at the head: a mismatched index, a flag
that its kind does not define, and a kind not accepted in BARE. -/
def Obligations.HeaderChecksComplete : Prop :=
  ∀ (i : Instr) (k : Kind) (s : State) (t : Ticket), examinedKind i = some k → s.tickets.queue.head? = some t →
    kindOf (ticketKind t) = some k → TailWaits s → (k = .configure → serveSilent s = none) →
    let refused := fun (o : OutcomeCode) (d : Nat) =>
      ∃ u, exec i s = .next u
        ∧ u.tickets = { withoutHead s.tickets with barrier := decide (k ≠ .restart) && s.tickets.barrier }
        ∧ Handed [completionOf t o 255 d s.ms] s u ∧ Only headParts s u
    let flagsDefined := ticketFlags t < (if k = .light then 16 else if k = .configure ∨ k = .restart then 2 else 1)
    (ticketIndexField t ≠ t.index → refused .badField 3)
    ∧ (ticketIndexField t = t.index → ¬ flagsDefined → refused .badField 4)
    ∧ (ticketIndexField t = t.index → flagsDefined → s.settings.startup = .bare →
        k ≠ .configure → k ≠ .restart → k ≠ .clear → k ≠ .quiet → refused .notReady 0)

/-! ## Laws that every step keeps -/

/-- R91: a step keeps the dose used of every volume within its allowance. -/
def Obligations.DoseNeverExceedsAllowance : Prop := ∀ s t : State, DoseWithin s → step s = .next t → DoseWithin t

/-- R91, R2, R8: no command but CLOSE and RESETN takes a volume from its entry, and none lowers its dose used or changes
the fields its OPEN set for good. -/
def Obligations.DoseUsedNeverFalls : Prop :=
  ∀ (i : Instr) (s t : State) (slot : Nat) (v : Volume), exec i s = .next t → volumeAt s slot = some v →
    i ≠ .resetnAssert →
    (∃ w, volumeAt t slot = some w ∧ v.doseUsed ≤ w.doseUsed ∧ w.shelfMark = v.shelfMark
        ∧ w.leafCount = v.leafCount ∧ w.allowance = v.allowance ∧ w.openedAt = v.openedAt)
      ∨ (i = .close ∧ volumeAt t slot = none)

/-- R87: a step keeps every strobe and trigger line lowered outside the strobe of a fire in EXPOSING with the arm
IDLE. -/
def Obligations.StrobeOnlyWhileExposingAndIdle : Prop := ∀ s t : State, StrobeSafe s → step s = .next t → StrobeSafe t

/-- R21: a step keeps every exception list in order, without a repeated leaf side, and at most 16 long. -/
def Obligations.ExceptionListsStayOrdered : Prop :=
  ∀ s t : State, ExceptionsOrdered s → step s = .next t → ExceptionsOrdered t

/-- R105, R107, R115: a step keeps the frame pools within their bounds, once the invariant holds. -/
def Obligations.FramePoolsStayWithinBounds : Prop := ∀ s t : State, PoolsWithin s → step s = .next t → PoolsWithin t

/-- R1, R12: a step keeps the volume table at eight entries with a held ACTIVE entry and no shelf mark twice. -/
def Obligations.VolumeTableStaysSound : Prop := ∀ s t : State, TableSound s → step s = .next t → TableSound t

/-- R25, R28, R29: a step keeps room in the fetched queue for every ticket whose read waits. -/
def Obligations.FetchedQueueKeepsRoom : Prop := ∀ s t : State, QueueHasRoom s → step s = .next t → QueueHasRoom t

/-- R143, R151, R152, R157, R50, R81: a step keeps the queues and the saturating counts within their bounds. -/
def Obligations.QueuesAndCountsStayBounded : Prop :=
  ∀ s t : State, QueuesBounded s → CountsBounded s → step s = .next t → QueuesBounded t ∧ CountsBounded t

/-- A step keeps frame memory in its canonical form. -/
def Obligations.MemoryStaysCanonical : Prop :=
  ∀ s t : State, Memory.wf s.memory → step s = .next t → Memory.wf t.memory

/-- The laws of the arm states: the vacuum (Table 4-1), the turn in flight (R58), and the platen's moves (R62, R71,
R78). -/
def ArmLaws (s : State) : Prop := VacuumMatches s ∧ TurnInMotion s ∧ PlatenPhaseMatches s

/-- R173: the machine stands as RESETN left it, but for what start-up itself moves: the settings unit's course, the
counter, the transactions of the host and frame memory, and what the model adds. -/
def BlocksUntouched (s : State) : Prop :=
  s = { State.reset with
    settings := { State.reset.settings with
      startup := s.settings.startup, cause := s.settings.cause, profile := s.settings.profile,
      settleUntil := s.settings.settleUntil, loading := s.settings.loading, i2c := s.settings.i2c }
    ms := s.ms
    path := { State.reset.path with
      upstream := s.path.upstream, memoryPort := s.path.memoryPort, hostData := s.path.hostData }
    memory := s.memory, stopLine := s.stopLine, resumeLine := s.resumeLine, freeChoices := s.freeChoices
    pending := s.pending }

/-- R173, R180: in RESET_HELD nothing has moved since RESETN; before LOADING first ends only start-up has moved; after
that, LOADING runs only for a RESTART, which left READY, BARE or LOADING. -/
def StartLaws (s : State) : Prop :=
  (s.settings.startup = .resetHeld →
    s = { State.reset with memory := s.memory, stopLine := s.stopLine, resumeLine := s.resumeLine,
                           freeChoices := s.freeChoices, pending := s.pending })
    ∧ (s.settings.working = none →
        BlocksUntouched s ∧ s.settings.startup ≠ .ready ∧ s.settings.startup ≠ .bare)
    ∧ (s.settings.working.isSome →
        s.settings.startup ≠ .powerSettling
          ∧ (s.settings.loading.isSome → ∃ r, s.settings.restart = some r ∧ r.candidate = none))
    ∧ ∀ r, s.settings.restart = some r → r.leftFrom ≠ .resetHeld ∧ r.leftFrom ≠ .powerSettling

/-- R173: in RESET_HELD every block stands at its full-reset state, and until LOADING ends no block but the settings unit
and the through-path works, whatever is commanded. -/
def Obligations.NothingWorksBeforeService : Prop := ∀ s t : State, StartLaws s → step s = .next t → StartLaws t

/-- Table 4-1, R58: a step keeps the vacuum as the arm state has it, a turn in flight only in the states of a turn, and
a platen move awaited only in the states that offer one. -/
def Obligations.VacuumAndTurnMatchArmState : Prop :=
  ∀ s t : State, ArmLaws s → StartLaws s → step s = .next t → ArmLaws t

/-- The laws that every step keeps hold at reset. -/
def Obligations.LawsHoldAtReset : Prop :=
  DoseWithin State.reset ∧ StrobeSafe State.reset ∧ ExceptionsOrdered State.reset ∧ PoolsWithin State.reset
    ∧ TableSound State.reset ∧ QueueHasRoom State.reset ∧ QueuesBounded State.reset ∧ CountsBounded State.reset
    ∧ Memory.wf State.reset.memory ∧ ArmLaws State.reset ∧ StartLaws State.reset

/-! ## The through-path (Chapter 9) -/

/-- Nothing in these lists is served of itself: the next upstream transaction is a write or a read of closing words, and
no read of an image waits. -/
def PortRests (s : State) (upstream : List Transaction) (internal : List InternalEntry) : Prop :=
  (∀ a n, upstream.head? = some (.read a n) → closings s a n ≠ []) ∧ ∀ e ∈ internal, ∀ k, e.purpose ≠ .imageRead k

/-- R152: the arbiter's choice is this upstream transaction, the oldest, and what is left waiting rests. -/
def UpstreamChosen (s : State) (t : Transaction) (rest : List Transaction) : Prop :=
  s.path.upstream = t :: rest ∧ (s.path.internal = [] ∨ s.path.waitCount < 8) ∧ PortRests s rest (waiting s)

/-- R152: the arbiter's choice is this entry, the head of the internal request queue, and what is left waiting rests. -/
def InternalChosen (s : State) (e : InternalEntry) : Prop :=
  s.path.internal.head? = some e ∧ (s.path.upstream = [] ∨ 8 ≤ s.path.waitCount)
    ∧ PortRests s s.path.upstream (s.path.internal.tail ++ s.path.blocked)

/-- R143: the upstream port accepts a transaction while fewer than four wait, and none in RESET_HELD; a read that
covers no closing word is served at once when nothing else waits. The model's choices: an offer that is not accepted
changes nothing (notes/assumptions/5.md), a plain read is served within the step (notes/assumptions/11.md), and what the
port carries and returns is kept as a history (notes/assumptions/34.md). -/
def Obligations.UpstreamPortAccepts : Prop :=
  ∀ (s : State) (t : Transaction), t.wf = true →
    (s.settings.startup = .resetHeld ∨ 4 ≤ s.path.upstream.length → PortRests s s.path.upstream (waiting s) →
      ∃ u, exec (.upstreamTransaction t) s = .next u ∧ Only [] s u)
    ∧ (s.settings.startup ≠ .resetHeld → s.path.upstream.length < 4 →
      (PortRests s (s.path.upstream ++ [t]) (waiting s) →
        ∃ u, exec (.upstreamTransaction t) s = .next u ∧ u.path.upstream = s.path.upstream ++ [t]
          ∧ Only [.upstream] s u)
      ∧ (∀ a n, t = .read a n → s.path.upstream = [] → waiting s = [] → closings s a n = [] →
        ∃ u, exec (.upstreamTransaction t) s = .next u ∧ u.path.hostData = s.path.hostData ++ [readWords s.memory a n]
          ∧ u.path.memoryPort = s.path.memoryPort ++ [t] ∧ Only [.memoryPort, .hostData] s u))

/-- The address lies in a range. -/
def Inside (a lo len : Nat) : Prop := lo ≤ a ∧ a < lo + len

/-- R145: the word address lies in the return ring, the account ring or the status block. -/
def InOwnRegion (m : MapSettings) (a : Nat) : Prop :=
  Inside a m.returnBase (16 * m.nr) ∨ Inside a m.accountBase (64 * m.na) ∨ Inside a m.statusBase 64

/-- R145: the word address lies in a range whose upstream writes are dropped. -/
def Protected (s : State) (a : Nat) : Prop :=
  ∃ m, mapOf s = some m ∧ (InOwnRegion m a ∨ ∃ g, some g ∈ s.frames.guards ∧ Inside a g.base g.length)

/-- The address of word `j` of a burst. -/
def wordAddress (a : Word) (j : Nat) : Nat := (a + BitVec.ofNat 32 (4 * j)).toNat

/-- What the service of an upstream write changes besides its reports. -/
def writeServiceParts : List Part := [.upstream, .waitCount, .memory, .memoryPort]

/-- R143, R145, R152: the service of an upstream write: every enabled byte of a word that is not dropped is written,
every other byte of memory keeps its value, and the burst crosses the memory port whole, a dropped word with its byte
enables cleared. POST_WORD_WRITE is that service for a burst with a word at the post word. That a burst passes from
the top of the 4 GiB to address 0, and that the port's transactions are kept as a history, are the model's choices
(notes/assumptions/13.md, 34.md). -/
def Obligations.UpstreamWriteReachesMemory : Prop :=
  ∀ (s : State) (i : Instr) (a : Word) (ws : List BusWord) (rest : List Transaction),
    Memory.wf s.memory → UpstreamChosen s (.write a ws) rest → a.toNat % 4 = 0 → ws.length ≤ 16 →
    (i = .upstreamWrite ∨ (i = .postWordWrite ∧ inService s = true
      ∧ ∃ m, mapOf s = some m ∧ ∃ j < ws.length, wordAddress a j = m.postWord ∧ ¬ Protected s m.postWord)) →
    ∃ u, exec i s = .next u ∧ u.path.upstream = rest
      ∧ u.path.waitCount = (if s.path.internal = [] then s.path.waitCount else s.path.waitCount + 1)
      ∧ (∀ j (h : j < ws.length), ∀ b < 4,
          (ws[j].be.getLsbD b = true ∧ ¬ Protected s (wordAddress a j) →
            readByte u.memory (wordAddress a j + b) = wordByte ws[j].data b)
          ∧ (ws[j].be.getLsbD b = false ∨ Protected s (wordAddress a j) →
            readByte u.memory (wordAddress a j + b) = readByte s.memory (wordAddress a j + b)))
      ∧ (∀ x, (∀ j < ws.length, ¬ Inside x (wordAddress a j) 4) → readByte u.memory x = readByte s.memory x)
      ∧ (∃ fs, u.path.memoryPort = s.path.memoryPort ++ [.write a fs] ∧ fs.length = ws.length
          ∧ ∀ j (h : j < ws.length) (k : j < fs.length), fs[j].data = ws[j].data
            ∧ (Protected s (wordAddress a j) → fs[j].be = 0) ∧ (¬ Protected s (wordAddress a j) → fs[j].be = ws[j].be))
      ∧ Only (partsOf i) s u
      ∧ ((∀ j < ws.length, placeOf s (wordAddress a j) = .plain) → Only writeServiceParts s u)

/-- R26, R27, R148: a word at the post word: the same index changes nothing, an index no more than the capacity ahead of
the fetch index becomes the producer index, and any other word is a post fault. -/
def Obligations.PostWordOffersProducer : Prop :=
  ∀ (s : State) (i : Instr) (m : MapSettings) (a : Word) (w : BusWord) (rest : List Transaction),
    i = .upstreamWrite ∨ i = .postWordWrite → UpstreamChosen s (.write a [w]) rest → mapOf s = some m →
    inService s = true → a.toNat = m.postWord → ¬ Protected s m.postWord →
    let p : Half := w.data.setWidth 16
    let gap := (p - s.tickets.fetchIndex).toNat
    (w.be = 15 → p = s.tickets.producer → ∃ u, exec i s = .next u ∧ Only writeServiceParts s u)
    ∧ (w.be = 15 → p ≠ s.tickets.producer → gap ≤ m.nt →
      ∃ u, exec i s = .next u ∧ u.tickets = { s.tickets with producer := p } ∧ Only (.tickets :: writeServiceParts) s u)
    ∧ ((w.be ≠ 15 ∨ (p ≠ s.tickets.producer ∧ m.nt < gap)) →
      (LatchedFault.postFault ∈ s.ret.latched → ∃ u, exec i s = .next u ∧ Only writeServiceParts s u)
      ∧ (LatchedFault.postFault ∉ s.ret.latched →
        ∃ u, exec i s = .next u
          ∧ Handed [.event .postFault 0 (w.data.toNat % 65536) s.ms] (enterLatched .postFault s) u
          ∧ Only (handParts ++ writeServiceParts) s u))

/-- R146, R116: dropped words are reported: a burst into the regions of the controller's own adds its dropped words to
the foreign-write count and latches FOREIGN_WRITE with its event at the first; a word dropped by a guard sets its hit
mark with GUARD_HIT the first time. Memory is unchanged. -/
def Obligations.DroppedWordsReported : Prop :=
  ∀ (s : State) (m : MapSettings) (a : Word) (ws : List BusWord) (rest : List Transaction),
    UpstreamChosen s (.write a ws) rest → mapOf s = some m →
    ((∀ j < ws.length, InOwnRegion m (wordAddress a j)) → s.path.foreignWrites ≤ 65535 →
      ∀ j (h : j < ws.length), ws[j].be ≠ 0 → (∀ k (l : k < j), ws[k].be = 0) →
      let count := min 65535 (s.path.foreignWrites + ws.countP fun w => decide (w.be ≠ 0))
      (LatchedFault.foreignWrite ∈ s.ret.latched →
        ∃ u, exec .upstreamWrite s = .next u ∧ u.path.foreignWrites = count ∧ u.memory = s.memory
          ∧ Only (.foreignWrites :: writeServiceParts) s u)
      ∧ (LatchedFault.foreignWrite ∉ s.ret.latched →
        ∃ u, exec .upstreamWrite s = .next u ∧ u.path.foreignWrites = count ∧ u.memory = s.memory
          ∧ Handed [.event .foreignWrite 0 (wordAddress a j) s.ms] (enterLatched .foreignWrite s) u
          ∧ Only (.foreignWrites :: handParts ++ writeServiceParts) s u))
    ∧ ∀ w i g, ws = [w] → w.be ≠ 0 → ¬ InOwnRegion m a.toNat → s.frames.guards[i]? = some (some g) →
      Inside a.toNat g.base g.length →
      (∀ k < i, ∀ h, s.frames.guards[k]? = some (some h) → ¬ Inside a.toNat h.base h.length) →
      (g.hit = true → ∃ u, exec .upstreamWrite s = .next u ∧ u.memory = s.memory ∧ Only writeServiceParts s u)
      ∧ (g.hit = false →
        ∃ u, exec .upstreamWrite s = .next u ∧ u.memory = s.memory
          ∧ u.frames = { s.frames with guards := s.frames.guards.set i (some { g with hit := true }) }
          ∧ Handed [.event .guardHit 0 a.toNat s.ms] s u ∧ Only (.frames :: handParts ++ writeServiceParts) s u)

/-! ## Frames (Chapters 6 and 7) -/

/-- R144, R149: an upstream write of one word falls in the FILLING window of entry `i` and in no other range. -/
def FallsInWindow (s : State) (i : Nat) (a : Word) (b : BusWord) (w : Window) : Prop :=
  (∃ rest, UpstreamChosen s (.write a [b]) rest) ∧ (mapOf s).isSome ∧ ¬ Protected s a.toNat
    ∧ (∀ m, mapOf s = some m → a.toNat ≠ m.postWord) ∧ windowAt s i = some w ∧ w.filling = true
    ∧ Inside a.toNat w.base (windowLength w)
    ∧ ∀ k < i, ∀ x, windowAt s k = some x → x.filling = true → ¬ Inside a.toNat x.base (windowLength x)

/-- R109, R121: what a word at an offset makes of a window: the fill, the CRC register, the DISORDERED mark, and the
statistics of its patch. -/
def judgedWindow (s : State) (w : Window) (off : Nat) (b : BusWord) : Window :=
  let accepted : Bool := decide (off = w.fill ∧ b.be = 15)
  let x := (off % w.stride) / 2
  let y := off / w.stride
  let counted : Bool := accepted && w.patchValid
    && decide (w.patch.x0 ≤ x ∧ x < w.patch.x0 + w.patch.pw ∧ w.patch.y0 ≤ y ∧ y < w.patch.y0 + w.patch.ph)
  let first := b.data.toNat % 65536
  let second := b.data.toNat / 65536
  let clip := fun p => if (mechOf s).clipLevel ≤ p then 1 else 0
  let fill := if off < w.fill then w.fill else off + 4
  { w with
    fill := fill
    full := w.full || (decide (w.fill ≤ off) && decide (windowLength w ≤ fill))
    disordered := w.disordered || !accepted
    crc := if accepted then
        crc32Bytes w.crc [wordByte b.data 0, wordByte b.data 1, wordByte b.data 2, wordByte b.data 3]
      else w.crc
    patchSum := if counted then w.patchSum + first + second else w.patchSum
    clips := if counted then w.clips + clip first + clip second else w.clips }

/-- R109, R111, R121: an upstream write of one word in a FILLING window that does not complete it changes, besides what
the service of any upstream write changes, that window alone. -/
def Obligations.FrameWordJudged : Prop :=
  ∀ (s : State) (i : Nat) (a : Word) (b : BusWord) (w : Window), FallsInWindow s i a b w →
    (w.fire = none ∨ w.strobeEnd = none ∨ (judgedWindow s w (a.toNat - w.base) b).full = false) →
    ∃ u, exec .upstreamWrite s = .next u
      ∧ u.frames = { s.frames with
          windows := s.frames.windows.set i (some (judgedWindow s w (a.toNat - w.base) b)) }
      ∧ Only (.frames :: writeServiceParts) s u

/-- R124, R125, R126: the code that the regulator forms for a frame lit at code `d`, with target `t`, mean `m`, clip count
`c` and `n` patch pixels: none below a mean of 64; the candidate a quarter less when 1/16 of the pixels are clipped; none
within 1/64 of the target; otherwise the candidate `d × t / m` to the nearest; and the candidate limited to a quarter of
`d`, at least 1, and then to its range. -/
def Obligations.RegulatorFormsCode : Prop :=
  ∀ (d t m c n lo hi : Nat), lo ≤ hi →
    let limit := max 1 (d / 4)
    let limited := fun x => max lo (min hi (max (d - limit) (min (d + limit) x)))
    (m < 64 → regulate d t m c n lo hi = none)
    ∧ (64 ≤ m → n / 16 ≤ c → regulate d t m c n lo hi = some (limited (d - d / 4)))
    ∧ (64 ≤ m → c < n / 16 → m ≤ t + t / 64 → t ≤ m + t / 64 → regulate d t m c n lo hi = none)
    ∧ (64 ≤ m → c < n / 16 → ¬ (m ≤ t + t / 64 ∧ t ≤ m + t / 64) →
      regulate d t m c n lo hi = some (limited ((d * t + m / 2) / m)))

/-- R112, R122, R138: what the FRAME record of a window that ends with a status and a measured exposure carries. -/
def frameRecordOf (w : Window) (f : FireData) (status : FrameStatus) (v : Volume) (exposure : Nat) : AccountContent :=
  let n := w.patch.pw * w.patch.ph
  let mean := if w.patchValid then w.patchSum / n else 0
  let measured := decide (status = .complete) && w.patchValid
  .frame f.leaf w.side status f.take
    (bitOf (measured && decide (mean < 64)) 1 + bitOf (measured && decide (64 ≤ mean ∧ n / 16 ≤ w.clips)) 2
      + bitOf (!w.patchValid) 4 + bitOf f.doseLimited 8 + bitOf f.derated 16 + bitOf v.unpressed 32
      + bitOf f.singleHead 64)
    f.code mean (if w.patchValid then min 255 (w.clips * 256 / n) else 0) exposure f.temp
    (if status = .complete then w.crc ^^^ 0xFFFFFFFF else 0)

/-- The armed window table once the window of entry `i` has ended with a status: its entry is free, and a partner that
ends later has been told (R107). -/
def windowEnded (i : Nat) (w : Window) (status : FrameStatus) (ws : List (Option Window)) : List (Option Window) :=
  match w.partner, w.partnerEnd with
  | some j, none => (ws.set i none).modify j fun x => x.map fun p => { p with partnerEnd := some status }
  | _, _ => ws.set i none

/-- R112, R113: in the step to `u` a frame of the volume of a slot, which stood as `v`, ended with a status and this
FRAME record, and the status acted on its exception list. -/
def FrameEnded (slot : Nat) (v : Volume) (leaf : Nat) (side : Side) (status : FrameStatus) (c : AccountContent)
    (s u : State) : Prop :=
  u.volumes.active = s.volumes.active
    ∧ u.volumes.entries = s.volumes.entries.set slot
        (some (frameException leaf side status (afterRecords slot s.ms v [c])))
    ∧ u.account.producer = s.account.producer + 1 ∧ u.account.reserved = s.account.reserved - 1
    ∧ Recorded u s.account.producer (recordsBytes slot s.ms v [c])

/-- The volume once the regulator has run for a frame of a window (R123, R127). -/
def regulated (s : State) (w : Window) (f : FireData) (status : FrameStatus) (v : Volume) : Volume :=
  if status = .complete ∧ w.patchValid = true ∧ v.regulation = true then
    match regulate f.code v.target (w.patchSum / patchPixels w.patch) w.clips (patchPixels w.patch) (mechOf s).dMin
        (effectiveMax s w.side) with
    | some d => { v with drive := v.drive.set w.side d }
    | none => v
  else v

/-- R112, step 4, R115: the frame tracker once the frame of entry `i` has completed with a status and the index of its
FRAME record: a guard in the lowest free entry in place of the window and its reservation. -/
def frameGuarded (i : Nat) (w : Window) (status : FrameStatus) (index : Half) (x : FrameTracker) : FrameTracker :=
  { windows := windowEnded i w status x.windows
    guards := x.guards.set (x.guards.findIdx fun g => g.isNone)
      (some { base := w.base, length := w.stride * w.lines, index := index, hit := false })
    guardReserved := x.guardReserved - 1 }

/-- R112: the status with which a frame completes. -/
def statusOf (w : Window) : FrameStatus := if w.cut then .cut else if w.disordered then .disordered else .complete

/-- R112, R167: the tone once a frame has completed: a chirp for the last of a capture whose frames are all COMPLETE, with
the chirp option and no ATTEND tone. -/
def frameTone (w : Window) (x : State) : Tone :=
  let perfect := statusOf w = .complete ∧ (w.partner = none ∨ w.partnerEnd = some .complete)
  match x.ret.tone with
  | .attend on due => .attend on due
  | .silent => if perfect ∧ chirpOn x = true then .chirp (x.ms + 60) else .silent
  | .chirp due => if perfect ∧ chirpOn x = true then .chirp (x.ms + 60) else .chirp due

/-- R111, R112, R115, R123, R127: the word that makes a window FULL after its strobe end completes its frame: the
regulator, the FRAME record, the exception list, the guard in the lowest free entry, the freed entry, and the chirp of a
capture whose frames are all COMPLETE. -/
def Obligations.FrameCompletes : Prop :=
  ∀ (s : State) (i : Nat) (a : Word) (b : BusWord) (w : Window) (f : FireData) (ended : Word) (t : Nat) (v : Volume),
    FallsInWindow s i a b w → w.fire = some f → w.strobeEnd = some (ended, t) →
    (judgedWindow s w (a.toNat - w.base) b).full = true → volumeAt s w.slot = some v →
    let z := judgedWindow s w (a.toNat - w.base) b
    let v1 := regulated s z f (statusOf z) v
    ∃ u, exec .upstreamWrite s = .next u
      ∧ FrameEnded w.slot v1 f.leaf w.side (statusOf z) (frameRecordOf z f (statusOf z) v1 t) s u
      ∧ u.frames = frameGuarded i z (statusOf z) s.account.producer s.frames
      ∧ u.ret.tone = frameTone z s
      ∧ Only (frameParts ++ writeServiceParts) s u

/-- R111, R112: the state once the frame of entry `i` has completed, when its window is FULL and has its strobe end, with
the volume, the account writer, the frame tracker and the tone as the completion leaves them. -/
def frameDone (i : Nat) (x : State) : State :=
  match windowAt x i with
  | none => x
  | some w =>
    match w.fire, w.strobeEnd, volumeAt x w.slot with
    | some f, some (_, t), some v =>
      if w.filling = true ∧ w.full = true then
        let status := statusOf w
        let v1 := regulated x w f status v
        let ended := frameException f.leaf w.side status (afterRecords w.slot x.ms v1 [frameRecordOf w f status v1 t])
        let k := slotOf x.account.producer (accountCapacity x)
        { x with
          volumes := { x.volumes with entries := x.volumes.entries.set w.slot (some ended) }
          account := { x.account with
            producer := x.account.producer + 1, reserved := x.account.reserved - 1
            posted := x.account.posted.filter fun j => decide (j ≠ k)
            readMarks := x.account.readMarks.filter fun j => decide (j ≠ k) }
          frames := frameGuarded i w status x.account.producer x.frames
          ret := { x.ret with tone := frameTone w x } }
      else x
    | _, _, _ => x

/-- R132, R138: the FRAME record of entry `i`, with its ring index, when its frame completes as in `frameDone`. -/
def frameRecords (i : Nat) (x : State) : List (Half × List Byte) :=
  match windowAt x i with
  | none => []
  | some w =>
    match w.fire, w.strobeEnd, volumeAt x w.slot with
    | some f, some (_, t), some v =>
      if w.filling = true ∧ w.full = true then
        let v1 := regulated x w f (statusOf w) v
        [(x.account.producer, accountBytes w.slot v1 x.ms (frameRecordOf w f (statusOf w) v1 t))]
      else []
    | _, _, _ => []

/-- R111: every window that is FULL has completed at its strobe end, in the order of the entries. -/
def framesDone (x : State) : State := frameDone 3 (frameDone 2 (frameDone 1 (frameDone 0 x)))

/-- The FRAME records of those completions, in their order. -/
def framesRecords (x : State) : List (Half × List Byte) :=
  let x1 := frameDone 0 x
  let x2 := frameDone 1 x1
  frameRecords 0 x ++ frameRecords 1 x1 ++ frameRecords 2 x2 ++ frameRecords 3 (frameDone 2 x2)

/-- R113: the frame timeout of a FILLING window expires that long after its strobe end: the frame is LOST, with its
FRAME record, an exception entry, its entry and its guard reservation freed, and no guard. That the command does
nothing before its time (notes/assumptions/5.md), and that a frame whose window is marked CUT is LOST all the same
(notes/assumptions/35.md), are the model's choices. -/
def Obligations.FrameTimeoutLosesFrame : Prop :=
  ∀ (s : State) (i : Nat) (w : Window) (f : FireData) (ended : Word) (t : Nat) (v : Volume),
    windowAt s i = some w → w.filling = true → w.fire = some f → w.strobeEnd = some (ended, t) →
    volumeAt s w.slot = some v → (mapOf s).isSome →
    (reached s.ms (ended + BitVec.ofNat 32 (mechOf s).frameTimeout) = false →
      ∃ u, exec (.frameTimeout i) s = .next u ∧ Only [] s u)
    ∧ (reached s.ms (ended + BitVec.ofNat 32 (mechOf s).frameTimeout) = true →
      ∃ u, exec (.frameTimeout i) s = .next u
        ∧ FrameEnded w.slot v f.leaf w.side .lost (frameRecordOf w f .lost v t) s u
        ∧ u.frames = { s.frames with
            windows := windowEnded i w .lost s.frames.windows, guardReserved := s.frames.guardReserved - 1 }
        ∧ Only [.volumes, .account, .frames, .requests] s u)

/-! ## The rings (Chapters 8, 9 and 10) -/

/-- The consumer index passes, from `c` on, over the longest run of unread slots of a ring of `n` slots that are marked,
`run` of them (R135, R161). -/
def PassesRun (c : Half) (n unread : Nat) (marked : Nat → Prop) (run : Nat) : Prop :=
  run ≤ unread ∧ (∀ j < run, marked (slotOf (c + BitVec.ofNat 16 j) n))
    ∧ (run < unread → ¬ marked (slotOf (c + BitVec.ofNat 16 run) n))

/-- The marks of a ring once slot `k` has been marked and the consumer index has passed `run` slots from `c`. -/
def MarksAfter (c : Half) (n k run : Nat) (before after_ : List Nat) : Prop :=
  ∀ q, q ∈ after_ ↔ (q ∈ before ∨ q = k) ∧ ∀ j < run, q ≠ slotOf (c + BitVec.ofNat 16 j) n

/-- What the service of an upstream read changes besides its reports. -/
def readServiceParts : List Part := [.upstream, .waitCount, .memoryPort, .hostData]

/-- R134, R135, R117, R150: a read of the closing word of an account slot that is unread, posted and unmarked sets its
read mark, releases the guard of its index, and the consumer index passes every marked slot from the oldest; any other
read of it sets nothing. The words return to the host either way. -/
def AccountClosingReadConsumes : Prop :=
  ∀ (s : State) (m : MapSettings) (a : Word) (rest : List Transaction) (d : Nat),
    mapOf s = some m → inService s = true → UpstreamChosen s (.read a 1) rest → 65536 % m.na = 0 →
    accountUnread s ≤ m.na → d < m.na → a.toNat = m.accountBase + 64 * slotOf (s.account.consumer + BitVec.ofNat 16 d) m.na + 60 →
    let index : Half := s.account.consumer + BitVec.ofNat 16 d
    let k := slotOf index m.na
    let counts := d < accountUnread s ∧ k ∈ s.account.posted ∧ k ∉ s.account.readMarks
    (¬ counts → ∃ u, exec .accountClosingRead s = .next u ∧ u.path.hostData = s.path.hostData ++ [[readWord s.memory a]]
      ∧ Only readServiceParts s u)
    ∧ (counts → ∃ u run, exec .accountClosingRead s = .next u ∧ u.path.hostData = s.path.hostData ++ [[readWord s.memory a]]
      ∧ PassesRun s.account.consumer m.na (accountUnread s) (fun q => q ∈ s.account.readMarks ∨ q = k) run
      ∧ MarksAfter s.account.consumer m.na k run s.account.readMarks u.account.readMarks
      ∧ u.account = { s.account with
          consumer := s.account.consumer + BitVec.ofNat 16 run, readMarks := u.account.readMarks }
      ∧ u.frames = { s.frames with guards := s.frames.guards.map fun g => g.filter fun x => decide (x.index ≠ index) }
      ∧ Only ([.account, .frames] ++ readServiceParts) s u)

/-- R161, R159, R160: the same for a slot of the return ring; the slots passed make room for the records of the return
queue, oldest first, and the first that leaves the queue brings an owed RETURN_OVERRUN event into its tail. -/
def ReturnClosingReadConsumes : Prop :=
  ∀ (s : State) (m : MapSettings) (a : Word) (rest : List Transaction) (d : Nat),
    mapOf s = some m → inService s = true → UpstreamChosen s (.read a 1) rest → 65536 % m.nr = 0 →
    returnUnread s ≤ m.nr → d < m.nr → a.toNat = m.returnBase + 16 * slotOf (s.ret.consumer + BitVec.ofNat 16 d) m.nr + 12 →
    ¬ Inside a.toNat m.accountBase (64 * m.na) →
    let k := slotOf (s.ret.consumer + BitVec.ofNat 16 d) m.nr
    let counts := d < returnUnread s ∧ k ∈ s.ret.posted ∧ k ∉ s.ret.readMarks
    (¬ counts → ∃ u, exec .returnClosingRead s = .next u ∧ u.path.hostData = s.path.hostData ++ [[readWord s.memory a]]
      ∧ Only readServiceParts s u)
    ∧ (counts → ∃ u run, exec .returnClosingRead s = .next u ∧ u.path.hostData = s.path.hostData ++ [[readWord s.memory a]]
      ∧ PassesRun s.ret.consumer m.nr (returnUnread s) (fun q => q ∈ s.ret.readMarks ∨ q = k) run
      ∧ u.ret.consumer = s.ret.consumer + BitVec.ofNat 16 run
      ∧ (s.ret.queue = [] → MarksAfter s.ret.consumer m.nr k run s.ret.readMarks u.ret.readMarks
          ∧ u.ret.producer = s.ret.producer ∧ u.ret.posted = s.ret.posted ∧ u.ret.queue = [])
      ∧ (s.ret.queue ≠ [] → m.nr < 65536 →
          let room := m.nr - (returnUnread s - run)
          let owed := s.ret.overrunPending = true ∧ room ≠ 0
          let queue := if owed then s.ret.queue ++ [.event .returnOverrun 0 s.ret.overruns s.ms] else s.ret.queue
          let moved := min queue.length room
          u.ret.queue = queue.drop moved ∧ u.ret.producer = s.ret.producer + BitVec.ofNat 16 moved
            ∧ u.ret.overrunPending = (s.ret.overrunPending && decide (room = 0))
            ∧ ∀ j (h : j < queue.length), j < moved →
                let index : Half := s.ret.producer + BitVec.ofNat 16 j
                Requested u (.returnWrite index) (BitVec.ofNat 32 (m.returnBase + 16 * slotOf index m.nr))
                  (returnBytes queue[j]))
      ∧ u.ret.postedProducer = s.ret.postedProducer ∧ u.ret.overruns = s.ret.overruns
      ∧ Only (returnParts ++ readServiceParts) s u)

/-- R134, R161: reads of the closing words of the two rings. The words returned are kept as a history (the model's
choice, notes/assumptions/34.md). -/
def Obligations.ClosingReadsConsume : Prop := AccountClosingReadConsumes ∧ ReturnClosingReadConsumes

/-- These bytes stand at an address of memory after the step, and every other byte is as before. -/
def HoldsBytes (s u : State) (a : Nat) (data : List Byte) : Prop :=
  (∀ k (h : k < data.length), readByte u.memory (a + k) = data[k])
    ∧ ∀ x, ¬ Inside x a data.length → readByte u.memory x = readByte s.memory x

/-- R133, R151, R159, R166: the service of a write of the controller's own: its bytes stand in memory, the wait count
is 0, the next entry is the head, and its block learns of it: an account or a return slot becomes posted; after a
status write another is placed when the shadow had changed again. The shadow that the next status write carries is
that at the end of the step, and a write that waits for room in the queue keeps what it was created with, the model's
choices (notes/assumptions/10.md). -/
def Obligations.OwnWritesServed : Prop :=
  ∀ (s : State) (e : InternalEntry) (m : MapSettings),
    Memory.wf s.memory → InternalChosen s e → mapOf s = some m → e.addr.toNat % 4 = 0 → e.data.length % 4 = 0 →
    e.data.length ≤ 64 → e.addr.toNat + e.data.length ≤ 4294967296 →
    let served := fun (u : State) =>
      HoldsBytes s u e.addr.toNat e.data ∧ u.path.waitCount = 0
        ∧ (s.path.blocked = [] → ∃ more, waiting u = s.path.internal.tail ++ more)
    (∀ i, e.purpose = .accountWrite i →
      ∃ u, exec .accountWriteServed s = .next u ∧ served u
        ∧ u.account = { s.account with
            posted := mark s.account.posted (slotOf i m.na), postedProducer := i + 1 }
        ∧ Only (.account :: servingParts) s u)
    ∧ (∀ i, e.purpose = .returnWrite i →
      ∃ u, exec .returnWriteServed s = .next u ∧ served u
        ∧ u.ret.posted = mark s.ret.posted (slotOf i m.nr) ∧ u.ret.postedProducer = i + 1
        ∧ u.ret.producer = s.ret.producer ∧ u.ret.readMarks = s.ret.readMarks
        ∧ Only (.returnRing :: servingParts) s u)
    ∧ (e.purpose = .statusWrite →
      ∃ u, exec .statusWriteServed s = .next u ∧ served u
        ∧ u.ret.statusWaiting = s.ret.statusAgain ∧ u.ret.statusAgain = false
        ∧ (s.ret.statusAgain = true → u.ret.statusPlacedAt = s.ms
            ∧ Requested u .statusWrite (BitVec.ofNat 32 m.statusBase) (statusBytes (shadowOf s) s.ms))
        ∧ (s.ret.statusAgain = false → u.ret.statusPlacedAt = s.ret.statusPlacedAt)
        ∧ Only servingParts s u)

/-- R166, R167: the times of the return writer: a status write 1000 ms after the last one placed, in READY, in BARE
and in the LOADING of a warm restart; the 250 ms periods of the ATTEND pattern; the 60 ms of a chirp. That a command
does nothing before its time is the model's choice (notes/assumptions/5.md), as is the shadow a write carries, that at
the end of the step and of its creation (notes/assumptions/10.md). -/
def Obligations.StatusAndTonePeriods : Prop :=
  ∀ s : State,
    (∀ m, mapOf s = some m →
      let due := (s.settings.startup = .ready ∨ s.settings.startup = .bare ∨ s.settings.startup = .loading)
        ∧ s.ret.statusWaiting = false ∧ reached s.ms (s.ret.statusPlacedAt + 1000) = true
      (due → ∃ u, exec .statusPeriod s = .next u ∧ u.ret.statusWaiting = true ∧ u.ret.statusAgain = false
        ∧ u.ret.statusPlacedAt = s.ms
        ∧ Requested u .statusWrite (BitVec.ofNat 32 m.statusBase) (statusBytes (shadowOf s) s.ms) ∧ Only [] s u)
      ∧ (¬ due → ∃ u, exec .statusPeriod s = .next u ∧ u.ret = s.ret ∧ Only [] s u))
    ∧ (∀ on due, s.ret.tone = .attend on due →
      ∃ u, exec .attendTonePeriod s = .next u
        ∧ u.ret.tone = (if reached s.ms due then .attend (!on) (due + 250) else s.ret.tone) ∧ Only [.tone] s u)
    ∧ (∀ due, s.ret.tone = .chirp due →
      ∃ u, exec .chirpEnd s = .next u ∧ u.ret.tone = (if reached s.ms due then .silent else s.ret.tone)
        ∧ Only [.tone] s u)
    ∧ ((∀ on due, s.ret.tone ≠ .attend on due) → ∃ u, exec .attendTonePeriod s = .next u ∧ Only [] s u)
    ∧ ((∀ due, s.ret.tone ≠ .chirp due) → ∃ u, exec .chirpEnd s = .next u ∧ Only [] s u)

/-! ## Fetching and HALT (Chapter 2) -/

/-- The ticket of an index whose 64 bytes stand at an address of memory. -/
def ticketAt (s : State) (i : Half) (a : Nat) : Ticket :=
  { index := i, bytes := (List.range 64).map fun k => readByte s.memory (a + k) }

/-- The state with the head of the internal request queue gone. -/
def headServed (s : State) : State := { s with path := { s.path with internal := s.path.internal.tail } }

/-- R28: a fetch requests as many tickets as its four bounds allow, in index order; without its conditions nothing is
requested. -/
def FetchRequestsTickets : Prop :=
  ∀ (s : State) (m : MapSettings), mapOf s = some m →
    let ahead := (s.tickets.producer - s.tickets.fetchIndex).toNat
    let may := s.tickets.outstanding = 0 ∧ (s.settings.startup = .ready ∨ s.settings.startup = .bare)
      ∧ s.tickets.barrier = false ∧ ahead ≠ 0 ∧ s.tickets.queue.length < 8
    let n := min (min 8 (8 - s.tickets.queue.length)) (min ahead (m.nt - s.tickets.fetchIndex.toNat % m.nt))
    (¬ may → ∃ u, exec .fetch s = .next u ∧ Only [] s u)
    ∧ (may → ∃ u, exec .fetch s = .next u
      ∧ u.tickets = { s.tickets with fetchIndex := s.tickets.fetchIndex + BitVec.ofNat 16 n, outstanding := n }
      ∧ (∀ k < n, let i := s.tickets.fetchIndex + BitVec.ofNat 16 k
          Requested u (.ticketRead i) (BitVec.ofNat 32 (m.ticketBase + 64 * (i.toNat % m.nt))) [])
      ∧ Only [.tickets, .requests] s u)

/-- R29, R31, R33: the arrival of a ticket that does not act at fetch: discarded behind a RESTART, or taken and queued; a
RESTART raises the barrier and sets the fetch index back; a ticket of no known kind, or a HALT with a wrong index,
completes when it is the head. -/
def ArrivalTakesTicket : Prop :=
  ∀ (s : State) (e : InternalEntry) (i : Half), InternalChosen s e → e.purpose = .ticketRead i →
    e.addr.toNat + 64 ≤ 4294967296 →
    let t := ticketAt s i e.addr.toNat
    let left := s.tickets.outstanding - 1
    let taken : TicketUnit := { s.tickets with outstanding := left, taken := i + 1 }
    (s.tickets.discarding = true → ∃ u, exec .ticketArrival s = .next u
      ∧ u.tickets = { s.tickets with outstanding := left, discarding := decide (left ≠ 0) }
      ∧ Only (.tickets :: fetchingParts) s u)
    ∧ (s.tickets.discarding = false → ¬ (ticketKind t = 11 ∧ ticketIndexField t = i) →
      (waitsAtHead (s.tickets.queue ++ [t]) = true →
        (ticketKind t ≠ 15 → ∃ u, exec .ticketArrival s = .next u
          ∧ u.tickets = { taken with queue := s.tickets.queue ++ [t] } ∧ Only (.tickets :: fetchingParts) s u)
        ∧ (ticketKind t = 15 → ∃ u, exec .ticketArrival s = .next u
          ∧ u.tickets = { taken with
              queue := s.tickets.queue ++ [t], fetchIndex := i + 1, barrier := true, discarding := decide (left ≠ 0) }
          ∧ Only (.tickets :: fetchingParts) s u))
      ∧ (s.tickets.queue = [] → (∀ k, kindOf (ticketKind t) ≠ some k) → ∃ u, exec .ticketArrival s = .next u
          ∧ u.tickets = taken ∧ Handed [completionOf t .badKind 255 (ticketKind t) s.ms] (headServed s) u
          ∧ Only (headParts ++ fetchingParts) s u)
      ∧ (s.tickets.queue = [] → ticketKind t = 11 → ∃ u, exec .ticketArrival s = .next u
          ∧ u.tickets = taken ∧ Handed [completionOf t .badField 255 3 s.ms] (headServed s) u
          ∧ Only (headParts ++ fetchingParts) s u))

/-- R28, R29: a fetch, and the arrivals of its tickets. That a ticket which completes by itself at the head does so
within the step that makes it the head is the model's inference (notes/assumptions/26.md). -/
def Obligations.TicketsFetchedAndTaken : Prop := FetchRequestsTickets ∧ ArrivalTakesTicket

/-! ## HALT, STOP and faults (Chapters 2 and 4) -/

/-- R44: a hard stop of both engines has been ordered. -/
def hardStopped (m : MotionUnit) : MotionUnit :=
  { m with
    arm := m.arm.map fun x => { x with ramp := { x.ramp with stopOrdered := true } }
    platen := m.platen.map fun x => { x with ramp := { x.ramp with stopOrdered := true } } }

/-- The completion that ends the turn in flight, when one is in flight. -/
def turnEnds (o : OutcomeCode) (detail : Nat) (s : State) : List ReturnRecord :=
  match s.seq.turn with
  | some t => [.completion (kindNumber t.kind) t.tag o t.slot detail s.ms]
  | none => []

/-- R73, R75: the sequencer has been thrown into HALTED or FAULTED: the engines are stopped hard, the timer stopped, the
attend condition set and the turn in flight gone; the vacuum stays. -/
def SequencerStopped (goal : ArmState) (s u : State) : Prop :=
  u.seq = { s.seq with
      arm := goal, armPhase := .none, platenPhase := .none, timer := none, attend := true, turn := none }
    ∧ u.motion = hardStopped s.motion ∧ u.ret.tone = .attend true (s.ms + 250)

/-- The arm is in a state that a HALT stops (R75). -/
def Moving (s : State) : Prop := s.seq.arm ≠ .idle ∧ s.seq.arm ≠ .halted ∧ s.seq.arm ≠ .faulted

/-- R114: the ARMED windows have been given up with their guard and account reservations. -/
def GivenUp (s u : State) : Prop :=
  let given := fun (w : Option Window) => w.any fun x => !x.filling
  let n := s.frames.windows.countP given
  u.frames = { s.frames with
      windows := s.frames.windows.map fun w => if given w then none else w
      guardReserved := s.frames.guardReserved - n }
    ∧ u.account = { s.account with reserved := s.account.reserved - n }

/-- R95: the LOAD and verifying POLL needs of the fire have been withdrawn. -/
def Withdrawn (u : State) : Prop :=
  u.link.loads = { v := none, r := none } ∧ u.link.polls.v.verify = false ∧ u.link.polls.r.verify = false
    ∧ u.lamps.v.load = .none ∧ u.lamps.r.load = .none

/-- R93, R94: the frame tracker once the strobe has ended at the present time after an exposure, whole or cut. -/
def strobeGiven (exposure : Nat) (isCut : Bool) (s : State) : FrameTracker :=
  { s.frames with windows := s.frames.windows.map fun w => w.map fun x =>
      if x.filling = true ∧ x.strobeEnd = none then
        { x with strobeEnd := some (s.ms, exposure), cut := x.cut || isCut }
      else x }

/-- R93, R94, R111: the state once the strobe has ended in `x`, whole or cut: the windows have their strobe end, and those
that are FULL have completed, in the order of their entries (the model's choice, notes/assumptions/7.md). -/
def strobeOver (exposure : Nat) (isCut : Bool) (x : State) : State :=
  framesDone { x with frames := strobeGiven exposure isCut x }

/-- R93, R94, R111: the strobe has ended, whole or cut, in the step to `u` from a state that stood as `x`: the lines are
lowered, the capture unit is FREE, the windows have their strobe end, and the FRAME records of those that were FULL are
placed. -/
def StrobeEnded (exposure : Nat) (isCut : Bool) (x u : State) : Prop :=
  u.capture = CaptureUnit.fullReset ∧ u.frames = (strobeOver exposure isCut x).frames
    ∧ u.account = (strobeOver exposure isCut x).account ∧ u.volumes = (strobeOver exposure isCut x).volumes
    ∧ ∀ r ∈ framesRecords { x with frames := strobeGiven exposure isCut x },
      ∀ m, mapOf x = some m → Requested u (.accountWrite r.1) (accountAddress m r.1) r.2

/-- Nothing of the frame tracker, the account writer and the volume table has changed. -/
def FramesKept (x u : State) : Prop := u.frames = x.frames ∧ u.account = x.account ∧ u.volumes = x.volumes

/-- R106, Table 6-3: the completion of a HALT on the capture in progress: 0 before the charge, the take and the charge
after it; a strobe whose time had already passed has ended whole. -/
def haltedCapture (s : State) : List ReturnRecord :=
  let ends := fun (c : CaptureRecord) (o : OutcomeCode) (d : Nat) =>
    [ReturnRecord.completion (kindNumber c.kind) c.tag o c.slot d s.ms]
  match s.capture.state with
  | .free => []
  | .holding c => ends c .halted 0
  | .exposing c (.gate _) => ends c .halted 0
  | .exposing c (.load f) => ends c .halted (f.take % 256 + 256 * f.charge)
  | .exposing c (.strobe f raisedAt) =>
    ends c (if f.exposure ≤ (s.ms - raisedAt).toNat then .done else .halted) (f.take % 256 + 256 * f.charge)

/-- R88, R94, R95, R106: a HALT signal has acted on the capture in progress, from a state `x`. -/
def CaptureHalted (x u : State) : Prop :=
  let freed := u.capture = { x.capture with state := .free } ∧ u.ret.tone = x.ret.tone
  let ended := fun (exposure : Nat) (isCut : Bool) =>
    StrobeEnded exposure isCut x u ∧ u.ret.tone = (strobeOver exposure isCut x).ret.tone
  match x.capture.state with
  | .free => u.capture = x.capture ∧ u.ret.tone = x.ret.tone ∧ FramesKept x u
  | .holding _ => freed ∧ FramesKept x u
  | .exposing _ (.gate _) => freed ∧ GivenUp x u ∧ u.volumes = x.volumes
  | .exposing _ (.load _) => freed ∧ GivenUp x u ∧ Withdrawn u ∧ u.volumes = x.volumes
  | .exposing _ (.strobe f raisedAt) =>
    if f.exposure ≤ (x.ms - raisedAt).toNat then ended f.exposure false else ended (x.ms - raisedAt).toNat true

/-- R30 step 1, R75, R88, R94, R95: a HALT signal has reached the sequencer, the engines and the capture unit. -/
def HaltActs (s u : State) : Prop :=
  (Moving s → SequencerStopped .halted s u
      ∧ CaptureHalted { s with ret := { s.ret with tone := .attend true (s.ms + 250) } } u)
    ∧ (¬ Moving s → u.seq = s.seq ∧ u.motion = s.motion ∧ CaptureHalted s u)

/-- The completions of a HALT signal in the order the model hands them over: the turn in flight, the capture, then every
ticket of the fetched queue (R30; the order of the first two is the model's, notes/assumptions/7.md). -/
def haltRecords (s : State) : List ReturnRecord :=
  (if s.seq.arm = .idle ∨ s.seq.arm = .halted ∨ s.seq.arm = .faulted then []
    else turnEnds .halted (armNumber s.seq.arm) s)
  ++ haltedCapture s ++ s.tickets.queue.map fun t => completionOf t .halted 255 0 s.ms

/-- R31: the ticket unit with the fetched queue flushed. -/
def flushedTickets (q : TicketUnit) : TicketUnit :=
  { q with queue := [], barrier := q.barrier && !(q.queue.any fun t => decide (ticketKind t = 15)) }

/-- R30, R32, R75: a HALT that acts at fetch, as its ticket arrives, and a STOP press: the cradle stops, the fetched
queue is flushed, and the HALT completes DONE with the number of tickets flushed. How a press is told from its line,
that HALT and TICKET_ARRIVAL both stand for this arrival, and that a strobe whose time has passed ends whole and DONE,
are the model's (notes/assumptions/15.md, 26.md, 21.md), as is the order of the records (notes/assumptions/7.md). -/
def Obligations.HaltStopsAndFlushes : Prop :=
  ∀ s : State,
    (∀ (c : Instr) (e : InternalEntry) (i : Half), c = .halt ∨ c = .ticketArrival →
      InternalChosen s e → e.purpose = .ticketRead i → e.addr.toNat + 64 ≤ 4294967296 →
      s.tickets.discarding = false →
      let t := ticketAt s i e.addr.toNat
      ticketKind t = 11 → ticketIndexField t = i →
      ∃ u, exec c s = .next u ∧ HaltActs s u
        ∧ u.tickets = { flushedTickets s.tickets with outstanding := s.tickets.outstanding - 1, taken := i + 1 }
        ∧ Handed (haltRecords s ++ [completionOf t .done 255 s.tickets.queue.length s.ms]) (headServed s) u
        ∧ Only (haltParts ++ fetchingParts) s u)
    ∧ ∀ released : Nat,
      let taken := (s.settings.startup = .ready ∨ s.settings.startup = .bare) ∧ 20 ≤ released ∧ 40 ≤ s.stopLine
      (¬ taken → ∃ u, exec (.stopPress released) s = .next u ∧ Only [] s u)
      ∧ (taken → ∃ u, exec (.stopPress released) s = .next u ∧ HaltActs s u
        ∧ u.tickets = flushedTickets s.tickets ∧ u.stopLine = 0 ∧ u.resumeLine = s.resumeLine
        ∧ Handed (.event .stopPressed 0 (armNumber s.seq.arm) s.ms :: haltRecords s) s u
        ∧ Only (.buttons :: haltParts) s u)

/-! ## Moves (Chapter 3) -/

/-- R46: the way from an angle to a target, both 0 to 4095: the difference brought into −2048 to 2047, and its steps. -/
def Way (spr angle target : Nat) (d : Int) (steps : Nat) : Prop :=
  -2048 ≤ d ∧ d ≤ 2047 ∧ (∃ k : Int, (target : Int) - angle = d + 4096 * k)
    ∧ steps = (d.natAbs * spr + 2048) / 4096

/-- R63, R46: in the state `u` an arm move from an angle to a target is under way with a top rung, the last move of
the ARM engine having been reported; the sequencer awaits its end. -/
def ArmOffered (spr angle target top corrections : Nat) (x : State) (q : Sequencer) (u : State) : Prop :=
  ∃ d steps, Way spr angle target d steps ∧ steps ≠ 0
    ∧ u.seq = { q with target := target, corrections := corrections, armPhase := .offered }
    ∧ u.motion = { x.motion with arm := some { positive := decide (0 < d), ramp := newRamp steps top } }

/-- R73: the sequencer has entered FAULTED on a cause, from an arm state that is not IDLE. -/
def Faulted (cause : Nat) (latched : Option (LatchedFault × EventCode × Nat)) (x u : State) : Prop :=
  SequencerStopped .faulted x u ∧ u.volumes = x.volumes
    ∧ match latched with
      | none => Handed (turnEnds .armFault (armNumber x.seq.arm + 256 * cause) x) x u
      | some (f, e, d) =>
        if f ∈ x.ret.latched then Handed (turnEnds .armFault (armNumber x.seq.arm + 256 * cause) x) x u
        else Handed (.event e 0 d x.ms :: turnEnds .armFault (armNumber x.seq.arm + 256 * cause) x)
          (enterLatched f x) u

/-- R80, R167: the tone output once the attend condition has been cleared. -/
def silencedTone : Tone → Tone
  | .silent => .silent
  | .chirp due => .chirp due
  | .attend _ _ => .silent

/-- R42: the motion unit with a move of the ARM engine ended: IDLE, the end kind and the steps taken reported. -/
def armEnded (k : EndKind) (taken : Nat) (m : MotionUnit) : MotionUnit :=
  { m with arm := none, armEnd := some { kind := k, taken := taken } }

/-- R42: the motion unit with a move of the PLATEN engine ended: IDLE, the end kind, the steps taken and the switches of
the last sampling reported. -/
def platenEnded (k : EndKind) (taken : Nat) (sampled : Switches) (m : MotionUnit) : MotionUnit :=
  { m with platen := none, switches := sampled, platenEnd := some { kind := k, taken := taken, switches := sampled } }

/-- R71, R78, R9: a raise has ended at a limit with these switches, from the state `x`: SETTLING, or IDLE in homing, with the unpressed flag of
the ACTIVE volume and the UNPRESSED event. -/
def RaiseEnded (sw : Switches) (x u : State) : Prop :=
  (x.seq.arm = .homing → u.seq = { x.seq with arm := .idle, armPhase := .none, platenPhase := .none })
    ∧ (x.seq.arm ≠ .homing → u.seq = { x.seq with
        arm := .settling, armPhase := .none, platenPhase := .none
        timer := some { kind := .settle, due := x.ms + BitVec.ofNat 32 (mechOf x).settleTime } })
    ∧ u.motion = x.motion
    ∧ (x.volumes.active = none → u.volumes = x.volumes
        ∧ Handed (if sw.contact then [] else [.event .unpressed 0 255 x.ms]) x u)
    ∧ ∀ slot v, x.volumes.active = some slot → volumeAt x slot = some v →
      u.volumes = { x.volumes with entries := x.volumes.entries.set slot (some { v with unpressed := !sw.contact }) }
        ∧ Handed (if sw.contact then [] else [.event .unpressed 0 slot x.ms]) x u

/-- R45, R63, R71: a state raises the platen, from a state `x` whose sequencer stands in it. -/
def RaiseBegins (sw : Switches) (x u : State) : Prop :=
  (x.motion.platen.isSome → u.seq = { x.seq with platenPhase := .owed } ∧ u.motion = x.motion ∧ u.volumes = x.volumes
      ∧ Handed [] x u)
    ∧ (x.motion.platen = none → sw.up = false → sw.contact = false →
      u.seq = { x.seq with platenPhase := .offered } ∧ u.volumes = x.volumes ∧ Handed [] x u
        ∧ u.motion = { x.motion with
            switches := sw, platen := some { down := false, ramp := newRamp (mechOf x).platenMax 7 } })
    ∧ (x.motion.platen = none → sw.up = true ∨ sw.contact = true →
      RaiseEnded sw { x with motion := platenEnded .limit 0 sw x.motion } u)

/-- R65, R68, R70, R78: an arm move has reached its target, from a state `x`. -/
def ArmArrives (sw : Switches) (x u : State) : Prop :=
  (x.seq.arm = .reaching → u.motion = x.motion ∧ Handed [] x u ∧ u.seq = { x.seq with
      arm := .gripping, armPhase := .none, platenPhase := .none, retries := 0, vacuum := true
      timer := some { kind := .grip, due := x.ms + BitVec.ofNat 32 (mechOf x).gripTime } })
    ∧ (x.seq.arm = .sweeping → u.motion = x.motion ∧ Handed [] x u ∧ u.seq = { x.seq with
      arm := .releasing, armPhase := .none, platenPhase := .none, vacuum := false
      timer := some { kind := .release, due := x.ms + BitVec.ofNat 32 (mechOf x).releaseTime } })
    ∧ (x.seq.arm = .returning →
      RaiseBegins sw { x with seq := { x.seq with arm := .raising, armPhase := .none, platenPhase := .none } } u)
    ∧ (x.seq.arm = .homing → RaiseBegins sw { x with seq := { x.seq with homing := .platenRaise, armPhase := .none } } u)

/-- R64: the slip check at the end of an arm move, from a state `x`: reached, one corrective move at rung 0, or FAULTED
with the cause SLIP or NO_POSITION. -/
def SlipChecked (sw : Switches) (x u : State) : Prop :=
  (x.position.fused = none → Faulted 4 none x u)
    ∧ ∀ f, x.position.fused = some f →
      let missed := (mechOf x).slipTolerance < circular f.angle x.seq.target
      let slip := fun (y : State) =>
        Faulted 2 (some (.slip, .slip, x.seq.target % 65536 + 65536 * (f.angle % 65536))) y u
      let steps := moveSteps (mechOf x).spr f.angle x.seq.target
      (¬ missed → ArmArrives sw x u)
      ∧ (missed → x.seq.corrections ≠ 0 → slip x)
      ∧ (missed → x.seq.corrections = 0 → steps = 0 → slip { x with seq := { x.seq with corrections := 1 } })
      ∧ (missed → x.seq.corrections = 0 → steps ≠ 0 → f.angle < 4096 → x.seq.target < 4096 →
        ArmOffered (mechOf x).spr f.angle x.seq.target 0 1 x x.seq u ∧ Handed [] x u)

/-- R63: a state makes its arm move: owed while the ARM engine runs, FAULTED without a position, offered when it has
steps, and otherwise ended at once, with the slip check made on the angle just read. -/
def MoveMade (target top : Nat) (sw : Switches) (x : State) (q : Sequencer) (u : State) : Prop :=
  let q1 : Sequencer := { q with target := target, top := top }
  (x.motion.arm.isSome → u.seq = { q1 with armPhase := .owed } ∧ u.motion = x.motion ∧ u.volumes = x.volumes
      ∧ Handed [] x u)
    ∧ (x.motion.arm = none → x.position.fused = none → Faulted 4 none { x with seq := q1 } u)
    ∧ ∀ f, x.motion.arm = none → x.position.fused = some f → f.angle < 4096 →
      (moveSteps (mechOf x).spr f.angle target ≠ 0 →
        ArmOffered (mechOf x).spr f.angle target top 0 x q1 u ∧ u.volumes = x.volumes ∧ Handed [] x u)
      ∧ (moveSteps (mechOf x).spr f.angle target = 0 →
        SlipChecked sw { x with seq := { q1 with corrections := 0 } } u)

/-- R62, R65, R78: a lowering has ended at its limit, from a state `x`: REACHING, or step 3 of homing. -/
def LowerEnded (sw : Switches) (x u : State) : Prop :=
  (x.seq.arm = .homing →
      MoveMade (mechOf x).park 2 sw x { x.seq with homing := .armToPark, platenPhase := .none } u)
    ∧ ∀ turn, x.seq.arm = .lowering → x.seq.turn = some turn →
      MoveMade (if turn.forward then (mechOf x).pickup else (mechOf x).drop) 7 sw x
        { x.seq with arm := .reaching, armPhase := .none, platenPhase := .none } u

/-- R77, R78, R169: a RESUME press: its event always; in READY a HALTED arm returns to park, owing the move while the
stopped engine runs, and a FAULTED arm begins homing; nothing else moves. How a press is told from its line, and that an engine's
report stays in the state, are the model's (notes/assumptions/15.md, 34.md). -/
def Obligations.ResumePressActs : Prop :=
  ∀ (s : State) (released : Nat) (sw : Switches), (mechOf s).park < 4096 →
    let taken := (s.settings.startup = .ready ∨ s.settings.startup = .bare) ∧ 20 ≤ released ∧ 40 ≤ s.resumeLine
    let event := ReturnRecord.event .resumePressed 0 (armNumber s.seq.arm) s.ms
    let silenced := silencedTone s.ret.tone
    let returning : Sequencer := { s.seq with
      arm := .returning, vacuum := false, attend := false, platenPhase := .none, target := (mechOf s).park, top := 2 }
    let homing : Sequencer := { s.seq with
      arm := .homing, vacuum := false, attend := false, armPhase := .none, platenPhase := .none, homing := .heads
      timer := some { kind := .homing, due := s.ms + 500 } }
    let ready := (∃ h, (s.position.heads.get h).up = true ∧ (s.position.heads.get h).goodCount = 3)
    (¬ taken → ∃ u, exec (.resumePress released sw) s = .next u ∧ Only [] s u)
    ∧ (taken → ∃ u, exec (.resumePress released sw) s = .next u ∧ u.resumeLine = 0 ∧ u.stopLine = s.stopLine
      ∧ Only (.buttons :: turnParts) s u
      ∧ (s.settings.startup = .bare ∨ (s.seq.arm ≠ .halted ∧ s.seq.arm ≠ .faulted) →
        Handed [event] s u ∧ Only (.buttons :: handParts) s u)
      ∧ (s.settings.startup = .ready → s.seq.arm = .halted →
        (s.motion.arm.isSome → Handed [event] s u ∧ u.seq = { returning with armPhase := .owed }
          ∧ u.ret.tone = silenced ∧ u.motion = s.motion)
        ∧ (s.motion.arm = none → ∀ f, s.position.fused = some f → f.angle < 4096 →
          moveSteps (mechOf s).spr f.angle (mechOf s).park ≠ 0 →
          Handed [event] s u ∧ u.ret.tone = silenced
            ∧ ArmOffered (mechOf s).spr f.angle (mechOf s).park 2 0 s returning u)
        ∧ (s.motion.arm = none → s.position.fused = none →
          Handed (event :: turnEnds .armFault (7 + 256 * 4) s) s u ∧ SequencerStopped .faulted
            { s with seq := returning } u)
        ∧ MoveMade (mechOf s).park 2 sw (handReturn event s) { returning with armPhase := .none } u)
      ∧ (s.settings.startup = .ready → s.seq.arm = .faulted →
        (¬ ready → Handed [event] s u ∧ u.ret.tone = silenced ∧ u.seq = homing ∧ u.motion = s.motion)
        ∧ (ready → s.motion.platen.isSome → Handed [event] s u ∧ u.ret.tone = silenced ∧ u.motion = s.motion
          ∧ u.seq = { homing with timer := none, homing := .platenDown, platenPhase := .owed })
        ∧ (ready → s.motion.platen = none → sw.down = false → Handed [event] s u ∧ u.ret.tone = silenced
          ∧ u.seq = { homing with timer := none, homing := .platenDown, platenPhase := .offered }
          ∧ u.motion = { s.motion with
              switches := sw, platen := some { down := true, ramp := newRamp (mechOf s).platenMax 7 } })
        ∧ (ready → s.motion.platen = none → sw.down = true →
          MoveMade (mechOf s).park 2 sw { handReturn event s with motion := platenEnded .limit 0 sw s.motion }
            { homing with timer := none, homing := .armToPark } u)))

/-- R41: the review of a rung after a step, with `left` steps remaining and `spent` at the rung: the new rung and the
count that goes with it. -/
def reviewed (rung top left spent : Nat) : Nat × Nat :=
  if 0 < rung ∧ left ≤ 24 * rung then (rung - 1, 0)
  else if top < rung ∧ 24 ≤ spent then (rung - 1, 0)
  else if 24 ≤ spent ∧ rung < top ∧ 24 * (rung + 1) < left then (rung + 1, 0)
  else (rung, spent)

/-- R41: a ramp once a step has been taken and its rung reviewed with this top rung in force. -/
def steppedRamp (top : Nat) (r : Ramp) : Ramp :=
  let n := reviewed r.rung top (r.requested - (r.taken + 1)) (r.atRung + 1)
  { r with taken := r.taken + 1, rung := n.1, atRung := n.2 }

/-- What a step of an engine changes besides its motion, while the sequencer is in a state that moves. -/
def moveParts : List Part := [.seq, .motion, .volumes, .tone] ++ handParts

/-- R41 to R44, R63, R64: a step of the ARM engine: the rung is reviewed under the top rung of R43, the move ends at its
count or at a hard stop, and its report is acted on, taken without action, or lets an owed move be made. -/
def ArmSteps (sw : Switches) (s : State) : Prop :=
  ∀ m, s.motion.arm = some m →
    let top := if s.position.heads.a.up = false ∨ s.position.heads.b.up = false then min m.ramp.top 3 else m.ramp.top
    let ends := m.ramp.stopOrdered = true ∨ m.ramp.requested ≤ m.ramp.taken + 1
    let kind : EndKind := if m.ramp.stopOrdered then .stopped else .count
    let idle : State := {
      s with motion := armEnded kind (m.ramp.taken + 1) s.motion, seq := { s.seq with armPhase := .none } }
    ∃ u, exec (.moveStep .arm sw) s = .next u
      ∧ (¬ ends → u.motion = { s.motion with arm := some { m with ramp := steppedRamp top m.ramp } } ∧ Only [.motion] s u)
      ∧ (ends → s.seq.armPhase = .none ∨ (s.seq.armPhase = .offered ∧ m.ramp.stopOrdered = true) →
        u.seq = idle.seq ∧ u.motion = idle.motion ∧ Only [.seq, .motion] s u)
      ∧ (ends → Moving s → s.seq.target < 4096 → s.seq.armPhase = .owed →
        MoveMade s.seq.target s.seq.top sw idle idle.seq u ∧ Only moveParts s u)
      ∧ (ends → Moving s → m.ramp.stopOrdered = false → s.seq.armPhase = .offered →
        SlipChecked sw idle u ∧ Only moveParts s u)

/-- R41, R42, R44, R45: a step of the PLATEN engine: the rung is reviewed, or the move ends STOPPED, LIMIT or MAX, in
that order of precedence. -/
def PlatenSteps (sw : Switches) (s : State) : Prop :=
  ∀ m, s.motion.platen = some m →
    let sought := if m.down = true then sw.down = true else sw.up = true ∨ sw.contact = true
    let counted := m.ramp.requested ≤ m.ramp.taken + 1
    let lowers := s.seq.arm = .lowering ∨ (s.seq.arm = .homing ∧ s.seq.homing = .platenDown)
    let idle := fun (k : EndKind) (sampled : Switches) => {
      s with motion := platenEnded k (m.ramp.taken + 1) sampled s.motion, seq := { s.seq with platenPhase := .none } }
    let stopped := idle .stopped s.motion.switches
    let kind : EndKind := if m.down then (if sw.down then .limit else .max)
      else (if sw.up || sw.contact then .limit else .max)
    ∃ u, exec (.moveStep .platen sw) s = .next u
      ∧ (m.ramp.stopOrdered = false → ¬ sought → ¬ counted →
        u.motion = { s.motion with switches := sw, platen := some { m with ramp := steppedRamp m.ramp.top m.ramp } }
          ∧ Only [.motion] s u)
      ∧ (m.ramp.stopOrdered = true → s.seq.platenPhase ≠ .owed →
        u.seq = stopped.seq ∧ u.motion = stopped.motion ∧ Only [.seq, .motion] s u)
      ∧ (m.ramp.stopOrdered = false → sought ∨ counted → s.seq.platenPhase = .none →
        u.motion = (idle kind sw).motion ∧ Only [.motion] s u)
      ∧ (m.ramp.stopOrdered = false → sought → s.seq.platenPhase = .offered → Moving s → Only moveParts s u
        ∧ ((mechOf s).park < 4096 ∧ (mechOf s).pickup < 4096 ∧ (mechOf s).drop < 4096 → lowers →
          LowerEnded sw (idle .limit sw) u)
        ∧ (¬ lowers → RaiseEnded sw (idle .limit sw) u))
      ∧ (m.ramp.stopOrdered = false → ¬ sought → counted → s.seq.platenPhase = .offered → Moving s →
        Faulted 1 (some (.platen, .platen, armNumber s.seq.arm)) (idle .max sw) u ∧ Only moveParts s u)
      ∧ (m.ramp.stopOrdered = true → s.seq.platenPhase = .owed → Moving s → Only moveParts s u
        ∧ (lowers → sw.down = false →
          u.seq = { s.seq with platenPhase := .offered }
            ∧ u.motion = { stopped.motion with
                switches := sw, platen := some { down := true, ramp := newRamp (mechOf s).platenMax 7 } })
        ∧ (lowers → sw.down = true → (mechOf s).park < 4096 ∧ (mechOf s).pickup < 4096 ∧ (mechOf s).drop < 4096 →
          LowerEnded sw { stopped with motion := platenEnded .limit 0 sw stopped.motion } u)
        ∧ (¬ lowers → RaiseBegins sw stopped u))

/-- R41 to R45, R62 to R65, R68, R70, R71, R73: what a step of either engine does, and nothing when it is IDLE. The
model's choices: a fault hands over its event before the ARM_FAULT completion (notes/assumptions/7.md), a step of an IDLE
engine changes nothing (notes/assumptions/5.md), and its report stays in the state (notes/assumptions/34.md). -/
def Obligations.EnginesStep : Prop :=
  ∀ (s : State) (sw : Switches), ArmSteps sw s ∧ PlatenSteps sw s
    ∧ (s.motion.arm = none → ∃ u, exec (.moveStep .arm sw) s = .next u ∧ Only [] s u)
    ∧ (s.motion.platen = none → ∃ u, exec (.moveStep .platen sw) s = .next u ∧ Only [] s u)

/-! ## The timers of a turn (Chapter 4) -/

/-- The sequencer's timer runs for a purpose and has expired. -/
def Expired (k : TimerKind) (s : State) : Prop :=
  ∃ t, s.seq.timer = some t ∧ t.kind = k ∧ reached s.ms t.due = true

/-- The angles of the working settings lie in one turn (R171). -/
def AnglesWithin (s : State) : Prop :=
  (mechOf s).park < 4096 ∧ (mechOf s).pickup < 4096 ∧ (mechOf s).drop < 4096

/-- R66, R67: a grip attempt's timer expires with a reading of the leaf sensor: ONE enters SWEEPING with the vacuum
on; NONE or MULTI waits for another attempt, or, the retries spent, enters RETURNING with the outcome of this reading.
The release wait between attempts ends with the next attempt. That a command does nothing before its time is the
model's choice (notes/assumptions/5.md). -/
def Obligations.GripAttempts : Prop :=
  ∀ (s : State) (leaf multi : Bool) (sw : Switches),
    (s.seq.arm ≠ .gripping ∨ ¬ Expired .grip s → ∃ u, exec (.gripTimer leaf multi sw) s = .next u ∧ Only [] s u)
    ∧ (s.seq.arm ≠ .gripping ∨ ¬ Expired .release s → ∃ u, exec .gripReleaseWait s = .next u ∧ Only [] s u)
    ∧ (s.seq.arm = .gripping → Expired .grip s → AnglesWithin s → ∃ u, exec (.gripTimer leaf multi sw) s = .next u
      ∧ Only moveParts s u
      ∧ (leaf = true → multi = false → ∀ turn, s.seq.turn = some turn →
        MoveMade (if turn.forward then (mechOf s).drop else (mechOf s).pickup) 7 sw s { s.seq with
          arm := .sweeping, timer := none, lowReads := 0, nextLeaf := s.ms, armPhase := .none, platenPhase := .none } u)
      ∧ ((leaf = false ∨ multi = true) → s.seq.retries < (mechOf s).gripRetries → Only [.seq] s u
        ∧ u.seq = { s.seq with
            vacuum := false, retries := s.seq.retries + 1,
            timer := some { kind := .release, due := s.ms + BitVec.ofNat 32 (mechOf s).releaseTime } })
      ∧ ((leaf = false ∨ multi = true) → (mechOf s).gripRetries ≤ s.seq.retries →
        MoveMade (mechOf s).park 7 sw s { s.seq with
          arm := .returning, vacuum := false, timer := none, armPhase := .none, platenPhase := .none,
          outcome := if leaf then .doubleLeaf else .noLeaf } u))
    ∧ (s.seq.arm = .gripping → Expired .release s → ∃ u, exec .gripReleaseWait s = .next u ∧ Only [.seq] s u
      ∧ u.seq = { s.seq with
          vacuum := true, timer := some { kind := .grip, due := s.ms + BitVec.ofNat 32 (mechOf s).gripTime } })

/-- R68: a reading of LEAF in SWEEPING, due once each millisecond: the fifth consecutive reading of no leaf stops the arm
hard, drops the vacuum and enters RETURNING; any other only counts. -/
def SweepReads (leaf : Bool) (sw : Switches) (s : State) : Prop :=
  let due := s.seq.arm = .sweeping ∧ reached s.ms s.seq.nextLeaf = true
  let n := if leaf then 0 else s.seq.lowReads + 1
  let counted : Sequencer := { s.seq with lowReads := n, nextLeaf := s.seq.nextLeaf + 1 }
  ∃ u, exec (.sweepLeafRead leaf sw) s = .next u
    ∧ (¬ due → Only [] s u)
    ∧ (due → n < 5 → u.seq = counted ∧ Only [.seq] s u)
    ∧ (due → 5 ≤ n → AnglesWithin s → Only moveParts s u
      ∧ MoveMade (mechOf s).park 7 sw { s with motion := { s.motion with arm := (hardStopped s.motion).arm } }
          { counted with
            arm := .returning, vacuum := false, outcome := .leafDropped, armPhase := .none, platenPhase := .none } u)

/-- R69: the release time of RELEASING expires: the opening index moves by one leaf, the take becomes 0, and the arm
returns. -/
def ReleaseMoves (sw : Switches) (s : State) : Prop :=
  let due := s.seq.arm = .releasing ∧ Expired .release s
  ∃ u, exec (.releaseTimer sw) s = .next u
    ∧ (¬ due → Only [] s u)
    ∧ ∀ turn v, due → s.seq.turn = some turn → volumeAt s turn.slot = some v → AnglesWithin s →
      let volumes : VolumeTable := { s.volumes with
        entries := s.volumes.entries.set turn.slot
          (some { v with opening := if turn.forward then v.opening + 1 else v.opening - 1, take := 0 }) }
      Only moveParts s u
        ∧ MoveMade (mechOf s).park 7 sw { s with volumes := volumes }
            { s.seq with arm := .returning, timer := none, armPhase := .none, platenPhase := .none } u

/-- R72, R80, R61: the settle time expires: IDLE, and the turn in flight ends by its pending outcome: DONE with the
opening index and the attend condition cleared, handed over to the capture unit for an ADVANCE, or NO_LEAF, DOUBLE_LEAF
or LEAF_DROPPED with the attend condition set. -/
def SettleEnds (s : State) : Prop :=
  let due := s.seq.arm = .settling ∧ Expired .settle s
  let rested : Sequencer := { s.seq with
    arm := .idle, timer := none, armPhase := .none, platenPhase := .none, turn := none }
  ∃ u, exec .settleTimer s = .next u
    ∧ (¬ due → Only [] s u)
    ∧ (due → s.seq.turn = none → u.seq = rested ∧ Only [.seq] s u)
    ∧ ∀ turn v, due → s.seq.turn = some turn → volumeAt s turn.slot = some v →
      let ended := fun (o : OutcomeCode) (d : Nat) =>
        Handed [.completion (kindNumber turn.kind) turn.tag o turn.slot d s.ms] s u ∧ Only ([.seq, .tone] ++ handParts) s u
      let attended := u.seq = { rested with attend := true } ∧ u.ret.tone = .attend true (s.ms + 250)
      (s.seq.outcome = .done → u.seq = { rested with attend := false } ∧ u.ret.tone = silencedTone s.ret.tone)
      ∧ (s.seq.outcome = .done → turn.capture = none → ended .done v.opening)
      ∧ (∀ p, s.seq.outcome = .done → turn.capture = some p → Only [.seq, .tone, .capture] s u
        ∧ u.capture = { s.capture with
            state := .holding { kind := turn.kind, tag := turn.tag, slot := turn.slot, params := p } })
      ∧ (s.seq.outcome = .noLeaf → attended ∧ ended .noLeaf (s.seq.retries + 1))
      ∧ (s.seq.outcome = .doubleLeaf → attended ∧ ended .doubleLeaf (s.seq.retries + 1))
      ∧ (s.seq.outcome = .leafDropped → attended ∧ ended .leafDropped v.opening)

/-- R79: the homing limit expires while homing still waits for the heads: FAULTED with the cause NO_POSITION. -/
def HomingEnds (s : State) : Prop :=
  let due := s.seq.arm = .homing ∧ s.seq.homing = .heads ∧ Expired .homing s
  ∃ u, exec .homingLimit s = .next u ∧ (¬ due → Only [] s u) ∧ (due → Faulted 4 none s u ∧ Only moveParts s u)

/-- R68, R69, R72, R79: the times of SWEEPING, RELEASING, SETTLING and HOMING, and a command of each before its time.
That a command does nothing before its time is the model's choice (notes/assumptions/5.md), and that the acquisition of an
ADVANCE handed over (R104) is a step of its own is the model's inference (notes/assumptions/6.md). -/
def Obligations.TurnTimersAct : Prop :=
  ∀ (s : State) (leaf : Bool) (sw : Switches), SweepReads leaf sw s ∧ ReleaseMoves sw s ∧ SettleEnds s ∧ HomingEnds s

/-! ## The sensor link, the position unit and the lamp unit (Chapters 3 and 5) -/

/-- R48: the request that stands first: LOADs, samples, POLLs, and in each class V before R or A before B. -/
def firstPending (l : SensorLink) : Option Exchange :=
  ((l.loads.v.map (Exchange.load .v)).or (l.loads.r.map (Exchange.load .r))).or
    (((l.samples.a.map (Exchange.sample .a)).or (l.samples.b.map (Exchange.sample .b))).or
      (if l.polls.v.routine || l.polls.v.verify then some (.poll .v)
        else if l.polls.r.routine || l.polls.r.verify then some (.poll .r) else none))

/-- R48, R49: at the end of a step whose requests stand as in `l`, the free link has started the request that stands
first, in READY and in BARE. -/
def LinkServes (l : SensorLink) (s u : State) : Prop :=
  let serves := (s.settings.startup = .ready ∨ s.settings.startup = .bare) ∧ l.exchange = none
  (¬ serves → u.link = l)
    ∧ (serves → firstPending l = none → u.link = l)
    ∧ ∀ x, serves → firstPending l = some x → u.link = { takeRequest x l with exchange := some x }

/-- R51: in READY and in BARE the next round falls due as the counter comes to its time, in a step with no command, and
the round after it follows 1 ms later under the fast condition and 20 ms later otherwise. -/
def RoundsFallDue (s : State) : Prop :=
  s.pending = [] → ∃ u, step s = .next u
    ∧ (¬ Serving s ∨ reached (s.ms + 1) s.position.nextRound = false → u.position = s.position)
    ∧ (Serving s → reached (s.ms + 1) s.position.nextRound = true →
      (Fast s → u.position = { s.position with
        due := s.position.due ++ [s.ms + 1], lastRound := s.ms + 1, nextRound := s.ms + 2 })
      ∧ (¬ Fast s → u.position = { s.position with
        due := s.position.due ++ [s.ms + 1], lastRound := s.ms + 1, nextRound := s.ms + 21 }))

/-- The round times of a state: when the rounds that wait fell due, when the last fell due, and when the next does. -/
def roundTimes (s : State) : List Word × Word × Word := (s.position.due, s.position.lastRound, s.position.nextRound)

/-- R51: as the fast condition begins a round falls due at once, and as it ends the next falls due 20 ms after the last
that fell due; no other command moves a round, but SAMPLE_ROUND and those that start the service or reset the part. A
round that fell due in the same ms and still waits is the round that falls due at once (the model's inference,
notes/assumptions/33.md). -/
def RoundsFollowFastCondition (i : Instr) (s : State) : Prop :=
  (∀ prof1 prof0, i ≠ .restart prof1 prof0) → i ≠ .restartTakeEffect → (∀ r, i ≠ .eepromReadAttempt r) →
    i ≠ .resetnAssert → i ≠ .sampleRound → ∀ u, exec i s = .next u →
    ((Fast s ↔ Fast u) ∨ ¬ Serving u → roundTimes u = roundTimes s)
    ∧ (Serving u → ¬ Fast s → Fast u →
      (s.position.due.getLast? = some s.ms → roundTimes u = (s.position.due, s.position.lastRound, s.ms + 1))
      ∧ (s.position.due.getLast? ≠ some s.ms → roundTimes u = (s.position.due ++ [s.ms], s.ms, s.ms + 1)))
    ∧ (Serving u → Fast s → ¬ Fast u →
      roundTimes u = (s.position.due, s.position.lastRound, s.position.lastRound + 20))

/-- R51, R55, R82: sampling rounds fall due and follow the fast condition; the oldest that waits requests a sample of each
head that has none pending, and is to be checked for a split when it requested both; a routine POLL falls due 100 ms after
the one before it. Before its time, and outside READY and BARE, neither does anything. That a command does nothing before
its time is the model's choice (notes/assumptions/5.md), and so is the step that stands for a millisecond
(notes/assumptions/1.md). -/
def Obligations.RoundsAndPollsFallDue : Prop :=
  ∀ (s : State) (i : Instr) (side : Side),
    let pollDue := Serving s ∧ reached s.ms (s.lamps.get side).pollDue = true
    RoundsFallDue s ∧ RoundsFollowFastCondition i s
    ∧ (¬ Serving s ∨ s.position.due = [] → ∃ u, exec .sampleRound s = .next u ∧ Only [] s u)
    ∧ (∀ time later, Serving s → s.position.due = time :: later →
      let request : SampleRequest := { round := s.position.roundNumber, time := time }
      let both := s.link.samples.a = none ∧ s.link.samples.b = none
      ∃ u, exec .sampleRound s = .next u ∧ Only [.rounds, .nextRound, .link] s u
        ∧ roundTimes u = (later, s.position.lastRound, s.position.nextRound)
        ∧ u.position.roundNumber = s.position.roundNumber + 1
        ∧ (both → u.position.checks =
            s.position.checks ++ [{ round := s.position.roundNumber, angles := { a := none, b := none } }])
        ∧ (¬ both → u.position.checks = s.position.checks)
        ∧ LinkServes { s.link with samples :=
            { a := some (s.link.samples.a.getD request), b := some (s.link.samples.b.getD request) } } s u)
    ∧ (¬ pollDue → ∃ u, exec (.lampPollDue side) s = .next u ∧ Only [] s u)
    ∧ (pollDue → ∃ u, exec (.lampPollDue side) s = .next u ∧ Only [.bars, .link] s u
      ∧ (∀ x, (u.lamps.get x).lasting = { (s.lamps.get x).lasting with
          pollDue := if x = side then (s.lamps.get x).pollDue + 100 else (s.lamps.get x).pollDue })
      ∧ LinkServes { s.link with polls := s.link.polls.set side { s.link.polls.get side with routine := true } } s u)

/-- R52, Table 12-4: why a reply is bad: 1 no reply, 2 error, 3 stale; 0 when it is good. -/
def sampleKind (h : HeadUnit) (w : Half) : Nat :=
  if w = 0xFFFF then 1 else if w.getLsbD 3 then 2 else if h.life = some (w.setWidth 2) then 3 else 0

/-- R52 to R54: a head once a reply has been judged. -/
def judgedHead (h : HeadUnit) (q : SampleRequest) (w : Half) : HeadUnit :=
  let life := if w = 0xFFFF then h.life else some (w.setWidth 2)
  if sampleKind h w = 0 then
    let n := min 3 (h.goodCount + 1)
    let angle := (w >>> 4).toNat
    { good := some { angle := angle, time := q.time }, life := life, badCount := 0, goodCount := n, up := h.up || n == 3,
      warned := if h.up then h.warned || w.getLsbD 2 else if n = 3 then false else h.warned }
  else
    let n := min 255 (h.badCount + 1)
    { h with life := life, badCount := n, goodCount := 0, up := h.up && decide (n < 8) }

/-- R53, R54: the event a judged reply raises; `known` says that the head's fault is already latched. -/
def headEvents (head : Head) (h : HeadUnit) (q : SampleRequest) (w : Half) (known : Bool) (now : Word) :
    List ReturnRecord :=
  let n := judgedHead h q w
  if sampleKind h w = 0 then
    if h.up = true ∧ w.getLsbD 2 = true ∧ h.warned = false then [.event .headWarn (headLetter head) 0 now]
    else if h.up = false ∧ n.up = true then [.event .headUp (headLetter head) 0 now] else []
  else if 8 ≤ n.badCount ∧ (h.up = true ∨ known = false) then
    [.event .headDown (headLetter head) (sampleKind h w) now]
  else []

/-- R53: the latched faults as a bad reply of a head that is then DOWN with 8 bad samples leaves them. -/
def headLatched (head : Head) (h : HeadUnit) (q : SampleRequest) (w : Half) (s : State) : State :=
  if sampleKind h w ≠ 0 ∧ 8 ≤ (judgedHead h q w).badCount ∧ headFault head ∉ s.ret.latched then
    enterLatched (headFault head) s
  else s

/-- R56: the fused angle formed from the heads. -/
def formedFrom (offset : Nat) (heads : PerHead HeadUnit) : Option Fix :=
  if heads.a.up = true then heads.a.good
  else if heads.b.up = true then
    heads.b.good.map fun f => { angle := (f.angle + 4096 - offset) % 4096, time := f.time }
  else none

/-- R55: the check still to be made of the round that placed a request. -/
def checkOf (s : State) (q : SampleRequest) : Option RoundCheck :=
  s.position.checks.find? fun c => decide (c.round = q.round)

/-- R55: a check with the angle of a head's good reply noted. -/
def angleNoted (head : Head) (w : Half) (c : RoundCheck) : RoundCheck :=
  { c with angles := c.angles.set head (some (w >>> 4).toNat) }

/-- R55: the checks still to be made after a reply: its round waits for its other head, or its check has been made or
given up. -/
def ChecksAfter (head : Head) (q : SampleRequest) (w : Half) (s u : State) : Prop :=
  let good := sampleKind (s.position.heads.get head) w = 0
  (checkOf s q = none → u.position.checks = s.position.checks)
    ∧ ∀ c, checkOf s q = some c →
      let angles := (angleNoted head w c).angles
      (good → angles.a = none ∨ angles.b = none → u.position.checks =
        s.position.checks.map fun x => if x.round = q.round then angleNoted head w x else x)
      ∧ (¬ good ∨ (angles.a ≠ none ∧ angles.b ≠ none) → u.position.checks =
        s.position.checks.filter fun x => decide (x.round ≠ q.round))

/-- R55: a reply makes its round a split: both samples of the round are good, both heads UP as they now stand, and A and
B′ too far apart. -/
def SplitRound (head : Head) (q : SampleRequest) (w : Half) (s : State) (heads : PerHead HeadUnit) (a b : Nat) : Prop :=
  ∃ c raw, checkOf s q = some c ∧ sampleKind (s.position.heads.get head) w = 0
    ∧ (angleNoted head w c).angles = { a := some a, b := some raw } ∧ heads.a.up = true ∧ heads.b.up = true
    ∧ b = (raw + 4096 - (mechOf s).bOffset) % 4096 ∧ (mechOf s).splitTolerance < circular a b

/-- R88, R94, R95: what a split that throws the arm from IDLE into FAULTED does to the capture in progress, from a state
`x`. -/
def CaptureLeft (x u : State) : Prop :=
  match x.capture.state with
  | .free => u.capture = x.capture ∧ FramesKept x u
  | .holding _ => u.capture = x.capture ∧ FramesKept x u
  | .exposing c (.gate _) => u.capture = { x.capture with state := .exposing c (.gate none) } ∧ FramesKept x u
  | .exposing _ (.load _) =>
    u.capture = { x.capture with state := .free } ∧ GivenUp x u ∧ Withdrawn u ∧ u.volumes = x.volumes
  | .exposing _ (.strobe f raisedAt) =>
    if f.exposure ≤ (x.ms - raisedAt).toNat then StrobeEnded f.exposure false x u
    else StrobeEnded (x.ms - raisedAt).toNat true x u

/-- R94, R95, R106, Table 6-3: the completion of that capture: ARM_FAULT with the arm state number 11 before the strobe,
and with the take and the charge for a strobe that is cut; DONE for one whose time had already passed. -/
def leftRecords (s : State) : List ReturnRecord :=
  let ends := fun (c : CaptureRecord) (o : OutcomeCode) (d : Nat) =>
    [ReturnRecord.completion (kindNumber c.kind) c.tag o c.slot d s.ms]
  match s.capture.state with
  | .free => []
  | .holding _ => []
  | .exposing _ (.gate _) => []
  | .exposing c (.load _) => ends c .armFault 11
  | .exposing c (.strobe f raisedAt) =>
    ends c (if f.exposure ≤ (s.ms - raisedAt).toNat then .done else .armFault) (f.take % 256 + 256 * f.charge)

/-- R52 to R56, R74, R78: an encoder sample exchange ends: its reply is judged, the fused angle formed, the check of its
round made, a split round enters FAULTED, with its effect on a capture in progress, and a homing that waits for the heads
goes on; a reply to be discarded changes nothing but the link. The model's choices: a stale reply with E set is of the kind
error (notes/assumptions/18.md), a split acts before a homing goes on and hands its records over in this order
(notes/assumptions/7.md), a strobe whose time has passed ends whole (notes/assumptions/21.md), the heads are UP or not
as they stand when the second sample is judged (notes/assumptions/33.md), and HEAD_UP and HEAD_WARN have the detail 0
(notes/assumptions/36.md). -/
def Obligations.EncoderReplyJudged : Prop :=
  ∀ (s : State) (head : Head) (q : SampleRequest) (w : Half) (sw : Switches),
    s.link.exchange = some (.sample head q) →
    let h := s.position.heads.get head
    let heads := s.position.heads.set head (judgedHead h q w)
    let fused := formedFrom (mechOf s).bOffset heads
    let known := decide (headFault head ∈ s.ret.latched)
    let events := headEvents head h q w known s.ms
    let waits := s.seq.arm = .homing ∧ s.seq.homing = .heads ∧ ∃ x, (heads.get x).up = true ∧ (heads.get x).goodCount = 3
    let moved : State := { s with position := { s.position with heads := heads, fused := fused } }
    let begun : Sequencer := { s.seq with timer := none, homing := .platenDown }
    let split := SplitRound head q w s heads
    (s.link.discard = true → ∃ u, exec (.encoderSampleReply w sw) s = .next u ∧ Only [.link] s u
      ∧ LinkServes { s.link with exchange := none, discard := false } s u)
    ∧ (s.link.discard = false → ∃ u, exec (.encoderSampleReply w sw) s = .next u
      ∧ u.position.heads = heads ∧ u.position.fused = fused ∧ ChecksAfter head q w s u
      ∧ ((∀ a b, ¬ split a b) → ¬ waits →
        Handed events (headLatched head h q w s) u ∧ Only (.fused :: sampleParts) s u
        ∧ LinkServes { s.link with exchange := none } s u
        ∧ (h.up = true ∧ (judgedHead h q w).up = false → u.frames = { s.frames with
            windows := s.frames.windows.map fun x => x.map fun y =>
              if y.filling = true ∧ y.strobeEnd = none then
                { y with fire := y.fire.map fun f => { f with singleHead := true } }
              else y })
        ∧ (¬ (h.up = true ∧ (judgedHead h q w).up = false) → u.frames = s.frames))
      ∧ (∀ a b, split a b → events = [] → ¬ waits →
        let event := ReturnRecord.event .split 0 (a % 65536 + 65536 * (b % 65536)) s.ms
        (s.seq.arm = .faulted → u.seq = s.seq ∧ u.motion = s.motion
          ∧ (LatchedFault.split ∈ s.ret.latched → Handed [] s u)
          ∧ (LatchedFault.split ∉ s.ret.latched → Handed [event] (enterLatched .split s) u))
        ∧ (s.seq.arm ≠ .faulted → s.seq.arm ≠ .idle →
          Faulted 3 (some (.split, .split, a % 65536 + 65536 * (b % 65536))) moved u)
        ∧ (s.seq.arm = .idle → SequencerStopped .faulted moved u ∧ CaptureLeft moved u
          ∧ (LatchedFault.split ∈ s.ret.latched → Handed (leftRecords s ++ turnEnds .armFault (256 * 3) s) s u)
          ∧ (LatchedFault.split ∉ s.ret.latched →
            Handed (event :: (leftRecords s ++ turnEnds .armFault (256 * 3) s)) (enterLatched .split s) u)))
      ∧ ((∀ a b, ¬ split a b) → waits →
        (s.motion.platen.isSome → Handed events (headLatched head h q w s) u
          ∧ u.seq = { begun with platenPhase := .owed } ∧ u.motion = s.motion)
        ∧ (s.motion.platen = none → sw.down = false → Handed events (headLatched head h q w s) u
          ∧ u.seq = { begun with platenPhase := .offered }
          ∧ u.motion = { s.motion with
              switches := sw, platen := some { down := true, ramp := newRamp (mechOf s).platenMax 7 } })))

/-! ## Replies of the bars (Chapter 5) -/

/-- R83: the in-word of a bar is answered: neither a no reply nor stale. -/
abbrev LampAnswered (b : Bar) (w : Half) : Prop := w ≠ 0xFFFF ∧ b.life ≠ some ((w >>> 4).setWidth 2)

/-- Table 12-9: the fault field of a lamp in-word. -/
def lampFaultBits (w : Half) : Nat := (w >>> 6).toNat % 4

/-- Table 5-1: the bar state after an answered in-word whose fault field is ok. -/
def thermalStep (m : MechSettings) (temp : Nat) : BarState → BarState
  | .ready => if m.errorTemp ≤ temp then .hot else if m.warnTemp ≤ temp then .warm else .ready
  | .warm => if m.errorTemp ≤ temp then .hot else if temp + 3 ≤ m.warnTemp then .ready else .warm
  | .hot => if temp ≤ m.warnTemp then .warm else .hot
  | .failed k => .failed k

/-- R85: FAILED with a kind, unless the bar is FAILED already. -/
def failedWith (k : FailKind) (b : BarState) : BarState := if isFailed b then b else .failed k

/-- R83 to R85: a bar once an in-word has been judged. -/
def judgedBar (m : MechSettings) (b : Bar) (w : Half) : Bar :=
  if LampAnswered b w then
    { b with
      noReply := 0, life := some ((w >>> 4).setWidth 2), temp := some (w >>> 8).toNat
      state := if lampFaultBits w = 0 then thermalStep m (w >>> 8).toNat b.state
        else failedWith (if lampFaultBits w = 1 then .openString else if lampFaultBits w = 2 then .short
          else .selfOvertemp) b.state }
  else
    { b with
      noReply := min 8 (b.noReply + 1)
      state := if min 8 (b.noReply + 1) = 8 then failedWith .noReply b.state else b.state }

/-- R92: the bar once the echo of its judged in-word has been compared, when the in-word verifies a LOAD. -/
def verifiedBar (b j : Bar) (w : Half) : Bar :=
  if b.load = .verify ∧ isFailed j.state = false ∧ LampAnswered b w then
    if w.toNat % 16 = b.lastCode.getD 0 % 16 then { j with echo := .isMatch }
    else if b.echo = .mismatch then { j with state := .failed .echo }
    else { j with echo := .mismatch }
  else j

/-- R85: the event of a completed exchange of a bar that is FAILED and whose fault is not latched. -/
def failedEvents (side : Side) (n : BarState) (latched : List LatchedFault) (now : Word) : List ReturnRecord :=
  match n with
  | .failed k => if lampFaultOf side ∈ latched then [] else [.event .lampFault (sideNumber side) (failNumber k) now]
  | .ready => []
  | .warm => []
  | .hot => []

/-- R85, R163: a state with the fault of that bar latched, when the bar is FAILED. -/
def failedLatched (side : Side) (n : BarState) (s : State) : State :=
  if isFailed n = true ∧ lampFaultOf side ∉ s.ret.latched then enterLatched (lampFaultOf side) s else s

/-- R84, R85: the events of a completed exchange of a bar: `b` the bar before it, `j` as judged, `n` as it ends. -/
def lampEvents (side : Side) (b j n : Bar) (w : Half) (latched : List LatchedFault) (now : Word) :
    List ReturnRecord :=
    (if LampAnswered b w ∧ lampFaultBits w = 0 ∧ j.state = .hot ∧ (b.state ≠ .hot ∨ LatchedFault.lampHot ∉ latched) then
    [.event .lampHot (sideNumber side) (w >>> 8).toNat now]
  else if LampAnswered b w ∧ lampFaultBits w = 0 ∧ j.state = .warm ∧ b.state ≠ .warm then
    [.event .lampWarm (sideNumber side) (w >>> 8).toNat now]
  else [])
  ++ failedEvents side n.state latched now

/-- R84, R85, R163: a state with the faults latched that the exchange latches. -/
def lampLatched (side : Side) (b j n : Bar) (w : Half) (s : State) : State :=
  failedLatched side n.state
    (if LampAnswered b w ∧ lampFaultBits w = 0 ∧ j.state = .hot ∧ LatchedFault.lampHot ∉ s.ret.latched then
      enterLatched .lampHot s else s)

/-- The records of a completed exchange of a bar, in order, and the latched faults with them: the events, and the
completion of a capture that ends. -/
def LampRecords (side : Side) (b j n : Bar) (w : Half) (ends : List ReturnRecord) (s u : State) : Prop :=
  Handed (lampEvents side b j n w s.ret.latched s.ms ++ ends) (lampLatched side b j n w s) u

/-- R95: the fire of capture `c`, in its load stage, is abandoned by a bar that is FAILED. -/
def LampAbandons (side : Side) (n : Bar) (s : State) (c : CaptureRecord) : Prop :=
  (∃ f, s.capture.state = .exposing c (.load f)) ∧ c.params.sides.get side = true ∧ isFailed n.state = true

/-- The exchange under way is the LOAD of a side. -/
def loadUnderway (u : State) (side : Side) : Bool :=
  match u.link.exchange with
  | some (.load x _) => decide (x = side)
  | some (.sample _ _) | some (.poll _) | none => false

/-- R48, R92: the load phase of a bar at the end of a step that left the link free: a LOAD that was placed is under way
when the link has started it. -/
def phaseNow (phase : LoadPhase) (u : State) (side : Side) : LoadPhase :=
  if phase = .placed ∧ loadUnderway u side = true then .underway else phase

/-- An exchange of a bar has completed: the bar ends as `n` with a load phase, the link's requests stand as `l`, and a
capture that is not abandoned stands as `kept`. -/
def LampEnds (side : Side) (b j n : Bar) (phase : LoadPhase) (w : Half) (l : SensorLink) (kept : CaptureState)
    (s u : State) : Prop :=
  (∀ x, (u.lamps.get x).lasting = if x = side then n.lasting else (s.lamps.get x).lasting)
    ∧ ((∀ c, ¬ LampAbandons side n s c) → LampRecords side b j n w [] s u ∧ LinkServes l s u
        ∧ (∀ x, (u.lamps.get x).load = phaseNow (if x = side then phase else (s.lamps.get x).load) u x)
        ∧ u.capture = { s.capture with state := kept } ∧ Only ([.bars, .capture] ++ handParts) s u)
    ∧ ∀ c, LampAbandons side n s c →
      LampRecords side b j n w [.completion (kindNumber c.kind) c.tag .lampFault c.slot
        (failedSides { s with lamps := s.lamps.set side n } c.params.sides) s.ms] s u
      ∧ u.capture = { s.capture with state := .free } ∧ GivenUp s u ∧ Withdrawn u ∧ u.volumes = s.volumes

/-- R92, R96: the capture with the temperature of the verifying POLL that matched kept with its fire. -/
def withTemp (side : Side) (temp : Nat) : CaptureState → CaptureState
  | .exposing c (.load f) => .exposing c (.load
      { f with sides := f.sides.set side ((f.sides.get side).map fun x => { x with temp := temp }) })
  | .exposing c (.gate d) => .exposing c (.gate d)
  | .exposing c (.strobe f t) => .exposing c (.strobe f t)
  | .holding c => .holding c
  | .free => .free

/-- R81, R83 to R85, R92, R95: a POLL or a LOAD exchange of a bar ends: its in-word is judged, a verifying POLL has its
echo compared, a FAILED bar latches its fault and ends the fire that waits for it; the next requests are placed. An exchange
whose in-word is to be discarded still completes: a FAILED bar latches its fault, and the code of a LOAD is the bar's last
loaded code. -/
def Obligations.LampRepliesJudged : Prop :=
  ∀ (s : State) (side : Side) (w : Half),
    let b := s.lamps.get side
    let j := judgedBar (mechOf s) b w
    let n := verifiedBar b j w
    let verifies := b.load = .verify ∧ isFailed j.state = false
    let free : SensorLink := { s.link with exchange := none }
    let again : SensorLink := { free with polls := s.link.polls.set side { s.link.polls.get side with verify := true } }
    let discarded := fun (ps : List Part) (u : State) =>
      Handed (failedEvents side b.state s.ret.latched s.ms) (failedLatched side b.state s) u
        ∧ LinkServes { free with discard := false } s u ∧ Only (ps ++ handParts) s u
        ∧ (isFailed b.state = false ∨ lampFaultOf side ∈ s.ret.latched → Only ps s u)
        ∧ ∀ x, (u.lamps.get x).load = phaseNow (s.lamps.get x).load u x
    (s.link.exchange = some (.poll side) →
      (s.link.discard = true → ∃ u, exec (.lampPollReply w) s = .next u ∧ discarded [.link] u)
      ∧ (s.link.discard = false → ∃ u, exec (.lampPollReply w) s = .next u
        ∧ (¬ verifies → LampEnds side b j n b.load w free s.capture.state s u)
        ∧ (verifies → ¬ LampAnswered b w → LampEnds side b j n .verify w again s.capture.state s u)
        ∧ (verifies → LampAnswered b w → n.echo = .isMatch →
          LampEnds side b j n .loaded w free (withTemp side (w >>> 8).toNat s.capture.state) s u)
        ∧ (verifies → LampAnswered b w → n.echo = .mismatch → isFailed n.state = false →
          LampEnds side b j n .placed w { free with loads := s.link.loads.set side (some (b.lastCode.getD 0)) }
            s.capture.state s u)
        ∧ (verifies → LampAnswered b w → isFailed n.state = true →
          LampEnds side b j n .verify w free s.capture.state s u)))
    ∧ ∀ code, s.link.exchange = some (.load side code) →
      let k : Bar := { j with lastCode := some code }
      (s.link.discard = true → ∃ u, exec (.lampLoadReply w) s = .next u ∧ discarded [.bars, .link] u
        ∧ ∀ x, (u.lamps.get x).lasting =
            if x = side then { b.lasting with lastCode := some code } else (s.lamps.get x).lasting)
      ∧ (s.link.discard = false → ∃ u, exec (.lampLoadReply w) s = .next u
        ∧ (b.load = .underway → LampEnds side b j k .verify w again s.capture.state s u)
        ∧ (b.load ≠ .underway → LampEnds side b j k b.load w free s.capture.state s u))

/-! ## The gate, the charge and the strobe of a fire (Chapters 5 and 6) -/

/-- R88, R90, R106, R114: the fire of capture `c` is refused with nothing charged, from the state `x`. -/
def FireRefused (c : CaptureRecord) (o : OutcomeCode) (detail : Nat) (x u : State) : Prop :=
  u.capture = { x.capture with state := .free } ∧ GivenUp x u ∧ u.volumes = x.volumes ∧ u.seq = x.seq
    ∧ Handed [.completion (kindNumber c.kind) c.tag o c.slot detail x.ms] x u

/-- Nothing but the capture's stage has changed, from the state `x`. -/
def FireWaits (c : CaptureRecord) (due : Option Word) (x u : State) : Prop :=
  u.capture = { x.capture with state := .exposing c (.gate due) } ∧ u.frames = x.frames ∧ u.account = x.account
    ∧ u.volumes = x.volumes ∧ u.seq = x.seq ∧ Handed [] x u

/-- R86: D_max_eff of a side's bar. -/
def boundOf (x : State) (side : Side) : Nat :=
  if (x.lamps.get side).state = .warm then (mechOf x).dMax / 2 else (mechOf x).dMax

/-- R89: the clamped code of a side. -/
def clampOf (x : State) (v : Volume) (side : Side) : Nat :=
  let d := v.drive.get side
  if d < (mechOf x).dMin then (mechOf x).dMin else if boundOf x side < d then boundOf x side else d

/-- R90: the dose left is less than the clamped codes for the exposure time. -/
def doseShort (x : State) (v : Volume) (sides : PerSide Bool) : Bool :=
  decide (v.allowance - v.doseUsed < overSides sides (clampOf x v) * v.exposure)

/-- R90: the final code of a side. -/
def finalOf (x : State) (v : Volume) (sides : PerSide Bool) (side : Side) : Nat :=
  if doseShort x v sides then min (clampOf x v side) (capOf v sides) else clampOf x v side

/-- R89, R90, R96: what the fire keeps of a side of the capture. -/
def sideKept (x : State) (v : Volume) (sides : PerSide Bool) (side : Side) : Option SideFire :=
  if sides.get side then
    some {
      code := finalOf x v sides side, bound := boundOf x side, temp := 0
      derated := decide (boundOf x side < v.drive.get side ∧ boundOf x side < (mechOf x).dMax)
      doseLimited := doseShort x v sides }
  else none

/-- R89 to R92: the gate of the fire has passed, from the state `x`: it is refused at the dose cap, or charged, with its
codes handed to the bars. -/
def FireCharged (c : CaptureRecord) (x u : State) : Prop :=
  ∀ v, volumeAt x c.slot = some v →
    let sides := c.params.sides
    let refused := doseShort x v sides = true ∧ capOf v sides < (mechOf x).dMin
    let charge := overSides sides (finalOf x v sides) * v.exposure
    let take := min 255 (v.take + 1)
    (refused → FireRefused c .allowance (capOf v sides) x u)
    ∧ (¬ refused →
      u.volumes = { x.volumes with entries := x.volumes.entries.set c.slot (some { v with
          doseUsed := v.doseUsed + charge, take := take, captureCount := min 65535 (v.captureCount + 1) }) }
      ∧ u.capture = { x.capture with state := .exposing c (.load {
          exposure := v.exposure, charge := charge, take := take, opening := v.opening
          sides := { v := sideKept x v sides .v, r := sideKept x v sides .r } }) }
      ∧ u.frames = x.frames ∧ u.account = x.account ∧ u.seq = x.seq ∧ Handed [] x u
      ∧ (∀ side, (u.lamps.get side).lasting =
          if sides.get side then { (x.lamps.get side).lasting with echo := .none } else (x.lamps.get side).lasting)
      ∧ (∀ side, let phase : LoadPhase := if sides.get side then .placed else .none
          (u.lamps.get side).load = if x.link.exchange = none then phaseNow phase u side else phase)
      ∧ LinkServes { x.link with
          loads := {
            v := if sides.v then some (finalOf x v sides .v) else none
            r := if sides.r then some (finalOf x v sides .r) else none }
          polls := {
            v := { x.link.polls.v with verify := false }
            r := { x.link.polls.r with verify := false } } } x u)

/-- R88: the park condition holds. -/
def ParkHolds (x : State) : Prop :=
  ∃ f, x.position.fused = some f ∧ (x.ms - f.time).toNat ≤ 20 ∧ circular f.angle (mechOf x).park ≤ (mechOf x).parkWindow

/-- R88, R95: the detail of a NO_POSITION outcome: no position, a fused angle that is not fresh, one outside the park
window. -/
def ParkFails (x : State) (detail : Nat) : Prop :=
  (detail = 1 ∧ x.position.fused = none)
    ∨ ∃ f, x.position.fused = some f
      ∧ ((detail = 2 ∧ 20 < (x.ms - f.time).toNat)
        ∨ (detail = 3 ∧ (x.ms - f.time).toNat ≤ 20 ∧ (mechOf x).parkWindow < circular f.angle (mechOf x).park))

/-- R88: the gate of the fire of capture `c` is examined from the state `x`, with the end of its park wait: the checks in
their order, the first that applies decides. -/
def GateActs (c : CaptureRecord) (wait : Option Word) (x u : State) : Prop :=
  let sides := c.params.sides
  let stopped := x.seq.arm = .halted ∨ x.seq.arm = .faulted
  let lost := x.position.heads.a.up = false ∧ x.position.heads.b.up = false
  let failed := sidesIn isFailed sides x
  let hot := sidesIn (fun b => decide (b = .hot)) sides x
  (stopped → FireRefused c .armFault (armNumber x.seq.arm) x u)
    ∧ (¬ stopped → lost → FireRefused c .noPosition 1 x u)
    ∧ (¬ stopped → ¬ lost → failed ≠ 0 → FireRefused c .lampFault failed x u)
    ∧ (¬ stopped → ¬ lost → failed = 0 → hot ≠ 0 → FireRefused c .lampHot hot x u)
    ∧ (¬ stopped → ¬ lost → failed = 0 → hot = 0 →
      (x.seq.arm ≠ .idle → FireWaits c none x u)
      ∧ (x.seq.arm = .idle → ParkHolds x → FireCharged c x u)
      ∧ (x.seq.arm = .idle → ¬ ParkHolds x → FireWaits c (some (wait.getD (x.ms + 100))) x u))

/-- R107, R108, R120: a window as it is armed, for a side of a capture of a slot. -/
def freshWindow (m : MechSettings) (slot : Nat) (p : CaptureParams) (side : Side) (partner : Option Nat) : Window :=
  let patch := if side = .v then m.patchV else m.patchR
  { filling := false, side := side, slot := slot, base := p.buffer.get side, stride := p.stride, width := p.width
    lines := p.lines, partner := partner, partnerEnd := none, fire := none, strobeEnd := none, fill := 0
    crc := 0xFFFFFFFF, patchSum := 0, clips := 0, disordered := false, cut := false, full := false, patch := patch
    patchValid := decide (patch.x0 + patch.pw ≤ p.width ∧ patch.y0 + patch.ph ≤ p.lines) }

/-- The lowest-numbered free entry of a table, the entry `but` left aside. -/
def LowestFree (ws : List (Option Window)) (but : Option Nat) (i : Nat) : Prop :=
  ws[i]? = some none ∧ but ≠ some i ∧ ∀ k, k < i → ws[k]? = some none → but = some k

/-- R105, R108: the armed window table with the windows of a capture placed in its lowest free entries, side V first,
each the partner of the other. -/
def ArmedIn (m : MechSettings) (c : CaptureRecord) (ws after : List (Option Window)) : Prop :=
  let p := c.params
  let w := fun (side : Side) (partner : Option Nat) => some (freshWindow m c.slot p side partner)
  (∃ i j, p.sides = { v := true, r := true } ∧ LowestFree ws none i ∧ LowestFree ws (some i) j
      ∧ after = (ws.set i (w .v (some j))).set j (w .r (some i)))
    ∨ (∃ i, p.sides = { v := true, r := false } ∧ LowestFree ws none i ∧ after = ws.set i (w .v none))
    ∨ ∃ i, p.sides = { v := false, r := true } ∧ LowestFree ws none i ∧ after = ws.set i (w .r none)

/-- R105, R88, R131: a HOLDING capture tries to acquire. With room in all three pools it takes its windows and
reservations and enters the gate; refused account slots latch ACCOUNT_FULL, whatever room the frame tracker has; an attempt
that fails only for want of windows or guards changes nothing. -/
def Acquires (s : State) : Prop :=
  ∃ u, exec .captureAcquisition s = .next u
    ∧ ((∀ c, s.capture.state ≠ .holding c) → Only [] s u)
    ∧ ∀ c, s.capture.state = .holding c →
      let k := overSides c.params.sides (fun _ => 1)
      let windows := s.frames.windows.countP fun w => w.isNone
      let guards := s.frames.guards.countP fun g => g.isSome
      let pools := k ≤ windows ∧ guards + s.frames.guardReserved + k ≤ 8
      let room := accountCapacity s - (s.account.producer - s.account.consumer).toNat - s.account.reserved
      (k ≤ room → ¬ pools → Only [] s u)
      ∧ (room < k → Only handParts s u
        ∧ (LatchedFault.accountFull ∈ s.ret.latched → Handed [] s u)
        ∧ (LatchedFault.accountFull ∉ s.ret.latched →
          Handed [.event .accountFull 0 (k % 65536 + 65536 * (room % 65536)) s.ms] (enterLatched .accountFull s) u))
      ∧ ∀ after, pools → k ≤ room → ArmedIn (mechOf s) c s.frames.windows after →
        GateActs c none { s with
          capture := { s.capture with state := .exposing c (.gate none) }
          frames := { s.frames with windows := after, guardReserved := s.frames.guardReserved + k }
          account := { s.account with reserved := s.account.reserved + k } } u

/-- R88: the gate of a waiting fire is examined again; no other capture state is touched. -/
def GateExamined (s : State) : Prop :=
  ∃ u, exec .fireGate s = .next u
    ∧ ((∀ c d, s.capture.state ≠ .exposing c (.gate d)) → Only [] s u)
    ∧ ∀ c d, s.capture.state = .exposing c (.gate d) → GateActs c d s u

/-- R88: the park wait of a waiting fire expires, the arm IDLE: refused NO_POSITION while the park condition fails (a
wait that finds it holding has passed the gate, notes/assumptions/22.md). -/
def ParkWaitEnds (s : State) : Prop :=
  let expired := fun (c : CaptureRecord) (due : Word) =>
    s.capture.state = .exposing c (.gate (some due)) ∧ reached s.ms due = true ∧ s.seq.arm = .idle
  ∃ u, exec .parkWaitExpiry s = .next u
    ∧ ((∀ c due, ¬ expired c due) → Only [] s u)
    ∧ ∀ c due, expired c due →
      (∀ d, ParkFails s d → FireRefused c .noPosition d s u) ∧ (ParkHolds s → GateActs c (some due) s u)

/-- R88 to R92, R105, R107, R108, R131: the acquisition of a capture, the gate of its fire and the charge. That
acquisition is a step of its own is the model's inference (notes/assumptions/6.md), and that a command with no such capture,
or before the end of the park wait, changes nothing is its choice (notes/assumptions/5.md). -/
def Obligations.CapturesAcquireAndCharge : Prop := ∀ s : State, Acquires s ∧ GateExamined s ∧ ParkWaitEnds s

/-- R95, R114: the charged fire of capture `c` is abandoned from the state `s`: its windows are given up and its LOAD
and POLL needs withdrawn. -/
def FireAbandoned (c : CaptureRecord) (o : OutcomeCode) (detail : Nat) (s u : State) : Prop :=
  FireRefused c o detail s u ∧ Withdrawn u

/-- R92: every bar of the capture is loaded. -/
def BarsLoaded (sides : PerSide Bool) (s : State) : Prop :=
  ∀ side, sides.get side = true → (s.lamps.get side).load = .loaded

/-- R93, R95, R96, R108: the bars loaded, the final park check raises the strobe and trigger lines of the capture's sides
and its windows enter FILLING, or the fire is abandoned. -/
def StrobeRaises (s : State) : Prop :=
  let single := !s.position.heads.a.up || !s.position.heads.b.up
  let data := fun (f : FireRecord) (side : Side) => (f.sides.get side).map fun x => ({
    leaf := if side = .v then f.opening else f.opening + 1
    take := f.take, code := x.code, derated := x.derated, doseLimited := x.doseLimited, temp := x.temp
    singleHead := single } : FireData)
  ∃ u, exec .strobeRaise s = .next u
    ∧ ((∀ c f, s.capture.state = .exposing c (.load f) → ¬ BarsLoaded c.params.sides s) → Only [] s u)
    ∧ ∀ c f, s.capture.state = .exposing c (.load f) → BarsLoaded c.params.sides s →
      (s.seq.arm = .idle → ParkHolds s → Only [.capture, .frames] s u
        ∧ u.capture = {
            state := .exposing c (.strobe f s.ms), strobe := c.params.sides, trig := c.params.sides }
        ∧ u.frames = { s.frames with windows := s.frames.windows.map fun w => w.map fun x =>
            if x.filling = true then x else { x with filling := true, fire := data f x.side } })
      ∧ (s.seq.arm ≠ .idle → FireAbandoned c .armFault (armNumber s.seq.arm) s u)
      ∧ ∀ d, s.seq.arm = .idle → ParkFails s d → FireAbandoned c .noPosition d s u

/-- R93, R106: once the exposure time has elapsed the lines are lowered and the capture completes DONE. -/
def StrobeEnds (s : State) : Prop :=
  let ended := fun (f : FireRecord) (raisedAt : Word) => f.exposure ≤ (s.ms - raisedAt).toNat
  ∃ u, exec .strobeEnd s = .next u
    ∧ ((∀ c f t, s.capture.state = .exposing c (.strobe f t) → ¬ ended f t) → Only [] s u)
    ∧ ∀ c f t, s.capture.state = .exposing c (.strobe f t) → ended f t →
      StrobeEnded f.exposure false s u ∧ u.ret.tone = (strobeOver f.exposure false s).ret.tone ∧ u.seq = s.seq
        ∧ Handed [.completion (kindNumber c.kind) c.tag .done c.slot (f.take % 256 + 256 * f.charge) s.ms] s u

/-- R94, Table 5-3: a raised strobe is cut when the arm has left IDLE or the park condition fails; when its time has
already passed it has ended whole. -/
def StrobeCuts (s : State) : Prop :=
  let sound := s.seq.arm = .idle ∧ ParkHolds s
  ∃ u, exec .strobeCut s = .next u
    ∧ ((∀ c f t, s.capture.state ≠ .exposing c (.strobe f t)) ∨ sound → Only [] s u)
    ∧ ∀ c f t, s.capture.state = .exposing c (.strobe f t) → ¬ sound →
      let elapsed := (s.ms - t).toNat
      let detail := f.take % 256 + 256 * f.charge
      let cause := if s.seq.arm = .idle then OutcomeCode.noPosition else .armFault
      u.seq = s.seq
      ∧ (f.exposure ≤ elapsed → StrobeEnded f.exposure false s u
        ∧ u.ret.tone = (strobeOver f.exposure false s).ret.tone
        ∧ Handed [.completion (kindNumber c.kind) c.tag .done c.slot detail s.ms] s u)
      ∧ (elapsed < f.exposure → StrobeEnded elapsed true s u
        ∧ u.ret.tone = (strobeOver elapsed true s).ret.tone
        ∧ Handed [.completion (kindNumber c.kind) c.tag cause c.slot detail s.ms] s u)

/-- R93 to R96, R106, R108, R111: the raise of a strobe, its natural end and its cut. The model's choices: a strobe whose
time has passed ends whole when a cut reaches it (notes/assumptions/21.md), windows complete in the order of their entries
(notes/assumptions/7.md), and a command before its time or out of its occasion changes nothing (notes/assumptions/5.md). -/
def Obligations.StrobesRaiseAndEnd : Prop := ∀ s : State, StrobeRaises s ∧ StrobeEnds s ∧ StrobeCuts s

/-! ## Start-up and settings (Chapter 11) -/

/-- R171: the bytes of a section whose stored CRC-16 matches. -/
def WholeSection (n : Nat) (bs : List Byte) : Prop :=
  bs.length = n ∧ crc16 (bs.take (n - 2)) = BitVec.ofNat 16 (256 * byteAt bs (n - 2) + byteAt bs (n - 1))

/-- R155, Table 9-6: the default map, with the chirp option off. -/
def mapOfBare : MapSettings :=
  { ticketBase := 0x00100000, postWord := 0x000FFFF0, returnBase := 0x00100400, accountBase := 0x00100800
    statusBase := 0x000FFF80, nt := 16, nr := 32, na := 64, chirp := false }

/-- Table 11-2: the candidate of a loading that found these sections good. -/
def loadedFrom (profile : Nat) (map : Option MapSettings) (mech : Option MechSettings) : Candidate :=
  { settings := {
      map := map.getD mapOfBare, mapOrigin := if map.isSome then .eeprom else .defaultMap
      mech := mech.getD (profileDefaults profile), mechOrigin := if mech.isSome then .eeprom else .profileDefaults }
    profile := profile, mapBad := map.isNone, mechBad := mech.isNone }

/-- R173, Table 11-2: LOADING after a full reset has ended with the good sections: the working settings and the state
reached, the faults latched, one STATE event, homing in READY, and the sampling rounds, the POLLs and the comparisons of
the profile pins due. -/
def LoadingEnded (map : Option MapSettings) (mech : Option MechSettings) (s u : State) : Prop :=
  let startup : Startup := if map.isSome then .ready else .bare
  let latched := (if map.isNone then [LatchedFault.settingsMap] else [])
    ++ if mech.isNone then [LatchedFault.settingsMech] else []
  u.settings = { s.settings with
      startup := startup, loading := none, working := some (loadedFrom s.settings.profile map mech).settings
      profileDue := s.ms + 100 }
    ∧ u.seq = (if map.isSome then { s.seq with
        arm := .homing, vacuum := false, armPhase := .none, platenPhase := .none, homing := .heads
        timer := some { kind := .homing, due := s.ms + 500 } } else s.seq)
    ∧ Handed [.event .state 0 (startupNumber startup + 256 * causeNumber s.settings.cause) s.ms]
        (latched.foldl (fun x f => enterLatched f x) { s with settings := u.settings }) u
    ∧ (∀ side, (u.lamps.get side).pollDue = s.ms) ∧ u.stopLine = 0 ∧ u.resumeLine = 0
    ∧ (Fast u → u.position = { s.position with due := [s.ms], lastRound := s.ms, nextRound := s.ms + 1, checks := [] })
    ∧ (¬ Fast u → u.position =
        { s.position with due := [s.ms], lastRound := s.ms, nextRound := s.ms + 20, checks := [] })
    ∧ u.motion = s.motion ∧ u.capture = s.capture ∧ u.volumes = s.volumes ∧ u.tickets = s.tickets

/-- R171 to R173, R180: a read attempt of LOADING completes, four attempts at most to a section: the next attempt, the
next section, the end of LOADING after a full reset, or the candidate of a RESTART. -/
def AttemptActs (reply : Option (List Byte)) (s : State) : Prop :=
  let attempting := fun (l : Loading) =>
    s.settings.loading = some l ∧ s.settings.startup = .loading ∧ l.retryAt = none
  let n := fun (l : Loading) => match l.reading with
    | .mapSection => 64
    | .mechSection => 192
  let next := fun (map : Option MapSettings) =>
    { s.settings with
      loading := some { reading := .mechSection, failed := 0, retryAt := none, map := map }
      i2c := s.settings.i2c ++ [.read 0x56 64 192] }
  let ended := fun (map : Option MapSettings) (mech : Option MechSettings) (u : State) =>
    (s.settings.restart = none → s.seq.arm = .faulted → LoadingEnded map mech s u ∧ Only loadingParts s u)
    ∧ ∀ r, s.settings.restart = some r → Only [.settings] s u ∧ u.settings = { s.settings with
        loading := none, restart := some { r with candidate := some (loadedFrom r.profile map mech) } }
  ∃ u, exec (.eepromReadAttempt reply) s = .next u
    ∧ ((∀ l, ¬ attempting l) → Only [] s u)
    ∧ ∀ l, attempting l →
      ((∀ bs, reply = some bs → ¬ WholeSection (n l) bs) → l.failed < 3 → Only [.settings] s u
        ∧ u.settings = { s.settings with
            loading := some { l with failed := l.failed + 1, retryAt := some (s.ms + 10) } })
      ∧ ((∀ bs, reply = some bs → ¬ WholeSection (n l) bs) → 3 ≤ l.failed →
        (l.reading = .mapSection → Only [.settings] s u ∧ u.settings = next none)
        ∧ (l.reading = .mechSection → ended l.map none u))
      ∧ ∀ bs, reply = some bs → WholeSection (n l) bs →
        (l.reading = .mapSection → Only [.settings] s u
          ∧ u.settings = next (if mapContentsPass (mapFields bs) then some (mapFields bs) else none))
        ∧ (l.reading = .mechSection →
          ended l.map (if mechContentsPass (mechFields bs) then some (mechFields bs) else none) u)

/-- R172: the wait after a failed attempt ends when its time has come, and the section is read again. -/
def RetryWaitEnds (s : State) : Prop :=
  let due := fun (l : Loading) (t : Word) =>
    s.settings.loading = some l ∧ l.retryAt = some t ∧ reached s.ms t = true
  ∃ u, exec .eepromRetryWait s = .next u
    ∧ ((∀ l t, ¬ due l t) → Only [] s u)
    ∧ ∀ l t, due l t → Only [.settings] s u
      ∧ u.settings = { s.settings with
          loading := some { l with retryAt := none }
          i2c := s.settings.i2c ++ [if l.reading = .mapSection then .read 0x56 0 64 else .read 0x56 64 192] }

/-- R171 to R175: RESETN's release, the end of POWER_SETTLING with the profile pins sampled, the read attempts of
LOADING and the waits between them; each before its time does nothing. The model's choices: the operand that tells the
cause (notes/assumptions/19.md), the replies of the EEPROM as operands (notes/assumptions/14.md), the first comparison
of the profile pins (notes/assumptions/20.md), that a command does nothing out of its time (notes/assumptions/5.md), and
that the transfers on the I2C link are kept as a history (notes/assumptions/34.md). -/
def Obligations.StartUpReachesService : Prop :=
  ∀ (s : State) (powerOn : Bool) (prof1 prof0 : Level) (reply : Option (List Byte)),
    let settled := s.settings.startup = .powerSettling ∧ reached s.ms s.settings.settleUntil = true
    (s.settings.startup ≠ .resetHeld → ∃ u, exec (.resetnRelease powerOn) s = .next u ∧ Only [] s u)
    ∧ (s.settings.startup = .resetHeld → ∃ u, exec (.resetnRelease powerOn) s = .next u ∧ Only [.settings, .ms] s u
      ∧ u.ms = 0 ∧ u.settings = { s.settings with
          startup := .powerSettling, settleUntil := 20, cause := if powerOn then .powerOn else .resetn })
    ∧ (¬ settled → ∃ u, exec (.powerSettlingEnd prof1 prof0) s = .next u ∧ Only [] s u)
    ∧ (settled → ∃ u, exec (.powerSettlingEnd prof1 prof0) s = .next u ∧ Only [.settings] s u
      ∧ u.settings = { s.settings with
          startup := .loading, profile := 3 * levelNumber prof1 + levelNumber prof0
          loading := some { reading := .mapSection, failed := 0, retryAt := none, map := none }
          i2c := s.settings.i2c ++ [.read 0x56 0 64] })
    ∧ AttemptActs reply s ∧ RetryWaitEnds s

/-- R176: a comparison of the profile pins, due every 100 ms in READY and in BARE: a difference sets the mechanism lock
and latches PROFILE_CHANGED with the pins as read. -/
def ProfileCompared (p : Nat) (s u : State) : Prop :=
  let due := (s.settings.startup = .ready ∨ s.settings.startup = .bare) ∧ reached s.ms s.settings.profileDue = true
  let next := { s.settings with profileDue := s.settings.profileDue + 100 }
  (¬ due → Only [] s u)
    ∧ (due → p = s.settings.profile → u.settings = next ∧ Only [.settings] s u)
    ∧ (due → p ≠ s.settings.profile → u.settings = { next with lock := true } ∧ Only (.settings :: handParts) s u
      ∧ (LatchedFault.profileChanged ∈ s.ret.latched → Handed [] { s with settings := u.settings } u)
      ∧ (LatchedFault.profileChanged ∉ s.ret.latched → Handed [.event .profileChanged 0 p s.ms]
          (enterLatched .profileChanged { s with settings := u.settings }) u))

/-- R177: the CONFIGURE in flight with a tag completes with pending settings as given, in a step from `s`. -/
def ConfigureEnds (tag : Half) (o : OutcomeCode) (detail : Nat) (image : Option (List Byte)) (s u : State) : Prop :=
  u.settings = { s.settings with configure := none, pendingImage := image }
    ∧ Handed [.completion 14 tag o 255 detail s.ms] { s with settings := u.settings } u

/-- R177: the sections of an image: bytes 0 to 63 and 64 to 255. -/
def mapPart (image : List Byte) : List Byte := image.take 64
/-- The mechanism section of an image. -/
def mechPart (image : List Byte) : List Byte := (image.drop 64).take 192

/-- R171, R177: the stored CRC-16 of a section of an image matches, the CRC at offset `o` of the section. -/
abbrev CrcHolds (part : List Byte) (o : Nat) : Prop :=
  crc16 (part.take o) = BitVec.ofNat 16 (256 * byteAt part o + byteAt part (o + 1))

/-- R177: the last read of the image of a CONFIGURE is served: the checks in their order; an image that passes becomes
the pending settings, and is stored when the ticket asks it. -/
def ImageChecked (s : State) : Prop :=
  ∀ (e : InternalEntry) (tag : Half) (store : Bool) (early : List Byte),
    InternalChosen s e → e.purpose = .imageRead 3 → e.addr.toNat + 64 ≤ 4294967296 →
    s.settings.configure = some { tag := tag, store := store, phase := .reading early } →
    let image := early ++ (List.range 64).map fun k => readByte s.memory (e.addr.toNat + k)
    let crcs := CrcHolds (mapPart image) 62 ∧ CrcHolds (mechPart image) 190
    let fails := fun (d : Nat) (u : State) =>
      ConfigureEnds tag .settingsBad d s.settings.pendingImage (headServed s) u
    ∃ u, exec .configureImageRead s = .next u
      ∧ (¬ CrcHolds (mapPart image) 62 → fails 1 u)
      ∧ (CrcHolds (mapPart image) 62 → ¬ CrcHolds (mechPart image) 190 → fails 2 u)
      ∧ (crcs → mapContentsPass (mapFields (mapPart image)) = false → fails 3 u)
      ∧ (crcs → mapContentsPass (mapFields (mapPart image)) = true →
        mechContentsPass (mechFields (mechPart image)) = false → fails 4 u)
      ∧ (crcs → mapContentsPass (mapFields (mapPart image)) = true →
        mechContentsPass (mechFields (mechPart image)) = true →
        (store = false → ConfigureEnds tag .done 0 (some image) (headServed s) u)
        ∧ (store = true → Handed [] { headServed s with settings := u.settings } u
          ∧ u.settings = { s.settings with
              configure := some { tag := tag, store := true, phase := .storing 0 s.ms }, pendingImage := some image
              i2c := s.settings.i2c ++ [.write 0x56 0 (image.getD 0 0), .poll 0x56] }))

/-- R178: the storing of an image: a byte acknowledged within 20 ms is followed by the next, or by the readback; one not
acknowledged in time, a readback not acknowledged and one that differs complete STORE_FAILED, one that matches DONE. -/
def ImageStored (reply : Option (List Byte)) (s : State) : Prop :=
  let storing := fun (c : Configure) (i : Nat) (t : Word) => s.settings.configure = some c ∧ c.phase = .storing i t
  let reading := fun (c : Configure) => s.settings.configure = some c ∧ c.phase = .readback
  let ends := fun (c : Configure) (o : OutcomeCode) (d : Nat) (u : State) =>
    ConfigureEnds c.tag o d s.settings.pendingImage s u ∧ Only (.settings :: handParts) s u
  (∃ u, exec .storeByteAck s = .next u
    ∧ ((∀ c i t, storing c i t → 20 < (s.ms - t).toNat) → Only [] s u)
    ∧ ∀ c i t, storing c i t → (s.ms - t).toNat ≤ 20 → Only [.settings] s u
      ∧ u.settings = { s.settings with
          configure := some { c with phase := if i + 1 < 256 then .storing (i + 1) s.ms else .readback }
          i2c := s.settings.i2c ++
            if i + 1 < 256 then
              [.write 0x56 (BitVec.ofNat 8 (i + 1)) ((s.settings.pendingImage.getD []).getD (i + 1) 0), .poll 0x56]
            else [.read 0x56 0 256] })
  ∧ (∃ u, exec .storeByteTimeout s = .next u
    ∧ ((∀ c i t, storing c i t → (s.ms - t).toNat < 20) → Only [] s u)
    ∧ ∀ c i t, storing c i t → 20 ≤ (s.ms - t).toNat → ends c .storeFailed i u)
  ∧ ∃ u, exec (.storeReadback reply) s = .next u
    ∧ ((∀ c, ¬ reading c) → Only [] s u)
    ∧ ∀ c image, reading c → s.settings.pendingImage = some image →
      (reply = none → ends c .storeFailed 512 u)
      ∧ ∀ back, reply = some back →
        ((∀ i < 256, image[i]? = back[i]?) → ends c .done 0 u)
        ∧ ∀ i < 256, image[i]? ≠ back[i]? → (∀ j < i, image[j]? = back[j]?) → ends c .storeFailed (256 + i) u

/-- R176 to R178: the comparisons of the profile pins, the check of a CONFIGURE image and its storing; a CONFIGURE
image read finds nothing to do while no internal read waits. The model's choices: the detail of PROFILE_CHANGED is the
number of the pins as read (notes/assumptions/17.md), an acknowledge and a timeout may both come at 20 ms
(notes/assumptions/27.md), a command out of its time changes nothing (notes/assumptions/5.md), and the EEPROM's replies are
operands, a byte missing from a readback counting as different (notes/assumptions/14.md); and the transfers on the I2C
link are kept as a history, a poll once (notes/assumptions/34.md). -/
def Obligations.SettingsCheckedAndStored : Prop :=
  ∀ (s : State) (prof1 prof0 : Level) (reply : Option (List Byte)),
    (∃ u, exec (.profileCheck prof1 prof0) s = .next u
      ∧ ProfileCompared (3 * levelNumber prof1 + levelNumber prof0) s u)
    ∧ (s.path.internal = [] → ∃ u, exec .configureImageRead s = .next u ∧ Only [] s u)
    ∧ ImageChecked s ∧ ImageStored reply s
end

