-- ==== Sys2Proof/Laws/Changes.lean ====
section
/-! SUPPORT. How frames compose: `Changes` is reflexive, transitive, and may always name more parts. -/
namespace Sys2Proof.Machine

theorem Changes.refl (ps : List Part) (s : State) : Changes ps s s := by
  intro p _; cases p <;> simp [Part.same]

theorem Changes.trans {ps : List Part} {s t u : State} (h : Changes ps s t) (k : Changes ps t u) :
    Changes ps s u := by
  intro p hp
  have a := h p hp
  have b := k p hp
  cases p <;> simp_all [Part.same]

theorem Changes.mono {ps qs : List Part} {s t : State} (h : Changes ps s t) (sub : ∀ p ∈ ps, p ∈ qs) :
    Changes qs s t := fun p hp => h p fun hm => hp (sub p hm)

/-- A part that is not listed reads as before. -/
theorem Changes.get {ps : List Part} {s t : State} (h : Changes ps s t) (p : Part) (hp : p ∉ ps) : p.same s t := h p hp

/-- A frame through a choice. -/
theorem Changes.ite {ps : List Part} {s t u : State} {c : Prop} [Decidable c] (h : Changes ps s t)
    (k : Changes ps s u) : Changes ps s (if c then t else u) := by
  split <;> assumption

/-- A frame through a fold. -/
theorem Changes.foldl {α : Type} {ps : List Part} {f : State → α → State} (h : ∀ s a, Changes ps s (f s a))
    (l : List α) (s : State) : Changes ps s (l.foldl f s) := by
  induction l generalizing s with
  | nil => exact .refl ps s
  | cons a l ih => exact (h s a).trans (ih (f s a))

end Sys2Proof.Machine
end

