-- ==== Sys2Proof/Laws/Queue.lean ====
section
/-! SUPPORT. What each operation of the request queue, the arbiter and the memory port may change. -/
namespace Sys2Proof.Machine

theorem placeInternal_changes (e : InternalEntry) (s : State) : Changes [.requests] s (placeInternal e s) := by
  intro p hp; unfold placeInternal; split <;> cases p <;> simp_all [Part.same]

theorem admitFrom_changes (o : Block) (s : State) : Changes [.requests] s (admitFrom o s) := by
  intro p hp; unfold admitFrom; split <;> cases p <;> simp_all [Part.same]

theorem admitBlocked_changes (s : State) : Changes [.requests, .freeChoices] s (admitBlocked s) := by
  unfold admitBlocked
  split
  · exact .refl _ _
  · exact (admitFrom_changes _ _).mono (by decide)
  · rename_i o os _ _
    refine ((admitFrom_changes ((o :: os).getD (Config.roomPick s.freeChoices % (o :: os).length) o) s).mono
      (by decide)).trans ?_
    intro p hp; cases p <;> simp_all [Part.same]

theorem leaveUpstream_changes (s : State) : Changes [.upstream, .waitCount] s (leaveUpstream s) := by
  intro p hp; cases p <;> simp_all [Part.same, leaveUpstream]

theorem leaveInternal_changes (s : State) : Changes [.requests, .waitCount, .freeChoices] s (leaveInternal s) := by
  refine Changes.trans (t := { s with path := { s.path with internal := s.path.internal.tail, waitCount := 0 } }) ?_
    ((admitBlocked_changes _).mono (by decide))
  intro p hp; cases p <;> simp_all [Part.same]

theorem portRead_changes (a : Word) (n : Nat) (s : State) : Changes [.memoryPort] s (portRead a n s) := by
  intro p hp; cases p <;> simp_all [Part.same, portRead]

theorem portWrite_changes (a : Word) (ws : List BusWord) (s : State) :
    Changes [.memory, .memoryPort] s (portWrite a ws s) := by
  intro p hp; cases p <;> simp_all [Part.same, portWrite]

theorem serveInternal_changes (e : InternalEntry) (s : State) : Changes servingParts s (serveInternal e s) := by
  have r : Changes servingParts s (portRead e.addr 16 (leaveInternal s)) :=
    ((leaveInternal_changes s).mono (by decide)).trans ((portRead_changes _ _ _).mono (by decide))
  have w : Changes servingParts s (portWrite e.addr (busWords e.data) (leaveInternal s)) :=
    ((leaveInternal_changes s).mono (by decide)).trans ((portWrite_changes _ _ _).mono (by decide))
  unfold serveInternal
  split <;> first | exact r | exact w

/-- The read of a ticket leaves memory alone. -/
theorem serveInternal_ticket (e : InternalEntry) (i : Half) (s : State) (h : e.purpose = .ticketRead i) :
    Changes fetchingParts s (serveInternal e s) := by
  simp only [serveInternal, h]
  exact ((leaveInternal_changes s).mono (by decide)).trans ((portRead_changes _ _ _).mono (by decide))

/-- The read of a quarter of an image leaves memory alone. -/
theorem serveInternal_image (e : InternalEntry) (i : Nat) (s : State) (h : e.purpose = .imageRead i) :
    Changes fetchingParts s (serveInternal e s) := by
  simp only [serveInternal, h]
  exact ((leaveInternal_changes s).mono (by decide)).trans ((portRead_changes _ _ _).mono (by decide))

end Sys2Proof.Machine
end

