-- ==== Sys2Proof/Laws/Return.lean ====
section
/-! SUPPORT. What each operation of the return writer may change, and where a record goes. -/
namespace Sys2Proof.Machine

theorem placeReturn_changes (r : ReturnRecord) (s : State) :
    Changes [.returnRing, .requests] s (placeReturn r s) := by
  unfold placeReturn
  split
  · exact .refl _ _
  · refine Changes.trans ?_ ((placeInternal_changes _ _).mono (by decide))
    intro p hp; cases p <;> simp_all [Part.same]

theorem discardReturn_changes (s : State) : Changes [.overruns, .latched] s (discardReturn s) := by
  intro p hp; unfold discardReturn; split <;> cases p <;> simp_all [Part.same]

theorem handReturn_changes (r : ReturnRecord) (s : State) : Changes handParts s (handReturn r s) := by
  unfold handReturn
  refine Changes.ite ((placeReturn_changes r s).mono (by decide))
    (Changes.ite ?_ ((discardReturn_changes s).mono (by decide)))
  intro p hp; cases p <;> simp_all [Part.same, handParts]

theorem payOverrun_changes (s : State) : Changes [.returnQueue, .overruns] s (payOverrun s) := by
  intro p hp; unfold payOverrun; split <;> cases p <;> simp_all [Part.same]

theorem refillReturn_changes (n : Nat) (s : State) : Changes returnParts s (refillReturn n s) := by
  induction n generalizing s with
  | zero => exact .refl _ _
  | succ n ih =>
    unfold refillReturn
    split
    · exact .refl _ _
    · refine Changes.ite (Changes.trans ?_ (ih _)) (.refl _ _)
      refine Changes.trans ?_ ((payOverrun_changes _).mono (by decide))
      refine Changes.trans ?_ ((placeReturn_changes _ _).mono (by decide))
      intro p hp; cases p <;> simp_all [Part.same, returnParts]

theorem advanceReturn_changes (n : Nat) (s : State) : Changes returnParts s (advanceReturn n s) := by
  induction n generalizing s with
  | zero => exact .refl _ _
  | succ n ih =>
    unfold advanceReturn
    refine Changes.ite (Changes.trans ?_ (ih _)) (.refl _ _)
    intro p hp; cases p <;> simp_all [Part.same, returnParts]

theorem returnClosing_changes (k : Nat) (s : State) : Changes returnParts s (returnClosing k s) := by
  unfold returnClosing
  refine Changes.ite ?_ (.refl _ _)
  refine Changes.trans (Changes.trans ?_ (advanceReturn_changes _ _)) (refillReturn_changes _ _)
  intro p hp; cases p <;> simp_all [Part.same, returnParts]

theorem returnPosted_changes (i : Half) (s : State) : Changes [.returnRing] s (returnPosted i s) := by
  intro p hp; cases p <;> simp_all [Part.same, returnPosted]

theorem complete_changes (kind : Nat) (tag : Half) (o : OutcomeCode) (slot d : Nat) (s : State) :
    Changes handParts s (complete kind tag o slot d s) := handReturn_changes _ _

theorem raise_changes (c : EventCode) (l d : Nat) (s : State) : Changes handParts s (raise c l d s) :=
  handReturn_changes _ _

theorem enterLatched_changes (f : LatchedFault) (s : State) : Changes [.latched] s (enterLatched f s) := by
  intro p hp; cases p <;> simp_all [Part.same, enterLatched]

theorem latch_changes (f : LatchedFault) (c : EventCode) (l d : Nat) (s : State) :
    Changes handParts s (latch f c l d s) := by
  unfold latch
  exact Changes.ite (.refl _ _) (((enterLatched_changes f s).mono (by decide)).trans (raise_changes _ _ _ _))

theorem latchWithEvent_changes (f : LatchedFault) (c : EventCode) (l d : Nat) (s : State) :
    Changes handParts s (latchWithEvent f c l d s) := by
  unfold latchWithEvent
  exact Changes.ite (raise_changes _ _ _ _)
    (((enterLatched_changes f s).mono (by decide)).trans (raise_changes _ _ _ _))

theorem attendArises_changes (s : State) : Changes [.seq, .tone] s (attendArises s) := by
  intro p hp; cases p <;> simp_all [Part.same, attendArises]

theorem attendClears_changes (s : State) : Changes [.seq, .tone] s (attendClears s) := by
  intro p hp; unfold attendClears; split <;> cases p <;> simp_all [Part.same]

theorem chirpSignal_changes (s : State) : Changes [.tone] s (chirpSignal s) := by
  intro p hp; unfold chirpSignal; (repeat' split) <;> cases p <;> simp_all [Part.same]

theorem placeStatus_changes (s : State) : Changes [.statusMarks, .requests] s (placeStatus s) := by
  unfold placeStatus
  split
  · exact .refl _ _
  · refine Changes.trans ?_ ((placeInternal_changes _ _).mono (by decide))
    intro p hp; cases p <;> simp_all [Part.same]

theorem statusChange_changes (b s : State) : Changes [.statusMarks, .requests] s (statusChange b s) := by
  unfold statusChange
  refine Changes.ite (Changes.ite ?_ (placeStatus_changes s)) (.refl _ _)
  intro p hp; cases p <;> simp_all [Part.same]

/-! ## Where a record goes (R159, R160) -/

/-- With an empty queue and room in the ring, the record takes the slot at the producer index. -/
theorem handReturn_room (r : ReturnRecord) (s : State) (hq : s.ret.queue = [])
    (hu : returnUnread s < returnCapacity s) : handReturn r s = placeReturn r s := by
  simp [handReturn, hq, hu]

/-- Otherwise it joins a queue of fewer than 16. -/
theorem handReturn_queue (r : ReturnRecord) (s : State)
    (h : s.ret.queue ≠ [] ∨ ¬ returnUnread s < returnCapacity s) (hl : s.ret.queue.length < 16) :
    handReturn r s = { s with ret := { s.ret with queue := s.ret.queue ++ [r] } } := by
  unfold handReturn
  rw [if_neg (by rcases h with h | h <;> simp [h]), if_pos hl]

/-- Otherwise it is discarded. -/
theorem handReturn_full (r : ReturnRecord) (s : State) (hl : 16 ≤ s.ret.queue.length) :
    handReturn r s = discardReturn s := by
  unfold handReturn
  have h : s.ret.queue ≠ [] := by intro h; simp [h] at hl
  rw [if_neg (by simp [h]), if_neg (by omega)]

/-- A fault is in the set after it is entered. -/
theorem mem_insertFault_self (l : List LatchedFault) (f : LatchedFault) : f ∈ insertFault l f := by
  unfold insertFault
  rw [List.mem_filter]
  exact ⟨by cases f <;> decide, by simp⟩

end Sys2Proof.Machine
end

