-- ==== Sys2Proof/Laws/Account.lean ====
section
/-! SUPPORT. What each operation of the account writer, the volume table and the sensor link may change. -/
namespace Sys2Proof.Machine

theorem setVolume_changes (slot : Nat) (v : Option Volume) (s : State) :
    Changes [.volumes] s (setVolume slot v s) := by
  intro p hp; cases p <;> simp_all [Part.same, setVolume]

theorem modifyVolume_changes (slot : Nat) (f : Volume → Volume) (s : State) :
    Changes [.volumes] s (modifyVolume slot f s) := by
  unfold modifyVolume
  split
  · exact .refl _ _
  · exact setVolume_changes _ _ _

theorem grantSlots_changes (n : Nat) (s : State) : Changes [.account] s (grantSlots n s) := by
  intro p hp; cases p <;> simp_all [Part.same, grantSlots]

theorem refuseSlots_changes (n : Nat) (s : State) : Changes handParts s (refuseSlots n s) := latch_changes _ _ _ _ _

theorem releaseSlots_changes (n : Nat) (s : State) : Changes [.account] s (releaseSlots n s) := by
  intro p hp; cases p <;> simp_all [Part.same, releaseSlots]

theorem takeAccountSlot_changes (s : State) : Changes [.account] s (takeAccountSlot s) := by
  intro p hp; cases p <;> simp_all [Part.same, takeAccountSlot]

theorem placeAccountWrite_changes (i : Half) (bs : List Byte) (s : State) :
    Changes [.requests] s (placeAccountWrite i bs s) := by
  unfold placeAccountWrite
  split
  · exact .refl _ _
  · exact placeInternal_changes _ _

theorem numberRecord_changes (slot : Nat) (v : Volume) (c : AccountContent) (s : State) :
    Changes [.volumes, .account] s (numberRecord slot v c s) :=
  ((setVolume_changes _ _ _).mono (by decide)).trans ((takeAccountSlot_changes _).mono (by decide))

theorem handAccount_changes (slot : Nat) (c : AccountContent) (s : State) :
    Changes accountParts s (handAccount slot c s) := by
  unfold handAccount
  split
  · exact .refl _ _
  · exact ((numberRecord_changes _ _ _ _).mono (by decide)).trans ((placeAccountWrite_changes _ _ _).mono (by decide))

theorem accountPosted_changes (i : Half) (s : State) : Changes [.account] s (accountPosted i s) := by
  intro p hp; cases p <;> simp_all [Part.same, accountPosted]

theorem releaseGuards_changes (i : Half) (s : State) : Changes [.frames] s (releaseGuards i s) := by
  intro p hp; cases p <;> simp_all [Part.same, releaseGuards]

theorem advanceAccount_changes (n : Nat) (s : State) : Changes [.account] s (advanceAccount n s) := by
  induction n generalizing s with
  | zero => exact .refl _ _
  | succ n ih =>
    unfold advanceAccount
    refine Changes.ite (Changes.trans ?_ (ih _)) (.refl _ _)
    intro p hp; cases p <;> simp_all [Part.same]

theorem accountClosing_changes (k : Nat) (s : State) : Changes [.account, .frames] s (accountClosing k s) := by
  unfold accountClosing
  refine Changes.ite ?_ (.refl _ _)
  refine Changes.trans (Changes.trans ?_ ((releaseGuards_changes _ _).mono (by decide)))
    ((advanceAccount_changes _ _).mono (by decide))
  intro p hp; cases p <;> simp_all [Part.same]

/-! ## The sensor link -/

theorem loadStarts_lasting (x : Exchange) (l : PerSide Bar) :
    (loadStarts x l).v.lasting = l.v.lasting ∧ (loadStarts x l).r.lasting = l.r.lasting := by
  unfold loadStarts
  split
  · rename_i side _
    split
    · cases side <;> simp [PerSide.set, PerSide.get, Bar.lasting]
    · simp
  · simp
  · simp

theorem startExchange_changes (s : State) : Changes [.link, .barLoads] s (startExchange s) := by
  unfold startExchange
  refine Changes.ite ?_ (.refl _ _)
  split
  · exact .refl _ _
  · rename_i x _
    have := loadStarts_lasting x s.lamps
    intro p hp; cases p <;> simp_all [Part.same]

theorem endExchange_changes (s : State) : Changes [.link] s (endExchange s) := by
  intro p hp; cases p <;> simp_all [Part.same, endExchange]

theorem discardRequests_changes (s : State) : Changes [.link] s (discardRequests s) := by
  intro p hp; cases p <;> simp_all [Part.same, discardRequests]

theorem placeRoutinePoll_changes (side : Side) (s : State) : Changes [.link] s (placeRoutinePoll side s) := by
  intro p hp; cases p <;> simp_all [Part.same, placeRoutinePoll]

theorem placeVerifyPoll_changes (side : Side) (s : State) : Changes [.link] s (placeVerifyPoll side s) := by
  intro p hp; cases p <;> simp_all [Part.same, placeVerifyPoll]

theorem placeLoad_changes (side : Side) (code : Nat) (s : State) :
    Changes [.link, .barLoads] s (placeLoad side code s) := by
  intro p hp; cases side <;> cases p <;> simp_all [Part.same, placeLoad, PerSide.set, PerSide.get, Bar.lasting]

theorem placeSample_changes (h : Head) (q : SampleRequest) (s : State) : Changes [.link] s (placeSample h q s) := by
  intro p hp; unfold placeSample; split <;> cases p <;> simp_all [Part.same]

theorem withdrawLoads_changes (s : State) : Changes [.link, .barLoads] s (withdrawLoads s) := by
  intro p hp; cases p <;> simp_all [Part.same, withdrawLoads, Bar.lasting]

end Sys2Proof.Machine
end

