-- ==== Sys2Proof/Laws/Capture.lean ====
section
/-! SUPPORT. What each operation of the frame tracker, the regulator and the capture unit may change. -/
namespace Sys2Proof.Machine

/-! ## Frame tracker -/

theorem setWindow_changes (i : Nat) (w : Option Window) (s : State) : Changes [.frames] s (setWindow i w s) := by
  intro p hp; cases p <;> simp_all [Part.same, setWindow]

theorem runRegulator_changes (w : Window) (f : FireData) (st : FrameStatus) (s : State) :
    Changes [.volumes] s (runRegulator w f st s) := by
  unfold runRegulator
  split
  · exact .refl _ _
  · refine Changes.ite ?_ (.refl _ _)
    split
    · exact .refl _ _
    · exact setVolume_changes _ _ _

theorem tellPartner_changes (w : Window) (st : FrameStatus) (s : State) :
    Changes [.frames] s (tellPartner w st s) := by
  unfold tellPartner
  split
  · split
    · exact setWindow_changes _ _ _
    · exact .refl _ _
  · exact .refl _ _

theorem enterGuard_changes (w : Window) (i : Half) (s : State) : Changes [.frames] s (enterGuard w i s) := by
  intro p hp; cases p <;> simp_all [Part.same, enterGuard]

theorem accountFrame_changes (w : Window) (f : FireData) (st : FrameStatus) (v : Volume) (s : State) :
    Changes [.volumes, .account] s (accountFrame w f st v s) :=
  (numberRecord_changes _ _ _ _).trans ((modifyVolume_changes _ _ _).mono (by decide))

theorem completeFrame_changes (i : Nat) (w : Window) (f : FireData) (s : State) :
    Changes frameParts s (completeFrame i w f s) := by
  have h1 : Changes frameParts s (runRegulator w f (completionStatus w) s) :=
    (runRegulator_changes _ _ _ _).mono (by decide)
  simp only [completeFrame]
  split
  · exact .refl _ _
  · rename_i v _
    have h2 := h1.trans ((accountFrame_changes w f (completionStatus w) v _).mono (by decide))
    have h3 := (h2.trans ((enterGuard_changes w
      (runRegulator w f (completionStatus w) s).account.producer _).mono (by decide))).trans
      ((setWindow_changes i none _).mono (by decide))
    have h4 : ∀ x bytes, Changes frameParts s (placeAccountWrite x bytes (tellPartner w (completionStatus w)
        (setWindow i none (enterGuard w (runRegulator w f (completionStatus w) s).account.producer
          (accountFrame w f (completionStatus w) v (runRegulator w f (completionStatus w) s)))))) := fun x bytes =>
      (h3.trans ((tellPartner_changes w (completionStatus w) _).mono (by decide))).trans
        ((placeAccountWrite_changes x bytes _).mono (by decide))
    exact Changes.ite ((h4 _ _).trans ((chirpSignal_changes _).mono (by decide))) (h4 _ _)

theorem completeIfFull_changes (i : Nat) (s : State) : Changes frameParts s (completeIfFull i s) := by
  unfold completeIfFull
  split
  · exact .refl _ _
  · split
    · exact .refl _ _
    · exact Changes.ite (completeFrame_changes _ _ _ _) (.refl _ _)

theorem loseFrame_changes (i : Nat) (w : Window) (f : FireData) (s : State) :
    Changes frameParts s (loseFrame i w f s) := by
  have h1 : Changes frameParts s
      (setWindow i none { s with frames := { s.frames with guardReserved := s.frames.guardReserved - 1 } }) := by
    refine Changes.trans ?_ ((setWindow_changes i none _).mono (by decide))
    intro p hp; cases p <;> simp_all [Part.same, frameParts]
  simp only [loseFrame]
  split
  · exact .refl _ _
  · exact ((h1.trans ((accountFrame_changes w f .lost _ _).mono (by decide))).trans
      ((placeAccountWrite_changes _ _ _).mono (by decide))).trans ((tellPartner_changes _ _ _).mono (by decide))

theorem frameExpired_changes (i : Nat) (s : State) : Changes frameParts s (frameExpired i s) := by
  unfold frameExpired
  split
  · exact .refl _ _
  · split
    · exact Changes.ite (loseFrame_changes _ _ _ _) (.refl _ _)
    · exact .refl _ _

theorem frameWord_changes (i : Nat) (a : Word) (w : BusWord) (s : State) :
    Changes frameParts s (frameWord i a w s) := by
  unfold frameWord
  split
  · exact .refl _ _
  · exact Changes.ite (((setWindow_changes _ _ _).mono (by decide)).trans (completeIfFull_changes _ _)) (.refl _ _)

theorem guardWord_changes (i : Nat) (a : Word) (s : State) :
    Changes (.frames :: handParts) s (guardWord i a s) := by
  unfold guardWord
  split
  · exact .refl _ _
  · refine Changes.ite (.refl _ _) (Changes.trans ?_ ((raise_changes _ _ _ _).mono (by decide)))
    intro p hp; cases p <;> simp_all [Part.same, handParts]

theorem giveUpWindows_changes (s : State) : Changes [.account, .frames] s (giveUpWindows s) := by
  refine Changes.trans ?_ ((releaseSlots_changes _ _).mono (by decide))
  intro p hp; cases p <;> simp_all [Part.same]

theorem armWindows_changes (slot : Nat) (c : CaptureParams) (s : State) :
    Changes [.frames] s (armWindows slot c s) := by
  unfold armWindows
  exact Changes.ite ((setWindow_changes _ _ _).trans (setWindow_changes _ _ _))
    (Changes.ite (setWindow_changes _ _ _) (Changes.ite (setWindow_changes _ _ _) (.refl _ _)))

theorem markSingleHead_changes (s : State) : Changes [.frames] s (markSingleHead s) := by
  intro p hp; cases p <;> simp_all [Part.same, markSingleHead]

/-! ## Capture unit -/

theorem setCapture_changes (c : CaptureState) (s : State) : Changes [.capture] s (setCapture c s) := by
  intro p hp; cases p <;> simp_all [Part.same, setCapture]

theorem endCapture_changes (o : OutcomeCode) (d : Nat) (s : State) :
    Changes (.capture :: handParts) s (endCapture o d s) := by
  unfold endCapture
  split
  · exact .refl _ _
  · exact ((setCapture_changes _ _).mono (by decide)).trans ((complete_changes _ _ _ _ _ _).mono (by decide))

theorem refuseFire_changes (o : OutcomeCode) (d : Nat) (s : State) : Changes captureParts s (refuseFire o d s) :=
  ((giveUpWindows_changes s).mono (by decide)).trans ((endCapture_changes _ _ _).mono (by decide))

theorem abandonFire_changes (o : OutcomeCode) (d : Nat) (s : State) : Changes captureParts s (abandonFire o d s) :=
  (((withdrawLoads_changes s).mono (by decide)).trans ((giveUpWindows_changes _).mono (by decide))).trans
    ((endCapture_changes _ _ _).mono (by decide))

theorem lowerLines_changes (s : State) : Changes [.capture] s (lowerLines s) := by
  intro p hp; cases p <;> simp_all [Part.same, lowerLines]

theorem giveStrobeEnd_changes (e : Nat) (c : Bool) (s : State) : Changes [.frames] s (giveStrobeEnd e c s) := by
  intro p hp; cases p <;> simp_all [Part.same, giveStrobeEnd]

theorem completeFullWindows_changes (s : State) : Changes frameParts s (completeFullWindows s) :=
  (((completeIfFull_changes 0 s).trans (completeIfFull_changes 1 _)).trans (completeIfFull_changes 2 _)).trans
    (completeIfFull_changes 3 _)

theorem strobeEnds_changes (f : FireRecord) (e : Nat) (c : Bool) (o : OutcomeCode) (s : State) :
    Changes captureParts s (strobeEnds f e c o s) :=
  ((((lowerLines_changes s).mono (by decide)).trans ((giveStrobeEnd_changes e c _).mono (by decide))).trans
    ((completeFullWindows_changes _).mono (by decide))).trans ((endCapture_changes _ _ _).mono (by decide))

theorem cutStrobe_changes (f : FireRecord) (t : Word) (o : OutcomeCode) (s : State) :
    Changes captureParts s (cutStrobe f t o s) := by
  unfold cutStrobe
  exact Changes.ite (strobeEnds_changes _ _ _ _ _) (strobeEnds_changes _ _ _ _ _)

theorem raiseStrobe_changes (c : CaptureRecord) (f : FireRecord) (s : State) :
    Changes [.capture, .frames] s (raiseStrobe c f s) := by
  intro p hp; cases p <;> simp_all [Part.same, raiseStrobe]

theorem finalParkCheck_changes (c : CaptureRecord) (f : FireRecord) (s : State) :
    Changes captureParts s (finalParkCheck c f s) := by
  unfold finalParkCheck
  refine Changes.ite (abandonFire_changes _ _ _) ?_
  split
  · exact (raiseStrobe_changes _ _ _).mono (by decide)
  all_goals exact abandonFire_changes _ _ _

theorem handCode_changes (side : Side) (x : Option SideFire) (s : State) :
    Changes [.link, .barLoads, .bars] s (handCode side x s) := by
  unfold handCode
  split
  · exact .refl _ _
  · refine Changes.trans ?_ ((placeLoad_changes _ _ _).mono (by decide))
    intro p hp; cases side <;> cases p <;> simp_all [Part.same] <;> rfl

theorem chargeFire_changes (c : CaptureRecord) (s : State) : Changes fireParts s (chargeFire c s) := by
  unfold chargeFire
  split
  · exact .refl _ _
  · refine Changes.ite ((refuseFire_changes _ _ _).mono (by decide)) ?_
    exact (((((setVolume_changes _ _ s).mono (by decide)).trans ((setCapture_changes _ _).mono (by decide))).trans
      ((withdrawLoads_changes _).mono (by decide))).trans ((handCode_changes .v _ _).mono (by decide))).trans
      ((handCode_changes .r _ _).mono (by decide))

theorem examineGate_changes (c : CaptureRecord) (w : Option Word) (s : State) :
    Changes fireParts s (examineGate c w s) := by
  have hr : ∀ o d, Changes fireParts s (refuseFire o d s) := fun o d => (refuseFire_changes o d s).mono (by decide)
  have hc : ∀ x, Changes fireParts s (setCapture x s) := fun x => (setCapture_changes x s).mono (by decide)
  unfold examineGate
  refine Changes.ite (hr _ _) (Changes.ite (hr _ _) (Changes.ite (hr _ _) (Changes.ite (hr _ _)
    (Changes.ite (hc _) (Changes.ite (chargeFire_changes _ _) ?_)))))
  split
  · exact .refl _ _
  · exact hc _

theorem beginExposing_changes (c : CaptureRecord) (s : State) : Changes fireParts s (beginExposing c s) := by
  have h : Changes fireParts s
      (grantSlots (sideCount c.params.sides)
        { s with frames := { s.frames with guardReserved := s.frames.guardReserved + sideCount c.params.sides } }) := by
    refine Changes.trans ?_ ((grantSlots_changes _ _).mono (by decide))
    intro p hp; cases p <;> simp_all [Part.same, fireParts, captureParts, frameParts]
  simp only [beginExposing]
  exact ((h.trans ((armWindows_changes _ _ _).mono (by decide))).trans ((setCapture_changes _ _).mono (by decide))).trans
    (examineGate_changes _ _ _)

theorem acquire_changes (c : CaptureRecord) (s : State) : Changes fireParts s (acquire c s) := by
  unfold acquire
  exact Changes.ite (Changes.ite (beginExposing_changes _ _) (.refl _ _)) ((refuseSlots_changes _ _).mono (by decide))

theorem haltCapture_changes (s : State) : Changes captureParts s (haltCapture s) := by
  unfold haltCapture
  split
  · exact .refl _ _
  · exact (endCapture_changes _ _ _).mono (by decide)
  · exact refuseFire_changes _ _ _
  · exact abandonFire_changes _ _ _
  · exact cutStrobe_changes _ _ _ _

theorem captureArmLeft_changes (s : State) : Changes captureParts s (captureArmLeft s) := by
  unfold captureArmLeft
  split
  · exact .refl _ _
  · exact .refl _ _
  · exact (setCapture_changes _ _).mono (by decide)
  · exact abandonFire_changes _ _ _
  · exact cutStrobe_changes _ _ _ _

theorem captureBarFailed_changes (side : Side) (s : State) : Changes captureParts s (captureBarFailed side s) := by
  unfold captureBarFailed
  split
  · exact Changes.ite (abandonFire_changes _ _ _) (.refl _ _)
  all_goals exact .refl _ _

theorem recordTemp_changes (side : Side) (t : Nat) (s : State) : Changes [.capture] s (recordTemp side t s) := by
  unfold recordTemp
  split
  · exact setCapture_changes _ _
  all_goals exact .refl _ _

end Sys2Proof.Machine
end

