-- ==== Sys2Proof/Laws/Mechanism.lean ====
section
/-! SUPPORT. What each operation of the lamp unit, the motion unit, the turn sequencer and the position unit may
change. -/
namespace Sys2Proof.Machine

/-! ## Lamp unit -/

theorem setBar_changes (side : Side) (b : Bar) (s : State) : Changes [.bars, .barLoads] s (setBar side b s) := by
  intro p hp; cases side <;> cases p <;> simp_all [Part.same, setBar]

theorem failBar_changes (side : Side) (k : FailKind) (s : State) :
    Changes [.bars, .barLoads] s (failBar side k s) := by
  unfold failBar
  exact Changes.ite (.refl _ _) (setBar_changes _ _ _)

theorem countMiss_changes (side : Side) (s : State) : Changes [.bars, .barLoads] s (countMiss side s) := by
  simp only [countMiss]
  exact Changes.ite ((setBar_changes _ _ _).trans (failBar_changes _ _ _)) (setBar_changes _ _ _)

theorem thermalEvents_changes (side : Side) (t : Nat) (old : BarState) (s : State) :
    Changes handParts s (thermalEvents side t old s) := by
  unfold thermalEvents
  exact Changes.ite (Changes.ite (latch_changes _ _ _ _ _) (latchWithEvent_changes _ _ _ _ _))
    (Changes.ite (raise_changes _ _ _ _) (.refl _ _))

theorem takeAnswer_changes (side : Side) (w : Half) (s : State) : Changes barParts s (takeAnswer side w s) := by
  simp only [takeAnswer]
  split
  · exact (((setBar_changes _ _ _).trans (failBar_changes _ _ _)).mono (by decide))
  · exact (((setBar_changes _ _ _).trans (setBar_changes _ _ _)).mono (by decide)).trans
      ((thermalEvents_changes _ _ _ _).mono (by decide))

theorem judgeLamp_changes (side : Side) (w : Half) (s : State) : Changes barParts s (judgeLamp side w s) := by
  unfold judgeLamp
  split
  · exact (countMiss_changes _ _).mono (by decide)
  · exact (countMiss_changes _ _).mono (by decide)
  · exact takeAnswer_changes _ _ _

theorem examineFailed_changes (side : Side) (s : State) : Changes handParts s (examineFailed side s) := by
  unfold examineFailed
  split
  · exact latch_changes _ _ _ _ _
  all_goals exact .refl _ _

theorem compareEcho_changes (side : Side) (w : Half) (s : State) : Changes barParts s (compareEcho side w s) := by
  simp only [compareEcho]
  refine Changes.ite ?_ (Changes.ite ((failBar_changes _ _ _).mono (by decide)) ?_)
  · exact ((setBar_changes _ _ _).mono (by decide)).trans ((recordTemp_changes _ _ _).mono (by decide))
  · exact ((setBar_changes _ _ _).mono (by decide)).trans ((placeLoad_changes _ _ _).mono (by decide))

theorem verifyLoad_changes (side : Side) (w : Half) (v : Verdict) (s : State) :
    Changes barParts s (verifyLoad side w v s) := by
  simp only [verifyLoad]
  exact Changes.ite (Changes.ite (compareEcho_changes _ _ _) ((placeVerifyPoll_changes _ _).mono (by decide)))
    (.refl _ _)

theorem pollReply_changes (side : Side) (w : Half) (s : State) : Changes lampParts s (pollReply side w s) :=
  ((((judgeLamp_changes side w s).mono (by decide)).trans ((verifyLoad_changes side w _ _).mono (by decide))).trans
    ((examineFailed_changes side _).mono (by decide))).trans ((captureBarFailed_changes side _).mono (by decide))

theorem awaitVerify_changes (side : Side) (s : State) :
    Changes [.bars, .barLoads, .link] s (awaitVerify side s) := by
  simp only [awaitVerify]
  exact Changes.ite (((setBar_changes _ _ _).mono (by decide)).trans ((placeVerifyPoll_changes _ _).mono (by decide)))
    (.refl _ _)

theorem loadReply_changes (side : Side) (c : Nat) (w : Half) (s : State) :
    Changes lampParts s (loadReply side c w s) :=
  (((((judgeLamp_changes side w s).mono (by decide)).trans ((setBar_changes side _ _).mono (by decide))).trans
    ((awaitVerify_changes side _).mono (by decide))).trans ((examineFailed_changes side _).mono (by decide))).trans
    ((captureBarFailed_changes side _).mono (by decide))

/-! ## Motion unit -/

theorem stopArm_changes (s : State) : Changes [.motion] s (stopArm s) := by
  intro p hp; cases p <;> simp_all [Part.same, stopArm]

theorem stopBoth_changes (s : State) : Changes [.motion] s (stopBoth s) := by
  intro p hp; cases p <;> simp_all [Part.same, stopBoth]

theorem takeArmMove_changes (d : Bool) (n top : Nat) (s : State) : Changes [.motion] s (takeArmMove d n top s) := by
  intro p hp; cases p <;> simp_all [Part.same, takeArmMove]

theorem sampleSwitches_changes (sw : Switches) (s : State) : Changes [.motion] s (sampleSwitches sw s) := by
  intro p hp; cases p <;> simp_all [Part.same, sampleSwitches]

theorem takePlatenMove_changes (d : Bool) (s : State) : Changes [.motion] s (takePlatenMove d s) := by
  intro p hp; cases p <;> simp_all [Part.same, takePlatenMove]

theorem endArm_changes (k : EndKind) (n : Nat) (s : State) : Changes [.motion] s (endArm k n s) := by
  intro p hp; cases p <;> simp_all [Part.same, endArm]

theorem endPlaten_changes (k : EndKind) (n : Nat) (s : State) : Changes [.motion] s (endPlaten k n s) := by
  intro p hp; cases p <;> simp_all [Part.same, endPlaten]

/-! ## Turn sequencer -/

theorem setSeq_changes (q : Sequencer) (s : State) : Changes [.seq] s (setSeq q s) := by
  intro p hp; cases p <;> simp_all [Part.same, setSeq]

theorem setArm_changes (a : ArmState) (s : State) : Changes turnParts s (setArm a s) := by
  simp only [setArm]
  exact Changes.ite (((setSeq_changes _ _).mono (by decide)).trans ((captureArmLeft_changes _).mono (by decide)))
    ((setSeq_changes _ _).mono (by decide))

theorem setVacuum_changes (on : Bool) (s : State) : Changes [.seq] s (setVacuum on s) := setSeq_changes _ _

theorem startTimer_changes (k : TimerKind) (n : Nat) (s : State) : Changes [.seq] s (startTimer k n s) :=
  setSeq_changes _ _

theorem stopTimer_changes (s : State) : Changes [.seq] s (stopTimer s) := setSeq_changes _ _

theorem endTurn_changes (o : OutcomeCode) (d : Nat) (s : State) :
    Changes (.seq :: handParts) s (endTurn o d s) := by
  unfold endTurn
  split
  · exact .refl _ _
  · exact ((setSeq_changes _ _).mono (by decide)).trans ((complete_changes _ _ _ _ _ _).mono (by decide))

theorem latchCause_changes (c : FaultCause) (s : State) : Changes handParts s (latchCause c s) := by
  unfold latchCause
  split
  · exact latch_changes _ _ _ _ _
  · exact latch_changes _ _ _ _ _
  · exact .refl _ _
  · exact .refl _ _

theorem enterFaulted_changes (c : FaultCause) (s : State) : Changes turnParts s (enterFaulted c s) := by
  simp only [enterFaulted]
  refine Changes.ite (.refl _ _) ?_
  exact ((((((latchCause_changes c s).mono (by decide)).trans ((stopBoth_changes _).mono (by decide))).trans
    ((stopTimer_changes _).mono (by decide))).trans (setArm_changes _ _)).trans
    ((attendArises_changes _).mono (by decide))).trans ((endTurn_changes _ _ _).mono (by decide))

theorem haltSequencer_changes (s : State) : Changes turnParts s (haltSequencer s) := by
  have h : Changes turnParts s
      (endTurn .halted (armNumber s.seq.arm) (attendArises (setArm .halted (stopTimer (stopBoth s))))) :=
    (((((stopBoth_changes s).mono (by decide)).trans ((stopTimer_changes _).mono (by decide))).trans
      (setArm_changes _ _)).trans ((attendArises_changes _).mono (by decide))).trans
      ((endTurn_changes _ _ _).mono (by decide))
  unfold haltSequencer
  split <;> first | exact .refl _ _ | exact h

theorem beginGrip_changes (s : State) : Changes [.seq] s (beginGrip s) :=
  (setVacuum_changes _ _).trans (startTimer_changes _ _ _)

theorem enterGripping_changes (s : State) : Changes turnParts s (enterGripping s) :=
  ((setArm_changes _ _).trans ((setSeq_changes _ _).mono (by decide))).trans ((beginGrip_changes _).mono (by decide))

theorem enterReleasing_changes (s : State) : Changes turnParts s (enterReleasing s) :=
  ((setArm_changes _ _).trans ((setVacuum_changes _ _).mono (by decide))).trans
    ((startTimer_changes _ _ _).mono (by decide))

theorem enterSettling_changes (s : State) : Changes turnParts s (enterSettling s) :=
  (setArm_changes _ _).trans ((startTimer_changes _ _ _).mono (by decide))

theorem raisedFlag_changes (sw : Switches) (s : State) : Changes (.volumes :: handParts) s (raisedFlag sw s) := by
  unfold raisedFlag
  split
  · exact Changes.ite ((modifyVolume_changes _ _ _).mono (by decide))
      (((modifyVolume_changes _ _ _).mono (by decide)).trans ((raise_changes _ _ _ _).mono (by decide)))
  · exact Changes.ite (.refl _ _) ((raise_changes _ _ _ _).mono (by decide))

theorem afterRaise_changes (s : State) : Changes turnParts s (afterRaise s) := by
  unfold afterRaise
  exact Changes.ite (setArm_changes _ _) (enterSettling_changes _)

theorem raiseEnded_changes (k : EndKind) (sw : Switches) (s : State) : Changes turnParts s (raiseEnded k sw s) := by
  unfold raiseEnded
  split
  · exact ((raisedFlag_changes _ _).mono (by decide)).trans (afterRaise_changes _)
  · exact enterFaulted_changes _ _
  · exact .refl _ _
  · exact .refl _ _

theorem beginRaise_changes (sw : Switches) (s : State) : Changes turnParts s (beginRaise sw s) := by
  unfold beginRaise
  refine Changes.ite ((setSeq_changes _ _).mono (by decide)) (Changes.ite ?_ ?_)
  · exact (((sampleSwitches_changes _ _).trans (endPlaten_changes _ _ _)).mono (by decide)).trans
      (raiseEnded_changes _ _ _)
  · exact (((setSeq_changes _ _).mono (by decide)).trans ((sampleSwitches_changes _ _).mono (by decide))).trans
      ((takePlatenMove_changes _ _).mono (by decide))

theorem armReached_changes (sw : Switches) (s : State) : Changes turnParts s (armReached sw s) := by
  unfold armReached
  split
  · exact enterGripping_changes _
  · exact enterReleasing_changes _
  · exact (setArm_changes _ _).trans (beginRaise_changes _ _)
  · exact ((setSeq_changes _ _).mono (by decide)).trans (beginRaise_changes _ _)
  all_goals exact .refl _ _

theorem offerArm_changes (a n top : Nat) (s : State) : Changes [.seq, .motion] s (offerArm a n top s) :=
  ((setSeq_changes _ _).mono (by decide)).trans ((takeArmMove_changes _ _ _ _).mono (by decide))

theorem slipCheck_changes (sw : Switches) (s : State) : Changes turnParts s (slipCheck sw s) := by
  unfold slipCheck
  split
  · exact enterFaulted_changes _ _
  · refine Changes.ite (armReached_changes _ _) (Changes.ite ?_ (enterFaulted_changes _ _))
    exact Changes.ite (((setSeq_changes _ _).mono (by decide)).trans (enterFaulted_changes _ _))
      (((setSeq_changes _ _).mono (by decide)).trans ((offerArm_changes _ _ _ _).mono (by decide)))

theorem makeArmMove_changes (sw : Switches) (s : State) : Changes turnParts s (makeArmMove sw s) := by
  unfold makeArmMove
  split
  · exact enterFaulted_changes _ _
  · exact Changes.ite (((setSeq_changes _ _).mono (by decide)).trans (slipCheck_changes _ _))
      (((setSeq_changes _ _).mono (by decide)).trans ((offerArm_changes _ _ _ _).mono (by decide)))

theorem beginArm_changes (g top : Nat) (sw : Switches) (s : State) : Changes turnParts s (beginArm g top sw s) := by
  simp only [beginArm]
  exact Changes.ite (((setSeq_changes _ _).trans (setSeq_changes _ _)).mono (by decide))
    (((setSeq_changes _ _).mono (by decide)).trans (makeArmMove_changes _ _))

theorem enterReaching_changes (sw : Switches) (s : State) : Changes turnParts s (enterReaching sw s) :=
  (setArm_changes _ _).trans (beginArm_changes _ _ _ _)

theorem enterSweeping_changes (sw : Switches) (s : State) : Changes turnParts s (enterSweeping sw s) :=
  ((setArm_changes _ _).trans ((setSeq_changes _ _).mono (by decide))).trans (beginArm_changes _ _ _ _)

theorem enterReturning_changes (top : Nat) (sw : Switches) (s : State) :
    Changes turnParts s (enterReturning top sw s) :=
  (setArm_changes _ _).trans (beginArm_changes _ _ _ _)

theorem lowerEnded_changes (k : EndKind) (sw : Switches) (s : State) : Changes turnParts s (lowerEnded k sw s) := by
  unfold lowerEnded
  split
  · exact Changes.ite (((setSeq_changes _ _).mono (by decide)).trans (beginArm_changes _ _ _ _))
      (enterReaching_changes _ _)
  · exact enterFaulted_changes _ _
  · exact .refl _ _
  · exact .refl _ _

theorem beginLower_changes (sw : Switches) (s : State) : Changes turnParts s (beginLower sw s) := by
  unfold beginLower
  refine Changes.ite ((setSeq_changes _ _).mono (by decide)) (Changes.ite ?_ ?_)
  · exact (((sampleSwitches_changes _ _).trans (endPlaten_changes _ _ _)).mono (by decide)).trans
      (lowerEnded_changes _ _ _)
  · exact (((setSeq_changes _ _).mono (by decide)).trans ((sampleSwitches_changes _ _).mono (by decide))).trans
      ((takePlatenMove_changes _ _).mono (by decide))

theorem platenReport_changes (r : PlatenEnd) (sw : Switches) (s : State) :
    Changes turnParts s (platenReport r sw s) := by
  unfold platenReport
  split
  · exact .refl _ _
  · exact Changes.ite (((setSeq_changes _ _).mono (by decide)).trans (beginLower_changes _ _))
      (((setSeq_changes _ _).mono (by decide)).trans (beginRaise_changes _ _))
  · exact Changes.ite (((setSeq_changes _ _).mono (by decide)).trans (lowerEnded_changes _ _ _))
      (((setSeq_changes _ _).mono (by decide)).trans (raiseEnded_changes _ _ _))

theorem armReport_changes (r : ArmEnd) (sw : Switches) (s : State) : Changes turnParts s (armReport r sw s) := by
  unfold armReport
  split
  · exact .refl _ _
  · exact ((setSeq_changes _ _).mono (by decide)).trans (makeArmMove_changes _ _)
  · dsimp only
    split
    · exact ((setSeq_changes _ _).mono (by decide)).trans (slipCheck_changes _ _)
    all_goals exact (setSeq_changes _ _).mono (by decide)

theorem setMotion_changes (m : MotionUnit) (s : State) : Changes [.motion] s { s with motion := m } := by
  intro p hp; cases p <;> simp_all [Part.same]

theorem armEnds_changes (k : EndKind) (n : Nat) (sw : Switches) (s : State) :
    Changes turnParts s (armEnds k n sw s) :=
  ((endArm_changes _ _ _).mono (by decide)).trans (armReport_changes _ _ _)

theorem platenEnds_changes (k : EndKind) (n : Nat) (sw : Switches) (s : State) :
    Changes turnParts s (platenEnds k n sw s) :=
  ((endPlaten_changes _ _ _).mono (by decide)).trans (platenReport_changes _ _ _)

theorem armStep_changes (sw : Switches) (s : State) : Changes turnParts s (armStep sw s) := by
  unfold armStep
  split
  · exact .refl _ _
  · exact Changes.ite (armEnds_changes _ _ _ _)
      (Changes.ite (armEnds_changes _ _ _ _) ((setMotion_changes _ s).mono (by decide)))

theorem platenStep_changes (sw : Switches) (s : State) : Changes turnParts s (platenStep sw s) := by
  have h : ∀ k n, Changes turnParts s (platenEnds k n sw (sampleSwitches sw s)) := fun k n =>
    ((sampleSwitches_changes _ _).mono (by decide)).trans (platenEnds_changes _ _ _ _)
  unfold platenStep
  split
  · exact .refl _ _
  · exact Changes.ite (platenEnds_changes _ _ _ _)
      (Changes.ite (h _ _) (Changes.ite (h _ _)
        (((setMotion_changes _ s).trans (sampleSwitches_changes _ _)).mono (by decide))))

theorem homingHeads_changes (sw : Switches) (s : State) : Changes turnParts s (homingHeads sw s) := by
  unfold homingHeads
  exact Changes.ite (((setSeq_changes _ _).mono (by decide)).trans (beginLower_changes _ _)) (.refl _ _)

theorem enterHoming_changes (s : State) : Changes turnParts s (enterHoming s) :=
  (((setArm_changes _ _).trans ((setVacuum_changes _ _).mono (by decide))).trans
    ((startTimer_changes _ _ _).mono (by decide))).trans ((setSeq_changes _ _).mono (by decide))

theorem resumeSequencer_changes (sw : Switches) (s : State) : Changes turnParts s (resumeSequencer sw s) := by
  unfold resumeSequencer
  split
  · exact ((((setVacuum_changes _ _).mono (by decide)).trans ((attendClears_changes _).mono (by decide)))).trans
      (enterReturning_changes _ _ _)
  · exact (((attendClears_changes _).mono (by decide)).trans (enterHoming_changes _)).trans (homingHeads_changes _ _)
  all_goals exact .refl _ _

theorem startTurn_changes (t : Turn) (sw : Switches) (s : State) : Changes turnParts s (startTurn t sw s) :=
  ((setArm_changes _ _).trans ((setSeq_changes _ _).mono (by decide))).trans (beginLower_changes _ _)

theorem gripFailed_changes (m : Bool) (sw : Switches) (s : State) : Changes turnParts s (gripFailed m sw s) :=
  ((setSeq_changes _ _).mono (by decide)).trans (enterReturning_changes _ _ _)

theorem gripExpired_changes (l m : Bool) (sw : Switches) (s : State) :
    Changes turnParts s (gripExpired l m sw s) := by
  unfold gripExpired
  refine Changes.ite (((stopTimer_changes _).mono (by decide)).trans (enterSweeping_changes _ _))
    (Changes.ite ?_ (gripFailed_changes _ _ _))
  exact ((setSeq_changes _ _).trans (startTimer_changes _ _ _)).mono (by decide)

theorem leafDropped_changes (sw : Switches) (s : State) : Changes turnParts s (leafDropped sw s) :=
  (((stopArm_changes _).mono (by decide)).trans ((setSeq_changes _ _).mono (by decide))).trans
    (enterReturning_changes _ _ _)

theorem releaseExpired_changes (sw : Switches) (s : State) : Changes turnParts s (releaseExpired sw s) := by
  unfold releaseExpired
  dsimp only
  split
  · exact ((stopTimer_changes _).mono (by decide)).trans (enterReturning_changes _ _ _)
  · exact (((stopTimer_changes _).mono (by decide)).trans ((modifyVolume_changes _ _ _).mono (by decide))).trans
      (enterReturning_changes _ _ _)

theorem finishTurn_changes (t : Turn) (s : State) : Changes turnParts s (finishTurn t s) := by
  have h : ∀ o d, Changes turnParts s (attendArises (endTurn o d s)) := fun o d =>
    ((endTurn_changes o d s).mono (by decide)).trans ((attendArises_changes _).mono (by decide))
  unfold finishTurn
  split
  · split
    · exact (((attendClears_changes _).mono (by decide)).trans ((setSeq_changes _ _).mono (by decide))).trans
        ((setCapture_changes _ _).mono (by decide))
    · exact ((attendClears_changes _).mono (by decide)).trans ((endTurn_changes _ _ _).mono (by decide))
  all_goals exact h _ _

theorem settleExpired_changes (s : State) : Changes turnParts s (settleExpired s) := by
  have h : Changes turnParts s (setArm .idle (stopTimer s)) :=
    ((stopTimer_changes _).mono (by decide)).trans (setArm_changes _ _)
  unfold settleExpired
  dsimp only
  split
  · exact h
  · exact h.trans (finishTurn_changes _ _)

/-! ## Position unit -/

theorem setHead_changes (h : Head) (u : HeadUnit) (s : State) : Changes [.heads] s (setHead h u s) := by
  intro p hp; cases p <;> simp_all [Part.same, setHead]

theorem judgeGood_changes (h : Head) (q : SampleRequest) (w : Half) (s : State) :
    Changes sampleParts s (judgeGood h q w s) := by
  have a : ∀ u, Changes sampleParts s (setHead h u s) := fun u => (setHead_changes h u s).mono (by decide)
  have b : ∀ u c, Changes sampleParts s (raise c (headLetter h) 0 (setHead h u s)) := fun u c =>
    (a u).trans ((raise_changes _ _ _ _).mono (by decide))
  simp only [judgeGood]
  exact Changes.ite (Changes.ite (b _ _) (a _)) (Changes.ite (b _ _) (a _))

theorem judgeBad_changes (h : Head) (w : Half) (k : Nat) (s : State) :
    Changes sampleParts s (judgeBad h w k s) := by
  have a : ∀ u, Changes sampleParts s (setHead h u s) := fun u => (setHead_changes h u s).mono (by decide)
  simp only [judgeBad]
  refine Changes.ite (Changes.ite ?_ ((a _).trans ((latch_changes _ _ _ _ _).mono (by decide)))) (a _)
  exact ((a _).trans ((markSingleHead_changes _).mono (by decide))).trans ((latchWithEvent_changes _ _ _ _ _).mono (by decide))

theorem judgeSample_changes (h : Head) (q : SampleRequest) (w : Half) (s : State) :
    Changes sampleParts s (judgeSample h q w s) := by
  unfold judgeSample
  split
  · exact judgeGood_changes _ _ _ _
  · exact judgeBad_changes _ _ _ _

theorem updateFused_changes (s : State) : Changes [.fused] s (updateFused s) := by
  intro p hp; cases p <;> simp_all [Part.same, updateFused]

theorem setChecks_changes (l : List RoundCheck) (s : State) : Changes [.rounds] s (setChecks l s) := by
  intro p hp; cases p <;> simp_all [Part.same, setChecks]

theorem compareAngles_changes (a b : Nat) (s : State) : Changes turnParts s (compareAngles a b s) := by
  simp only [compareAngles]
  exact Changes.ite (((latch_changes _ _ _ _ _).mono (by decide)).trans (enterFaulted_changes _ _)) (.refl _ _)

theorem checkSplit_changes (h : Head) (n : Nat) (x : Option Nat) (s : State) :
    Changes (.rounds :: turnParts) s (checkSplit h n x s) := by
  have k : ∀ l, Changes (.rounds :: turnParts) s (setChecks l s) := fun l => (setChecks_changes l s).mono (by decide)
  unfold checkSplit
  split
  · exact .refl _ _
  · exact k _
  · split
    · exact Changes.ite ((k _).trans ((compareAngles_changes _ _ _).mono (by decide))) (k _)
    · exact k _

theorem sampleReply_changes (h : Head) (q : SampleRequest) (w : Half) (sw : Switches) (s : State) :
    Changes ([.heads, .rounds, .fused] ++ turnParts) s (sampleReply h q w sw s) :=
  ((((judgeSample_changes h q w s).mono (by decide)).trans ((updateFused_changes _).mono (by decide))).trans
    ((checkSplit_changes _ _ _ _).mono (by decide))).trans ((homingHeads_changes sw _).mono (by decide))

theorem roundFallsDue_changes (s : State) : Changes [.nextRound] s (roundFallsDue s) := by
  intro p hp; cases p <;> simp_all [Part.same, roundFallsDue]

theorem roundsFallDue_changes (s : State) : Changes [.nextRound] s (roundsFallDue s) :=
  Changes.ite (roundFallsDue_changes s) (.refl _ _)

theorem beginSampling_changes (s : State) : Changes [.rounds, .nextRound] s (beginSampling s) := by
  intro p hp; cases p <;> simp_all [Part.same, beginSampling, roundFallsDue]

theorem fastBegins_changes (s : State) : Changes [.nextRound] s (fastBegins s) := by
  refine Changes.ite ?_ (roundFallsDue_changes s)
  intro p hp; cases p <;> simp_all [Part.same]

theorem fastEnds_changes (s : State) : Changes [.nextRound] s (fastEnds s) := by
  intro p hp; cases p <;> simp_all [Part.same, fastEnds]

theorem roundEdge_changes (b s : State) : Changes [.nextRound] s (roundEdge b s) :=
  Changes.ite (fastBegins_changes s) (Changes.ite (fastEnds_changes s) (.refl _ _))

theorem placeRound_changes (time : Word) (s : State) : Changes [.link, .rounds, .nextRound] s (placeRound time s) := by
  have h : Changes [.link, .rounds, .nextRound] s
      (placeSample .b { round := s.position.roundNumber, time := time }
        (placeSample .a { round := s.position.roundNumber, time := time } s)) :=
    ((placeSample_changes _ _ _).trans (placeSample_changes _ _ _)).mono (by decide)
  refine h.trans ?_
  intro p hp; cases p <;> simp_all [Part.same, placeRound]

theorem placeDueRound_changes (s : State) : Changes [.link, .rounds, .nextRound] s (placeDueRound s) := by
  unfold placeDueRound
  split
  · exact .refl _ _
  · exact placeRound_changes _ _

end Sys2Proof.Machine
end

