-- ==== Sys2Proof/Laws/Tickets.lean ====
section
/-! SUPPORT. What each operation of the ticket unit, the executor and the settings unit may change. -/
namespace Sys2Proof.Machine

theorem postFault_changes (d : Word) (s : State) : Changes handParts s (postFault d s) := latch_changes _ _ _ _ _

theorem setTickets_changes (q : TicketUnit) (s : State) : Changes [.tickets] s { s with tickets := q } := by
  intro p hp; cases p <;> simp_all [Part.same]

theorem offerProducer_changes (p : Half) (d : Word) (s : State) : Changes headParts s (offerProducer p d s) := by
  unfold offerProducer
  refine Changes.ite (.refl _ _) ?_
  split
  · exact .refl _ _
  · exact Changes.ite ((setTickets_changes _ _).mono (by decide)) ((postFault_changes _ _).mono (by decide))

theorem takePost_changes (w : BusWord) (s : State) : Changes headParts s (takePost w s) := by
  unfold takePost
  exact Changes.ite (offerProducer_changes _ _ _) ((postFault_changes _ _).mono (by decide))

theorem placeTicketReads_changes (m : MapSettings) (i : Half) (n : Nat) (s : State) :
    Changes [.requests] s (placeTicketReads m i n s) := by
  induction n generalizing i s with
  | zero => exact .refl _ _
  | succ n ih => exact (placeInternal_changes _ _).trans (ih _ _)

theorem issueFetch_changes (s : State) : Changes [.tickets, .requests] s (issueFetch s) := by
  unfold issueFetch
  split
  · exact .refl _ _
  · exact Changes.ite (((setTickets_changes _ s).mono (by decide)).trans
      ((placeTicketReads_changes _ _ _ _).mono (by decide))) (.refl _ _)

theorem popHead_changes (s : State) : Changes [.tickets] s (popHead s) := setTickets_changes _ _

theorem dropBarrier_changes (s : State) : Changes [.tickets] s (dropBarrier s) := setTickets_changes _ _

theorem dropBarrierFor_changes (k : Nat) (s : State) : Changes [.tickets] s (dropBarrierFor k s) := by
  unfold dropBarrierFor
  exact Changes.ite (dropBarrier_changes _) (.refl _ _)

theorem clearBadHeads_changes (n : Nat) (s : State) : Changes headParts s (clearBadHeads n s) := by
  induction n generalizing s with
  | zero => exact .refl _ _
  | succ n ih =>
    have h : ∀ k t o d, Changes headParts s (complete k t o 255 d (popHead s)) := fun k t o d =>
      ((popHead_changes s).mono (by decide)).trans ((complete_changes _ _ _ _ _ _).mono (by decide))
    unfold clearBadHeads
    split
    · exact .refl _ _
    · split
      · exact (h _ _ _ _).trans (ih _)
      · split
        · exact (h _ _ _ _).trans (ih _)
        · exact .refl _ _
      · exact .refl _ _

theorem completeHead_changes (t : Ticket) (o : OutcomeCode) (slot d : Nat) (s : State) :
    Changes headParts s (completeHead t o slot d s) := by
  simp only [completeHead]
  exact ((((popHead_changes s).mono (by decide)).trans ((complete_changes _ _ _ _ _ _).mono (by decide))).trans
    ((dropBarrierFor_changes _ _).mono (by decide))).trans (clearBadHeads_changes _ _)

theorem startHead_changes (s : State) : Changes headParts s (startHead s) :=
  ((popHead_changes s).mono (by decide)).trans (clearBadHeads_changes _ _)

theorem flushOne_changes (t : Ticket) (s : State) : Changes headParts s (flushOne t s) :=
  ((complete_changes _ _ _ _ _ _).mono (by decide)).trans ((dropBarrierFor_changes _ _).mono (by decide))

theorem flushQueue_changes (s : State) : Changes headParts s (flushQueue s) :=
  ((setTickets_changes _ s).mono (by decide)).trans (Changes.foldl (fun x t => flushOne_changes t x) _ _)

theorem signalHalt_changes (s : State) : Changes turnParts s (signalHalt s) :=
  (haltSequencer_changes s).trans ((haltCapture_changes _).mono (by decide))

theorem haltAtFetch_changes (tag : Half) (s : State) : Changes haltParts s (haltAtFetch tag s) :=
  (((signalHalt_changes s).mono (by decide)).trans ((flushQueue_changes _).mono (by decide))).trans
    ((complete_changes _ _ _ _ _ _).mono (by decide))

theorem raiseBarrier_changes (s : State) : Changes [.tickets] s (raiseBarrier s) := setTickets_changes _ _

theorem enqueue_changes (t : Ticket) (s : State) : Changes [.tickets] s (enqueue t s) := setTickets_changes _ _

theorem takeTicket_changes (t : Ticket) (s : State) : Changes haltParts s (takeTicket t s) := by
  simp only [takeTicket]
  refine Changes.ite (((setTickets_changes _ s).mono (by decide)).trans (haltAtFetch_changes _ _)) ?_
  have h := (setTickets_changes { s.tickets with taken := t.index + 1 } s).trans (enqueue_changes t _)
  split
  · exact ((h.trans (raiseBarrier_changes _)).mono (by decide)).trans ((clearBadHeads_changes _ _).mono (by decide))
  · exact (h.mono (by decide)).trans ((clearBadHeads_changes _ _).mono (by decide))

theorem arrive_changes (i : Half) (bs : List Byte) (s : State) : Changes haltParts s (arrive i bs s) := by
  simp only [arrive]
  exact Changes.ite ((setTickets_changes _ s).mono (by decide))
    (((setTickets_changes _ s).mono (by decide)).trans (takeTicket_changes _ _))

/-! ## Settings unit -/

theorem setSettings_changes (u : SettingsUnit) (s : State) : Changes [.settings] s (setSettings u s) := by
  intro p hp; cases p <;> simp_all [Part.same, setSettings]

theorem sendI2c_changes (l : List I2cTransfer) (s : State) : Changes [.settings] s (sendI2c l s) :=
  setSettings_changes _ _

theorem enterService_changes (st : Startup) (s : State) :
    Changes [.settings, .rounds, .nextRound, .bars, .buttons] s (enterService st s) := by
  refine Changes.trans ?_ ((beginSampling_changes _).mono (by decide))
  intro p hp; cases p <;> simp_all [Part.same]

theorem stateEvent_changes (s : State) : Changes handParts s (stateEvent s) := raise_changes _ _ _ _

theorem latchLoading_changes (c : Candidate) (s : State) : Changes [.latched] s (latchLoading c s) := by
  have h : Changes [.latched] s (if c.mapBad then enterLatched .settingsMap s else s) :=
    Changes.ite (enterLatched_changes _ _) (.refl _ _)
  simp only [latchLoading]
  exact Changes.ite (h.trans (enterLatched_changes _ _)) h

theorem homeIfReady_changes (s : State) : Changes turnParts s (homeIfReady s) := by
  unfold homeIfReady
  exact Changes.ite (enterHoming_changes _) (.refl _ _)

theorem endLoading_changes (c : Candidate) (s : State) : Changes loadingParts s (endLoading c s) :=
  (((((setSettings_changes _ s).mono (by decide)).trans ((enterService_changes _ _).mono (by decide))).trans
    ((latchLoading_changes c _).mono (by decide))).trans ((homeIfReady_changes _).mono (by decide))).trans
    ((stateEvent_changes _).mono (by decide))

theorem sectionsRead_changes (a : Option MapSettings) (b : Option MechSettings) (s : State) :
    Changes loadingParts s (sectionsRead a b s) := by
  unfold sectionsRead
  split
  · exact endLoading_changes _ _
  · exact (setSettings_changes _ _).mono (by decide)

theorem sectionDone_changes (l : Loading) (bs : Option (List Byte)) (s : State) :
    Changes loadingParts s (sectionDone l bs s) := by
  unfold sectionDone
  split
  · exact ((setSettings_changes _ _).trans (sendI2c_changes _ _)).mono (by decide)
  · exact sectionsRead_changes _ _ _

theorem readAttempt_changes (l : Loading) (r : Option (List Byte)) (s : State) :
    Changes loadingParts s (readAttempt l r s) := by
  unfold readAttempt
  split
  · exact sectionDone_changes _ _ _
  · exact Changes.ite ((setSettings_changes _ _).mono (by decide)) (sectionDone_changes _ _ _)

theorem placeImageReads_changes (a n : Nat) (s : State) : Changes [.requests] s (placeImageReads a n s) := by
  induction n generalizing s with
  | zero => exact .refl _ _
  | succ n ih => exact (placeInternal_changes _ _).trans (ih _)

theorem endConfigure_changes (o : OutcomeCode) (d : Nat) (s : State) :
    Changes (.settings :: handParts) s (endConfigure o d s) := by
  unfold endConfigure
  split
  · exact .refl _ _
  · exact ((setSettings_changes _ _).mono (by decide)).trans ((complete_changes _ _ _ _ _ _).mono (by decide))

theorem deliverImage_changes (bs : List Byte) (s : State) : Changes [.settings] s (deliverImage bs s) := by
  unfold deliverImage
  split
  · exact setSettings_changes _ _
  · exact .refl _ _

theorem storeFrom_changes (c : Configure) (o : Nat) (s : State) : Changes [.settings] s (storeFrom c o s) :=
  Changes.ite ((setSettings_changes _ _).trans (sendI2c_changes _ _))
    ((setSettings_changes _ _).trans (sendI2c_changes _ _))

theorem imageRead_changes (s : State) : Changes (.settings :: handParts) s (imageRead s) := by
  unfold imageRead
  split
  · exact .refl _ _
  · split
    · split
      · exact endConfigure_changes _ _ _
      · exact Changes.ite (((setSettings_changes _ _).trans (storeFrom_changes _ _ _)).mono (by decide))
          (((setSettings_changes _ _).mono (by decide)).trans (endConfigure_changes _ _ _))
    · exact .refl _ _
    · exact .refl _ _

theorem restartBlocks_changes (change : Bool) (c : Candidate) (s : State) :
    Changes restartParts s (restartBlocks change c s) := by
  intro p hp
  cases p <;> simp_all [Part.same, restartParts, restartBlocks, discardRequests, restartReturn, PositionUnit.fullReset]
    <;> split <;> simp_all

theorem takeEffect_changes (tag : Half) (c : Candidate) (s : State) : Changes restartParts s (takeEffect tag c s) := by
  simp only [takeEffect]
  exact ((((((restartBlocks_changes _ c s).trans ((enterService_changes _ _).mono (by decide))).trans
    ((latchLoading_changes c _).mono (by decide))).trans ((homeIfReady_changes _).mono (by decide))).trans
    ((complete_changes _ _ _ _ _ _).mono (by decide)))).trans ((stateEvent_changes _).mono (by decide))

theorem refuseReload_changes (r : Restart) (d : Nat) (s : State) :
    Changes restartParts s (refuseReload r d s) :=
  ((((setSettings_changes _ s).mono (by decide)).trans ((enterService_changes _ _).mono (by decide))).trans
    ((dropBarrier_changes _).mono (by decide))).trans ((complete_changes _ _ _ _ _ _).mono (by decide))

theorem beginReload_changes (tag : Half) (p : Nat) (s : State) :
    Changes [.settings, .link] s (beginReload tag p s) :=
  (((setSettings_changes _ s).trans (sendI2c_changes _ _)).mono (by decide)).trans
    ((discardRequests_changes _).mono (by decide))

end Sys2Proof.Machine
end

