-- ==== Sys2Proof/Laws/Path.lean ====
section
/-! SUPPORT. What each operation of the through-path and the end of a step may change. -/
namespace Sys2Proof.Machine

theorem foreignWrite_changes (a : Word) (s : State) :
    Changes (.foreignWrites :: handParts) s (foreignWrite a s) := by
  refine Changes.trans ?_ ((latch_changes _ _ _ _ _).mono (by decide))
  intro p hp; cases p <;> simp_all [Part.same]

theorem reportWord_changes (a : Word) (w : BusWord) (p : Place) (s : State) :
    Changes reportParts s (reportWord a w p s) := by
  unfold reportWord
  split
  · exact Changes.ite (.refl _ _) ((foreignWrite_changes _ _).mono (by decide))
  · exact Changes.ite (.refl _ _) ((guardWord_changes _ _ _).mono (by decide))
  · exact (takePost_changes _ _).mono (by decide)
  · exact (frameWord_changes _ _ _ _).mono (by decide)
  · exact .refl _ _

theorem serveWrite_changes (a : Word) (ws : List BusWord) (s : State) : Changes writeParts s (serveWrite a ws s) :=
  (((leaveUpstream_changes s).mono (by decide)).trans ((portWrite_changes _ _ _).mono (by decide))).trans
    (Changes.foldl (fun _ _ => (reportWord_changes _ _ _ _).mono (by decide)) _ _)

theorem reportClosing_changes (c : Closing) (s : State) :
    Changes ([.account, .frames] ++ returnParts) s (reportClosing c s) := by
  unfold reportClosing
  split
  · exact (accountClosing_changes _ _).mono (by decide)
  · exact (returnClosing_changes _ _).mono (by decide)

theorem serveRead_changes (a : Word) (n : Nat) (s : State) : Changes readParts s (serveRead a n s) := by
  simp only [serveRead]
  have h : Changes readParts s (portRead a n (leaveUpstream s)) :=
    ((leaveUpstream_changes s).mono (by decide)).trans ((portRead_changes _ _ _).mono (by decide))
  refine (h.trans ?_).trans (Changes.foldl (fun _ _ => (reportClosing_changes _ _).mono (by decide)) _ _)
  intro p hp; cases p <;> simp_all [Part.same, readParts]

/-- A read that covers no closing word changes nothing but the path. -/
theorem serveRead_plain (a : Word) (n : Nat) (s : State) (h : closings s a n = []) :
    Changes [.upstream, .waitCount, .memoryPort, .hostData] s (serveRead a n s) := by
  simp only [serveRead, h, List.foldl_nil]
  have h : Changes [.upstream, .waitCount, .memoryPort, .hostData] s (portRead a n (leaveUpstream s)) :=
    ((leaveUpstream_changes s).mono (by decide)).trans ((portRead_changes _ _ _).mono (by decide))
  refine h.trans ?_
  intro p hp; cases p <;> simp_all [Part.same]

theorem serveSilent_changes (s t : State) (h : serveSilent s = some t) : Changes silentParts s t := by
  unfold serveSilent at h
  split at h
  · split at h
    · rename_i hc
      cases h
      exact (serveRead_plain _ _ _ hc).mono (by decide)
    · cases h
  · split at h
    · split at h
      · cases h
        rename_i hp _
        exact ((serveInternal_image _ _ _ hp).mono (by decide)).trans ((deliverImage_changes _ _).mono (by decide))
      · cases h
    all_goals cases h
  · cases h
  · cases h

theorem pumpBy_changes (n : Nat) (s : State) : Changes silentParts s (pumpBy n s) := by
  induction n generalizing s with
  | zero => exact .refl _ _
  | succ n ih =>
    unfold pumpBy
    split
    · exact .refl _ _
    · rename_i t ht
      exact (serveSilent_changes s t ht).trans (ih t)

theorem pump_changes (s : State) : Changes silentParts s (pump s) := pumpBy_changes _ _

/-- With nothing waiting the port serves nothing. -/
theorem pump_idle (s : State) (h : arbiter s = none) : pump s = s := by
  unfold pump
  cases waitingTransactions s with
  | zero => rfl
  | succ n => simp [pumpBy, serveSilent, h]

theorem settle_changes (b s : State) : Changes endOfStep s (settle b s) :=
  (((roundEdge_changes b s).mono (by decide)).trans ((startExchange_changes _).mono (by decide))).trans
    ((statusChange_changes _ _).mono (by decide))

/-- The frame of a command is that of its own effect and the end of the step. -/
theorem settle_only {ps : List Part} {s t : State} (h : Changes (ps ++ endOfStep) s t) : Only ps s (settle s t) :=
  Changes.trans h ((settle_changes s t).mono fun _ hp => List.mem_append_right ps hp)

/-- The end of a step leaves any part outside `endOfStep` as the command left it. -/
theorem settle_get (b s : State) (p : Part) (hp : p ∉ endOfStep) : p.same s (settle b s) := settle_changes b s p hp

theorem countMs_changes (s : State) : Changes [.ms] s (countMs s) := by
  refine Changes.ite (.refl _ _) ?_
  intro p hp; cases p <;> simp_all [Part.same]

theorem ageButtons_changes (s : State) : Changes [.buttons] s (ageButtons s) := by
  intro p hp; cases p <;> simp_all [Part.same, ageButtons]

theorem tick_changes (s : State) : Changes ([.ms, .nextRound, .buttons] ++ silentParts) s (tick s) :=
  ((((pump_changes s).mono (by decide)).trans ((countMs_changes _).mono (by decide))).trans
    ((roundsFallDue_changes _).mono (by decide))).trans ((ageButtons_changes _).mono (by decide))

end Sys2Proof.Machine
end

