-- ==== Sys2Proof/Laws/Handing.lean ====
section
/-! SUPPORT. What handing records over does, said once: the return writer's state after it depends on nothing but the
return writer and the settings, and the request queue gains exactly the writes placed. -/
namespace Sys2Proof.Machine

/-! ## The request queue -/

theorem mem_placeInternal (e x : InternalEntry) (s : State) :
    x ∈ waiting (placeInternal e s) ↔ x = e ∨ x ∈ waiting s := by
  unfold placeInternal waiting
  split <;> simp [or_left_comm, or_comm]

theorem mem_placeStatus (s : State) (e : InternalEntry) (h : e ∈ waiting s) : e ∈ waiting (placeStatus s) := by
  unfold placeStatus
  split
  · exact h
  · exact (mem_placeInternal _ _ _).2 (.inr h)

/-- No entry that waits leaves at the end of a step. -/
theorem mem_settle (b s : State) (e : InternalEntry) (h : e ∈ waiting s) : e ∈ waiting (settle b s) := by
  have h1 : waiting (startExchange (roundEdge b s)) = waiting s := by
    have h2 : waiting (roundEdge b s) = waiting s := by
      unfold roundEdge fastBegins waiting; (repeat' split) <;> rfl
    rw [← h2]
    unfold startExchange
    (repeat' split) <;> rfl
  unfold settle statusChange
  split
  · split
    · exact h1 ▸ h
    · exact mem_placeStatus _ _ (h1 ▸ h)
  · exact h1 ▸ h

/-! ## Records -/

/-- The writes that a record handed over places. -/
def handEntries (r : ReturnRecord) (s : State) : List InternalEntry :=
  match mapOf s with
  | none => []
  | some m =>
    if s.ret.queue = [] ∧ returnUnread s < returnCapacity s then
      [{ purpose := .returnWrite s.ret.producer, addr := BitVec.ofNat 32 (m.returnBase + 16 * slotOf s.ret.producer m.nr),
         data := returnBytes r }]
    else []

theorem mem_handReturn (r : ReturnRecord) (s : State) (e : InternalEntry) :
    e ∈ waiting (handReturn r s) ↔ e ∈ handEntries r s ∨ e ∈ waiting s := by
  unfold handReturn
  split
  · rename_i h
    unfold placeReturn handEntries
    cases hm : mapOf s with
    | none => simp
    | some m => simp only [mem_placeInternal, if_pos h, List.mem_singleton]; rfl
  · rename_i h
    have h0 : handEntries r s = [] := by
      unfold handEntries; cases hm : mapOf s <;> simp [h]
    rw [h0]
    split
    · simp [waiting]
    · unfold discardReturn
      split <;> simp [waiting]

theorem handReturn_settings (r : ReturnRecord) (s : State) : (handReturn r s).settings = s.settings :=
  (handReturn_changes r s).get .settings (by decide)

/-- The return writer after a record depends on the return writer and the settings alone. -/
theorem handReturn_ret (r : ReturnRecord) {x y : State} (hr : x.ret = y.ret) (hs : x.settings = y.settings) :
    (handReturn r x).ret = (handReturn r y).ret := by
  have hm : mapOf x = mapOf y := by simp [mapOf, hs]
  have hu : returnUnread x = returnUnread y := by simp [returnUnread, hr]
  have hc : returnCapacity x = returnCapacity y := by simp [returnCapacity, hm]
  have place : ∀ (e : InternalEntry) (s : State), (placeInternal e s).ret = s.ret := by
    intro e s; unfold placeInternal; split <;> rfl
  unfold handReturn
  rw [hu, hc, hr]
  split
  · unfold placeReturn
    rw [hm]
    split
    · exact hr
    · simp only [place, hr]
  · split
    · simp
    · unfold discardReturn
      simp only [hr]
      split <;> simp

theorem handEntries_congr (r : ReturnRecord) {x y : State} (hr : x.ret = y.ret) (hs : x.settings = y.settings) :
    handEntries r x = handEntries r y := by
  have hm : mapOf x = mapOf y := by simp [mapOf, hs]
  have hu : returnUnread x = returnUnread y := by simp [returnUnread, hr]
  have hc : returnCapacity x = returnCapacity y := by simp [returnCapacity, hm]
  unfold handEntries
  rw [hm, hu, hc, hr]

theorem handAll_ret (rs : List ReturnRecord) {x y : State} (hr : x.ret = y.ret) (hs : x.settings = y.settings) :
    (handAll rs x).ret = (handAll rs y).ret := by
  unfold handAll
  induction rs generalizing x y with
  | nil => exact hr
  | cons r rs ih =>
    exact ih (handReturn_ret r hr hs) (by rw [handReturn_settings, handReturn_settings, hs])

theorem mem_handAll (rs : List ReturnRecord) {x y : State} (hr : x.ret = y.ret) (hs : x.settings = y.settings)
    (hw : ∀ e ∈ waiting y, e ∈ waiting x) : ∀ e ∈ waiting (handAll rs y), e ∈ waiting (handAll rs x) := by
  unfold handAll
  induction rs generalizing x y with
  | nil => exact hw
  | cons r rs ih =>
    refine ih (handReturn_ret r hr hs) (by rw [handReturn_settings, handReturn_settings, hs]) fun e he => ?_
    rw [mem_handReturn] at he ⊢
    rcases he with he | he
    · exact .inl (handEntries_congr r hr hs ▸ he)
    · exact .inr (hw e he)

/-- The state with the tone output as given. -/
def withTone (tone : Tone) (s : State) : State := { s with ret := { s.ret with tone := tone } }

/-- Handing records over neither reads nor writes the tone output. -/
theorem handReturn_withTone (r : ReturnRecord) (tone : Tone) (s : State) :
    handReturn r (withTone tone s) = withTone tone (handReturn r s) := by
  have place : ∀ (e : InternalEntry) (x : State), placeInternal e (withTone tone x) = withTone tone (placeInternal e x) := by
    intro e x
    by_cases h : x.path.internal.length < 32 ∧ (x.path.blocked.all fun w => decide (ownerOf w ≠ ownerOf e))
    · unfold placeInternal
      rw [if_pos h]
      exact if_pos h
    · unfold placeInternal
      rw [if_neg h]
      exact if_neg h
  unfold handReturn
  have hq : (withTone tone s).ret.queue = s.ret.queue := rfl
  have hu : returnUnread (withTone tone s) = returnUnread s := rfl
  have hc : returnCapacity (withTone tone s) = returnCapacity s := rfl
  rw [hq, hu, hc]
  split
  · unfold placeReturn
    have hm : mapOf (withTone tone s) = mapOf s := rfl
    rw [hm]
    split
    · rfl
    · show placeInternal _ _ = withTone tone (placeInternal _ _)
      rw [← place]
      rfl
  · split
    · rfl
    · unfold discardReturn
      by_cases h : LatchedFault.returnOverrun ∈ s.ret.latched
      · rw [if_pos h]
        exact if_pos h
      · rw [if_neg h]
        exact if_neg h

theorem handAll_withTone (rs : List ReturnRecord) (tone : Tone) (s : State) :
    handAll rs (withTone tone s) = withTone tone (handAll rs s) := by
  unfold handAll
  induction rs generalizing s with
  | nil => rfl
  | cons r rs ih => simp only [List.foldl_cons, handReturn_withTone, ih]

/-- Records handed over in a state that differs from `s` in neither the return writer, its tone output aside, nor the
settings, and that the rest of the step leaves where they are, are handed over in the step from `s`. -/
theorem Handed.of {rs : List ReturnRecord} {s x t : State} (hr : x.ret = { s.ret with tone := x.ret.tone })
    (hs : x.settings = s.settings) (hw : ∀ e ∈ waiting s, e ∈ waiting x)
    (ring : Part.returnRing.same (handAll rs x) t) (queue : Part.returnQueue.same (handAll rs x) t)
    (overruns : Part.overruns.same (handAll rs x) t) (latched : Part.latched.same (handAll rs x) t)
    (keep : ∀ e ∈ waiting (handAll rs x), e ∈ waiting t) : Handed rs s t := by
  have h : (handAll rs x).ret = { (handAll rs s).ret with tone := x.ret.tone } := by
    have h1 := handAll_ret rs (x := x) (y := withTone x.ret.tone s) hr hs
    rw [h1, handAll_withTone]
    rfl
  have hk : ∀ e ∈ waiting (handAll rs s), e ∈ waiting (handAll rs x) := by
    intro e he
    refine mem_handAll rs (y := withTone x.ret.tone s) hr hs hw e ?_
    rw [handAll_withTone]
    exact he
  refine ⟨?_, ?_, ?_, ?_, ?_, fun e he => keep e (hk e he)⟩
  · exact ring.1.trans (by rw [h])
  · exact (show t.ret.queue = _ from queue).trans (by rw [h])
  · exact overruns.1.trans (by rw [h])
  · exact overruns.2.trans (by rw [h])
  · exact (show t.ret.latched = _ from latched).trans (by rw [h])

/-- Records handed over last in a step, before its end. -/
theorem Handed.settle {rs : List ReturnRecord} {s x : State} (b : State) (hr : x.ret = { s.ret with tone := x.ret.tone })
    (hs : x.settings = s.settings) (hw : ∀ e ∈ waiting s, e ∈ waiting x) :
    Handed rs s (Machine.settle b (handAll rs x)) :=
  .of hr hs hw (settle_get _ _ .returnRing (by decide)) (settle_get _ _ .returnQueue (by decide))
    (settle_get _ _ .overruns (by decide)) (settle_get _ _ .latched (by decide)) (mem_settle _ _)

/-! ## Completions of the head -/

/-- A head that waits is no bad head. -/
theorem clearBadHeads_waits (n : Nat) (s : State) (h : waitsAtHead s.tickets.queue = true) : clearBadHeads n s = s := by
  cases n with
  | zero => rfl
  | succ n =>
    unfold clearBadHeads
    split
    · rfl
    · rename_i t l hq
      simp only [hq, waitsAtHead] at h
      split
      · rename_i hk; simp [hk] at h
      · rename_i hk
        simp only [hk] at h
        split
        · rename_i hf; simp [hf] at h
        · rfl
      · rfl

/-- When the tickets behind it wait, completing the head pops it and hands over its completion. -/
theorem completeHead_waits (t : Ticket) (o : OutcomeCode) (slot d : Nat) (s : State) (h : TailWaits s) :
    completeHead t o slot d s =
      dropBarrierFor (ticketKind t) (complete (ticketKind t) (ticketTag t) o slot d (popHead s)) := by
  simp only [completeHead]
  refine clearBadHeads_waits _ _ ?_
  have hq : ∀ x : State, (dropBarrierFor (ticketKind t) x).tickets.queue = x.tickets.queue := by
    intro x; unfold dropBarrierFor; split <;> rfl
  have hc : ∀ k g x, (complete k g o slot d x).tickets = x.tickets := fun k g x =>
    (complete_changes k g o slot d x).get .tickets (by decide)
  rw [hq, hc]
  exact h

/-- When the tickets behind it wait, a start pops the head. -/
theorem startHead_waits (s : State) (h : TailWaits s) : startHead s = popHead s := by
  exact clearBadHeads_waits _ _ h

/-- A ticket that passes the steps of R33 is examined by its kind's own rule. -/
theorem examine_own {k : Kind} {t : Ticket} {s : State} (h : Examined k t s) (own : Ticket → State) :
    examine k s own = own t := by
  obtain ⟨hq, hk, hf, hb⟩ := h
  unfold examine
  cases hl : s.tickets.queue with
  | nil => simp [hl] at hq
  | cons t' l =>
    rw [hl] at hq
    cases hq
    simp only [hk, hf]
    rw [if_pos trivial, if_neg]
    rintro ⟨h1, h2⟩
    exact h2 (hb h1)

end Sys2Proof.Machine
end

