-- ==== Sys2Proof/Laws/Meanings.lean ====
section
/-! SUPPORT. What each command may change: one lemma for each ticket body and event. -/
namespace Sys2Proof.Machine

/-! ## Volume tickets -/

theorem examine_changes {ps : List Part} (k : Kind) (s : State) (own : Ticket → State)
    (sub : ∀ p ∈ headParts, p ∈ ps) (h : ∀ t, Changes ps s (own t)) : Changes ps s (examine k s own) := by
  unfold examine
  split
  · exact .refl _ _
  · refine Changes.ite ?_ (.refl _ _)
    split
    · exact (completeHead_changes _ _ _ _ _).mono sub
    · exact Changes.ite ((completeHead_changes _ _ _ _ _).mono sub) (h _)

theorem setActive_changes (a : Option Nat) (s : State) : Changes [.volumes] s (setActive a s) := by
  intro p hp; cases p <;> simp_all [Part.same, setActive]

/-- The parts that OPEN, CLOSE, MANUAL and SKIP may change. -/
abbrev recordingParts : List Part := [.volumes, .account] ++ headParts

theorem head_recording (t : Ticket) (o : OutcomeCode) (slot d : Nat) (s : State) :
    Changes recordingParts s (completeHead t o slot d s) := (completeHead_changes _ _ _ _ _).mono (by decide)

theorem refuse_recording (n : Nat) (s : State) : Changes recordingParts s (refuseSlots n s) :=
  (refuseSlots_changes _ _).mono (by decide)

theorem takeEntry_changes (slot : Nat) (v : Volume) (s : State) : Changes [.volumes] s (takeEntry slot v s) := by
  unfold takeEntry
  refine Changes.trans (Changes.ite ?_ (.refl _ _)) (setVolume_changes _ _ _)
  intro p hp; cases p <;> simp_all [Part.same]

theorem openEffect_changes (t : Ticket) (slot : Nat) (v : Volume) (s : State) :
    Changes recordingParts s (openEffect t slot v s) :=
  ((((grantSlots_changes _ _).mono (by decide)).trans ((takeEntry_changes _ _ _).mono (by decide))).trans
    ((handAccount_changes _ _ _).mono (by decide))).trans (head_recording _ _ _ _ _)

theorem openTicket_changes (s : State) (t : Ticket) : Changes recordingParts s (openTicket s t) := by
  unfold openTicket
  split
  · exact head_recording _ _ _ _ _
  · split
    · exact head_recording _ _ _ _ _
    · split
      · exact head_recording _ _ _ _ _
      · exact Changes.ite (openEffect_changes _ _ _ _) (refuse_recording _ _)

theorem selectTicket_changes (s : State) (t : Ticket) : Changes (.volumes :: headParts) s (selectTicket s t) := by
  have h : ∀ o slot d x, Changes (.volumes :: headParts) x (completeHead t o slot d x) := fun o slot d x =>
    (completeHead_changes _ _ _ _ _).mono (by decide)
  simp only [selectTicket]
  refine Changes.ite (h _ _ _ _) ?_
  split
  · exact h _ _ _ _
  · exact Changes.ite (h _ _ _ _) (Changes.ite (.refl _ _)
      (((setActive_changes _ _).mono (by decide)).trans (h _ _ _ _)))

theorem parkTicket_changes (s : State) (t : Ticket) : Changes (.volumes :: headParts) s (parkTicket s t) := by
  have h : ∀ o slot d x, Changes (.volumes :: headParts) x (completeHead t o slot d x) := fun o slot d x =>
    (completeHead_changes _ _ _ _ _).mono (by decide)
  unfold parkTicket
  split
  · exact h _ _ _ _
  · exact Changes.ite (.refl _ _) (((setActive_changes _ _).mono (by decide)).trans (h _ _ _ _))

theorem handExceptions_changes (slot n i : Nat) (es : List ExceptionEntry) (s : State) :
    Changes accountParts s (handExceptions slot n i es s) := by
  induction es generalizing i s with
  | nil => exact .refl _ _
  | cons e es ih => exact (handAccount_changes _ _ _).trans (ih _ _)

theorem handClosed_changes (slot n : Nat) (s : State) : Changes accountParts s (handClosed slot n s) := by
  unfold handClosed
  split
  · exact .refl _ _
  · exact handAccount_changes _ _ _

theorem freeEntry_changes (slot : Nat) (s : State) : Changes [.volumes] s (freeEntry slot s) := by
  unfold freeEntry
  exact (Changes.ite (setActive_changes _ _) (.refl _ _)).trans (setVolume_changes _ _ _)

theorem closeEffect_changes (t : Ticket) (slot : Nat) (v : Volume) (s : State) :
    Changes recordingParts s (closeEffect t slot v s) := by
  simp only [closeEffect]
  exact (((((grantSlots_changes _ _).mono (by decide)).trans ((handExceptions_changes _ _ _ _ _).mono (by decide))).trans
    ((handClosed_changes _ _ _).mono (by decide))).trans ((freeEntry_changes _ _).mono (by decide))).trans
    (head_recording _ _ _ _ _)

theorem closeTicket_changes (s : State) (t : Ticket) : Changes recordingParts s (closeTicket s t) := by
  simp only [closeTicket]
  refine Changes.ite (head_recording _ _ _ _ _) ?_
  split
  · exact head_recording _ _ _ _ _
  · exact Changes.ite (.refl _ _) (Changes.ite (closeEffect_changes _ _ _ _) (refuse_recording _ _))

theorem manualEffect_changes (t : Ticket) (slot : Nat) (v : Volume) (o : Nat) (s : State) :
    Changes recordingParts s (manualEffect t slot v o s) :=
  ((((grantSlots_changes _ _).mono (by decide)).trans ((setVolume_changes _ _ _).mono (by decide))).trans
    ((handAccount_changes _ _ _).mono (by decide))).trans (head_recording _ _ _ _ _)

theorem manualTicket_changes (s : State) (t : Ticket) : Changes recordingParts s (manualTicket s t) := by
  simp only [manualTicket]
  refine Changes.ite (head_recording _ _ _ _ _) ?_
  split
  · exact head_recording _ _ _ _ _
  · exact Changes.ite (head_recording _ _ _ _ _) (Changes.ite (head_recording _ _ _ _ _)
      (Changes.ite (.refl _ _) (Changes.ite (manualEffect_changes _ _ _ _ _) (refuse_recording _ _))))

theorem skipEffect_changes (t : Ticket) (slot first count : Nat) (p : PerSide Bool) (v : Volume) (s : State) :
    Changes recordingParts s (skipEffect t slot first count p v s) := by
  simp only [skipEffect]
  exact ((((grantSlots_changes _ _).mono (by decide)).trans ((setVolume_changes _ _ _).mono (by decide))).trans
    ((handAccount_changes _ _ _).mono (by decide))).trans (head_recording _ _ _ _ _)

theorem skipTicket_changes (s : State) (t : Ticket) : Changes recordingParts s (skipTicket s t) := by
  simp only [skipTicket]
  refine Changes.ite (head_recording _ _ _ _ _) (Changes.ite (head_recording _ _ _ _ _) ?_)
  split
  · exact head_recording _ _ _ _ _
  · split
    · exact head_recording _ _ _ _ _
    · exact Changes.ite (head_recording _ _ _ _ _) (Changes.ite (skipEffect_changes _ _ _ _ _ _ _)
        (refuse_recording _ _))

/-! ## Tickets that work the cradle and the part -/

theorem turnTicket_changes (sw : Switches) (s : State) (t : Ticket) : Changes haltParts s (turnTicket sw s t) := by
  have h : ∀ o slot d x, Changes haltParts x (completeHead t o slot d x) := fun o slot d x =>
    (completeHead_changes _ _ _ _ _).mono (by decide)
  unfold turnTicket
  split
  · exact h _ _ _ _
  · split
    · exact h _ _ _ _
    · exact Changes.ite (.refl _ _) (((startHead_changes _).mono (by decide)).trans
        ((startTurn_changes _ _ _).mono (by decide)))

theorem captureTicket_changes (s : State) (t : Ticket) : Changes (.capture :: headParts) s (captureTicket s t) := by
  have h : ∀ o slot d x, Changes (.capture :: headParts) x (completeHead t o slot d x) := fun o slot d x =>
    (completeHead_changes _ _ _ _ _).mono (by decide)
  unfold captureTicket
  split
  · exact h _ _ _ _
  · split
    · exact h _ _ _ _
    · exact Changes.ite (.refl _ _) (((startHead_changes _).mono (by decide)).trans
        ((setCapture_changes _ _).mono (by decide)))

theorem advanceTicket_changes (sw : Switches) (s : State) (t : Ticket) :
    Changes haltParts s (advanceTicket sw s t) := by
  have h : ∀ o slot d x, Changes haltParts x (completeHead t o slot d x) := fun o slot d x =>
    (completeHead_changes _ _ _ _ _).mono (by decide)
  unfold advanceTicket
  split
  · exact h _ _ _ _
  · split
    · exact h _ _ _ _
    · split
      · exact h _ _ _ _
      · exact Changes.ite (.refl _ _) (((startHead_changes _).mono (by decide)).trans
          ((startTurn_changes _ _ _).mono (by decide)))

theorem lightTicket_changes (s : State) (t : Ticket) : Changes (.volumes :: headParts) s (lightTicket s t) := by
  have h : ∀ o slot d x, Changes (.volumes :: headParts) x (completeHead t o slot d x) := fun o slot d x =>
    (completeHead_changes _ _ _ _ _).mono (by decide)
  unfold lightTicket
  split
  · exact h _ _ _ _
  · split
    · exact h _ _ _ _
    · exact ((setVolume_changes _ _ _).mono (by decide)).trans (h _ _ _ _)

theorem quietTicket_changes (s : State) (t : Ticket) : Changes (.tone :: headParts) s (quietTicket s t) := by
  have h : ∀ o slot d x, Changes (.tone :: headParts) x (completeHead t o slot d x) := fun o slot d x =>
    (completeHead_changes _ _ _ _ _).mono (by decide)
  unfold quietTicket
  split
  · refine Changes.trans ?_ (h _ _ _ _)
    intro p hp; cases p <;> simp_all [Part.same]
  all_goals exact h _ _ _ _

theorem clearTicket_changes (s : State) (t : Ticket) : Changes headParts s (clearTicket s t) := by
  refine Changes.trans (t := { s with ret := { s.ret with latched := [] } }) ?_ (completeHead_changes _ _ _ _ _)
  intro p hp; cases p <;> simp_all [Part.same, headParts, handParts]

theorem configureTicket_changes (s : State) (t : Ticket) :
    Changes (.settings :: headParts ++ silentParts) s (configureTicket s t) := by
  simp only [configureTicket]
  refine Changes.ite ((completeHead_changes _ _ _ _ _).mono (by decide)) (Changes.ite (.refl _ _) ?_)
  simp only [configureStart]
  exact (((startHead_changes _).mono (by decide)).trans ((setSettings_changes _ _).mono (by decide))).trans
    ((placeImageReads_changes _ _ _).mono (by decide))

theorem restartHeld_changes (t : Ticket) (p : Nat) (s : State) : Changes restartParts s (restartHeld t p s) := by
  unfold restartHeld
  split
  · exact .refl _ _
  · exact Changes.ite ((completeHead_changes _ _ _ _ _).mono (by decide))
      (((popHead_changes _).mono (by decide)).trans (takeEffect_changes _ _ _))

theorem restartTicket_changes (p : Nat) (s : State) (t : Ticket) :
    Changes restartParts s (restartTicket p s t) := by
  unfold restartTicket
  exact Changes.ite ((completeHead_changes _ _ _ _ _).mono (by decide)) (Changes.ite (.refl _ _)
    (Changes.ite (((startHead_changes _).mono (by decide)).trans ((beginReload_changes _ _ _).mono (by decide)))
      (restartHeld_changes _ _ _)))

/-! ## Buttons and the mechanism -/

theorem stopPressed_changes (s : State) : Changes (.buttons :: haltParts) s (stopPressed s) := by
  refine ((Changes.trans (t := { s with stopLine := 0 }) ?_ ((raise_changes _ _ _ _).mono (by decide))).trans
    ((signalHalt_changes _).mono (by decide))).trans ((flushQueue_changes _).mono (by decide))
  intro p hp; cases p <;> simp_all [Part.same]

theorem resumePressed_changes (sw : Switches) (s : State) :
    Changes (.buttons :: turnParts) s (resumePressed sw s) := by
  have h : Changes (.buttons :: turnParts) s
      (raise .resumePressed 0 (armNumber s.seq.arm) { s with resumeLine := 0 }) := by
    refine Changes.trans (t := { s with resumeLine := 0 }) ?_ ((raise_changes _ _ _ _).mono (by decide))
    intro p hp; cases p <;> simp_all [Part.same]
  simp only [resumePressed]
  exact Changes.ite (h.trans ((resumeSequencer_changes _ _).mono (by decide))) h

theorem engineStep_changes (e : Engine) (sw : Switches) (s : State) : Changes turnParts s (engineStep e sw s) := by
  cases e
  · exact armStep_changes _ _
  · exact platenStep_changes _ _

theorem leafRead_changes (l : Bool) (sw : Switches) (s : State) : Changes turnParts s (leafRead l sw s) := by
  simp only [leafRead]
  exact Changes.ite (((setSeq_changes _ _).mono (by decide)).trans (leafDropped_changes _ _))
    ((setSeq_changes _ _).mono (by decide))

theorem encoderReply_changes (w : Half) (sw : Switches) (s : State) :
    Changes (.fused :: sampleParts ++ turnParts) s (encoderReply w sw s) := by
  unfold encoderReply
  split
  · exact Changes.ite ((endExchange_changes _).mono (by decide))
      (((endExchange_changes _).mono (by decide)).trans ((sampleReply_changes _ _ _ _ _).mono (by decide)))
  all_goals exact .refl _ _

/-! ## Lamps and captures -/

theorem pollFallsDue_changes (side : Side) (s : State) :
    Changes [.bars, .barLoads, .link] s (pollFallsDue side s) :=
  ((setBar_changes _ _ _).mono (by decide)).trans ((placeRoutinePoll_changes _ _).mono (by decide))

theorem lampPollEnds_changes (w : Half) (s : State) : Changes lampParts s (lampPollEnds w s) := by
  unfold lampPollEnds
  split
  · exact Changes.ite (((endExchange_changes _).mono (by decide)).trans ((examineFailed_changes _ _).mono (by decide)))
      (((endExchange_changes _).mono (by decide)).trans (pollReply_changes _ _ _))
  all_goals exact .refl _ _

theorem lampLoadEnds_changes (w : Half) (s : State) : Changes lampParts s (lampLoadEnds w s) := by
  unfold lampLoadEnds
  split
  · exact Changes.ite
      ((((setBar_changes _ _ _).mono (by decide)).trans ((endExchange_changes _).mono (by decide))).trans
        ((examineFailed_changes _ _).mono (by decide)))
      (((endExchange_changes _).mono (by decide)).trans (loadReply_changes _ _ _ _))
  all_goals exact .refl _ _

theorem tryAcquire_changes (s : State) : Changes fireParts s (tryAcquire s) := by
  unfold tryAcquire
  split
  · exact acquire_changes _ _
  all_goals exact .refl _ _

theorem gateExamined_changes (s : State) : Changes fireParts s (gateExamined s) := by
  unfold gateExamined
  split
  · exact examineGate_changes _ _ _
  all_goals exact .refl _ _

theorem parkWaitEnds_changes (s : State) : Changes fireParts s (parkWaitEnds s) := by
  unfold parkWaitEnds
  split
  · exact Changes.ite (Changes.ite (examineGate_changes _ _ _) ((refuseFire_changes _ _ _).mono (by decide)))
      (.refl _ _)
  all_goals exact .refl _ _

theorem strobeRaised_changes (s : State) : Changes captureParts s (strobeRaised s) := by
  unfold strobeRaised
  split
  · exact Changes.ite (finalParkCheck_changes _ _ _) (.refl _ _)
  all_goals exact .refl _ _

theorem strobeElapsed_changes (s : State) : Changes captureParts s (strobeElapsed s) := by
  unfold strobeElapsed
  split
  · exact Changes.ite (strobeEnds_changes _ _ _ _ _) (.refl _ _)
  all_goals exact .refl _ _

theorem strobeWatched_changes (s : State) : Changes captureParts s (strobeWatched s) := by
  unfold strobeWatched
  split
  · split
    · exact cutStrobe_changes _ _ _ _
    · exact .refl _ _
  all_goals exact .refl _ _

/-! ## The through-path -/

theorem acceptUpstream_changes (t : Transaction) (s : State) : Changes silentParts s (acceptUpstream t s) := by
  unfold acceptUpstream
  refine Changes.ite (.refl _ _) ?_
  intro p hp; cases p <;> simp_all [Part.same, silentParts]

theorem write_pump (a : Word) (ws : List BusWord) (s : State) :
    Changes (writeParts ++ silentParts) s (pump (serveWrite a ws s)) :=
  ((serveWrite_changes _ _ _).mono (by decide)).trans ((pump_changes _).mono (by decide))

theorem upstreamWriteServed_changes (s : State) :
    Changes (writeParts ++ silentParts) s (upstreamWriteServed s) := by
  unfold upstreamWriteServed
  split
  · exact write_pump _ _ _
  all_goals exact .refl _ _

theorem postWordServed_changes (s : State) : Changes (writeParts ++ silentParts) s (postWordServed s) := by
  unfold postWordServed
  split
  · exact Changes.ite (write_pump _ _ _) (.refl _ _)
  all_goals exact .refl _ _

theorem read_pump (a : Word) (n : Nat) (s : State) :
    Changes (readParts ++ silentParts) s (pump (serveRead a n s)) :=
  ((serveRead_changes _ _ _).mono (by decide)).trans ((pump_changes _).mono (by decide))

theorem accountClosingServed_changes (s : State) :
    Changes (readParts ++ silentParts) s (accountClosingServed s) := by
  unfold accountClosingServed
  split
  · exact Changes.ite (read_pump _ _ _) (.refl _ _)
  all_goals exact .refl _ _

theorem returnClosingServed_changes (s : State) :
    Changes (readParts ++ silentParts) s (returnClosingServed s) := by
  unfold returnClosingServed
  split
  · exact Changes.ite (read_pump _ _ _) (.refl _ _)
  all_goals exact .refl _ _

theorem arrive_pump (e : InternalEntry) (i : Half) (bs : List Byte) (s : State) (h : e.purpose = .ticketRead i) :
    Changes (haltParts ++ silentParts) s (pump (arrive i bs (serveInternal e s))) :=
  (((serveInternal_ticket e i s h).mono (by decide)).trans ((arrive_changes _ _ _).mono (by decide))).trans
    ((pump_changes _).mono (by decide))

theorem ticketArrives_changes (s : State) : Changes (haltParts ++ silentParts) s (ticketArrives s) := by
  unfold ticketArrives
  split
  · split
    · exact arrive_pump _ _ _ _ (by assumption)
    all_goals exact .refl _ _
  all_goals exact .refl _ _

theorem haltArrives_changes (s : State) : Changes (haltParts ++ silentParts) s (haltArrives s) := by
  unfold haltArrives
  split
  · split
    · split
      · exact arrive_pump _ _ _ _ (by assumption)
      · exact .refl _ _
    all_goals exact .refl _ _
  all_goals exact .refl _ _

theorem accountWriteIsServed_changes (s : State) :
    Changes (.account :: servingParts ++ silentParts) s (accountWriteIsServed s) := by
  unfold accountWriteIsServed
  split
  · split
    · exact (((serveInternal_changes _ _).mono (by decide)).trans ((accountPosted_changes _ _).mono (by decide))).trans
        ((pump_changes _).mono (by decide))
    all_goals exact .refl _ _
  all_goals exact .refl _ _

theorem returnWriteIsServed_changes (s : State) :
    Changes (.returnRing :: servingParts ++ silentParts) s (returnWriteIsServed s) := by
  unfold returnWriteIsServed
  split
  · split
    · exact (((serveInternal_changes _ _).mono (by decide)).trans ((returnPosted_changes _ _).mono (by decide))).trans
        ((pump_changes _).mono (by decide))
    all_goals exact .refl _ _
  all_goals exact .refl _ _

theorem statusServed_changes (s : State) : Changes [.statusMarks, .requests] s (statusServed s) := by
  have h : Changes [.statusMarks, .requests] s { s with ret := { s.ret with statusWaiting := false } } := by
    intro p hp; cases p <;> simp_all [Part.same]
  simp only [statusServed]
  exact Changes.ite (h.trans (placeStatus_changes _)) h

theorem statusWriteIsServed_changes (s : State) :
    Changes (.statusMarks :: servingParts ++ silentParts) s (statusWriteIsServed s) := by
  unfold statusWriteIsServed
  split
  · split
    · exact (((serveInternal_changes _ _).mono (by decide)).trans ((statusServed_changes _).mono (by decide))).trans
        ((pump_changes _).mono (by decide))
    all_goals exact .refl _ _
  all_goals exact .refl _ _

theorem toneToggles_changes (s : State) : Changes [.tone] s (toneToggles s) := by
  intro p hp; unfold toneToggles; (repeat' split) <;> cases p <;> simp_all [Part.same]

theorem chirpEnds_changes (s : State) : Changes [.tone] s (chirpEnds s) := by
  intro p hp; unfold chirpEnds; (repeat' split) <;> cases p <;> simp_all [Part.same]

/-! ## Start-up and settings -/

theorem releaseReset_changes (b : Bool) (s : State) : Changes [.settings, .ms] s (releaseReset b s) := by
  intro p hp; unfold releaseReset; split <;> cases p <;> simp_all [Part.same]

theorem retryWaitEnds_changes (s : State) : Changes [.settings] s (retryWaitEnds s) := by
  unfold retryWaitEnds
  split
  · exact .refl _ _
  · split
    · exact .refl _ _
    · exact Changes.ite ((setSettings_changes _ _).trans (sendI2c_changes _ _)) (.refl _ _)

theorem attemptCompletes_changes (r : Option (List Byte)) (s : State) :
    Changes loadingParts s (attemptCompletes r s) := by
  unfold attemptCompletes
  split
  · exact .refl _ _
  · exact Changes.ite (readAttempt_changes _ _ _) (.refl _ _)

theorem compareProfile_changes (p : Nat) (s : State) :
    Changes (.settings :: handParts) s (compareProfile p s) := by
  simp only [compareProfile]
  exact Changes.ite ((setSettings_changes _ _).mono (by decide))
    ((((setSettings_changes _ _).trans (setSettings_changes _ _)).mono (by decide)).trans
      ((latch_changes _ _ _ _ _).mono (by decide)))

theorem imageReadServed_changes (s : State) :
    Changes (.settings :: handParts ++ silentParts) s (imageReadServed s) := by
  unfold imageReadServed
  split
  · split
    · rename_i hp
      exact Changes.ite (((((serveInternal_image _ _ s hp).mono (by decide)).trans
        ((deliverImage_changes _ _).mono (by decide))).trans ((imageRead_changes _).mono (by decide))).trans
        ((pump_changes _).mono (by decide))) (.refl _ _)
    all_goals exact .refl _ _
  all_goals exact .refl _ _

theorem byteAcknowledged_changes (s : State) : Changes [.settings] s (byteAcknowledged s) := by
  unfold byteAcknowledged
  split
  · exact .refl _ _
  · split
    · exact Changes.ite (storeFrom_changes _ _ _) (.refl _ _)
    all_goals exact .refl _ _

theorem byteTimedOut_changes (s : State) : Changes (.settings :: handParts) s (byteTimedOut s) := by
  unfold byteTimedOut
  split
  · exact .refl _ _
  · split
    · exact Changes.ite (endConfigure_changes _ _ _) (.refl _ _)
    all_goals exact .refl _ _

theorem readbackCompletes_changes (r : Option (List Byte)) (s : State) :
    Changes (.settings :: handParts) s (readbackCompletes r s) := by
  unfold readbackCompletes
  split
  · exact .refl _ _
  · split
    · split
      · exact endConfigure_changes _ _ _
      · split <;> exact endConfigure_changes _ _ _
    all_goals exact .refl _ _

theorem reloadEnds_changes (s : State) : Changes restartParts s (reloadEnds s) := by
  unfold reloadEnds
  split
  · exact .refl _ _
  · split
    · exact .refl _ _
    · exact Changes.ite (refuseReload_changes _ _ _) (takeEffect_changes _ _ _)

/-- R173: a full reset leaves frame memory alone. -/
theorem assertReset_changes (s : State) : Changes (partsOf .resetnAssert) s (assertReset s) := by
  intro p hp; cases p <;> simp_all [Part.same, partsOf, assertReset]

end Sys2Proof.Machine
end

