-- ==== Sys2Proof/Laws/Memory.lean ====
section
/-! SUPPORT. Frame memory: what a byte reads after a write, and the canonical form through every operation. -/
namespace Sys2Proof.Machine

/-- A byte below every listed address reads as nothing written. -/
theorem readByte_absent (m : Memory) (a : Nat) (h : ∀ c ∈ m, a < c.1) : readByte m a = blankByte := by
  induction m with
  | nil => rfl
  | cons c m ih =>
    obtain ⟨k, b⟩ := c
    have hk := h (k, b) List.mem_cons_self
    simp only [readByte]
    rw [if_neg (by simp only at hk; omega)]
    exact ih fun c hc => h c (List.mem_cons_of_mem _ hc)

/-- A written byte reads as it was written. -/
theorem readByte_writeByte_same (m : Memory) (a : Nat) (v : Byte) (h : m.Pairwise fun c d => c.1 < d.1) :
    readByte (writeByte m a v) a = v := by
  induction m with
  | nil =>
    simp only [writeByte]
    split
    · simp_all [readByte]
    · simp [readByte]
  | cons c m ih =>
    obtain ⟨k, b⟩ := c
    have hm := (List.pairwise_cons.1 h).1
    simp only [writeByte]
    split
    · rename_i hlt
      split
      · rename_i hv
        subst hv
        refine readByte_absent _ _ fun c hc => ?_
        rcases List.mem_cons.1 hc with rfl | hc
        · exact hlt
        · exact Nat.lt_trans hlt (hm c hc)
      · simp [readByte]
    · split
      · rename_i hk
        subst hk
        split
        · rename_i hv
          subst hv
          exact readByte_absent _ _ hm
        · simp [readByte]
      · rename_i hk
        simp only [readByte, if_neg hk]
        exact ih (List.pairwise_cons.1 h).2

/-- A write leaves every other byte alone. -/
theorem readByte_writeByte_other (m : Memory) (a b : Nat) (v : Byte) (h : b ≠ a) :
    readByte (writeByte m a v) b = readByte m b := by
  induction m with
  | nil => simp only [writeByte]; split <;> simp [readByte, h]
  | cons c m ih =>
    obtain ⟨k, x⟩ := c
    simp only [writeByte]
    split
    · split
      · rfl
      · simp [readByte, h]
    · split
      · rename_i hk
        subst hk
        split <;> simp [readByte, h]
      · simp only [readByte, ih]

/-- The addresses listed after a write are the one written and those listed before. -/
theorem mem_writeByte (m : Memory) (a : Nat) (v : Byte) (c : Host.Cell) (h : c ∈ writeByte m a v) :
    (c = (a, v) ∧ v ≠ blankByte) ∨ c ∈ m := by
  induction m with
  | nil =>
    simp only [writeByte] at h
    split at h
    · cases h
    · rw [List.mem_singleton] at h
      exact .inl ⟨h, by assumption⟩
  | cons d m ih =>
    obtain ⟨k, x⟩ := d
    simp only [writeByte] at h
    split at h
    · split at h
      · exact .inr h
      · rcases List.mem_cons.1 h with h | h
        · exact .inl ⟨h, by assumption⟩
        · exact .inr h
    · split at h
      · split at h
        · exact .inr (List.mem_cons_of_mem _ h)
        · rcases List.mem_cons.1 h with h | h
          · exact .inl ⟨h, by assumption⟩
          · exact .inr (List.mem_cons_of_mem _ h)
      · rcases List.mem_cons.1 h with h | h
        · exact .inr (h ▸ List.mem_cons_self)
        · rcases ih h with h | h
          · exact .inl h
          · exact .inr (List.mem_cons_of_mem _ h)

theorem writeByte_sorted (m : Memory) (a : Nat) (v : Byte) (h : m.Pairwise fun c d => c.1 < d.1) :
    (writeByte m a v).Pairwise fun c d => c.1 < d.1 := by
  induction m with
  | nil => simp only [writeByte]; split <;> simp
  | cons d m ih =>
    obtain ⟨k, x⟩ := d
    have hm := List.pairwise_cons.1 h
    simp only [writeByte]
    split
    · rename_i hlt
      split
      · exact h
      · refine List.pairwise_cons.2 ⟨fun c hc => ?_, h⟩
        rcases List.mem_cons.1 hc with rfl | hc
        · exact hlt
        · exact Nat.lt_trans hlt (hm.1 c hc)
    · split
      · rename_i hk
        subst hk
        split
        · exact hm.2
        · exact List.pairwise_cons.2 ⟨fun c hc => hm.1 c hc, hm.2⟩
      · refine List.pairwise_cons.2 ⟨fun c hc => ?_, ih hm.2⟩
        rcases mem_writeByte m a v c hc with ⟨rfl, -⟩ | hc
        · show k < a
          omega
        · exact hm.1 c hc

/-- A write keeps the canonical form. -/
theorem writeByte_wf (m : Memory) (a : Nat) (v : Byte) (h : Memory.wf m) (ha : a < 4294967296) :
    Memory.wf (writeByte m a v) := by
  refine ⟨writeByte_sorted m a v h.1, fun c hc => ?_⟩
  rcases mem_writeByte m a v c hc with ⟨rfl, hv⟩ | hc
  · exact ⟨ha, hv⟩
  · exact h.2 c hc

theorem writeLane_wf (m : Memory) (a : Word) (w : BusWord) (i : Nat) (h : Memory.wf m) :
    Memory.wf (writeLane m a w i) := by
  unfold writeLane
  split
  · exact writeByte_wf _ _ _ h (BitVec.isLt _)
  · exact h

theorem writeWord_wf (m : Memory) (a : Word) (w : BusWord) (h : Memory.wf m) : Memory.wf (writeWord m a w) :=
  writeLane_wf _ _ _ _ (writeLane_wf _ _ _ _ (writeLane_wf _ _ _ _ (writeLane_wf _ _ _ _ h)))

theorem writeWords_wf (m : Memory) (a : Word) (ws : List BusWord) (h : Memory.wf m) :
    Memory.wf (writeWords m a ws) := by
  induction ws generalizing m a with
  | nil => exact h
  | cons w ws ih => exact ih _ _ (writeWord_wf _ _ _ h)

/-- The memory port's writes keep the canonical form. -/
theorem portWrite_wf (a : Word) (ws : List BusWord) (s : State) (h : Memory.wf s.memory) :
    Memory.wf (portWrite a ws s).memory := writeWords_wf _ _ _ h

/-- The memory at reset has the canonical form. -/
theorem reset_memory_wf : Memory.wf State.reset.memory := by
  simp [State.reset, Memory.wf]

/-- A lane whose byte enable is clear writes nothing. -/
theorem writeLane_clear (m : Memory) (a : Word) (w : BusWord) (i : Nat) (h : w.be.getLsbD i = false) :
    writeLane m a w i = m := by
  simp [writeLane, h]

/-- A word with no byte enabled writes nothing (R145). -/
theorem writeWord_clear (m : Memory) (a : Word) (w : BusWord) (h : w.be = 0) : writeWord m a w = m := by
  simp [writeWord, writeLane, h]

theorem readByte_writeLane_other (m : Memory) (a : Word) (w : BusWord) (i b : Nat)
    (h : b ≠ (a + BitVec.ofNat 32 i).toNat) : readByte (writeLane m a w i) b = readByte m b := by
  unfold writeLane
  split
  · exact readByte_writeByte_other _ _ _ _ h
  · rfl

/-- A word write leaves every byte outside its four alone. -/
theorem readByte_writeWord_other (m : Memory) (a : Word) (w : BusWord) (b : Nat)
    (h : ∀ i < 4, b ≠ (a + BitVec.ofNat 32 i).toNat) : readByte (writeWord m a w) b = readByte m b := by
  unfold writeWord
  rw [readByte_writeLane_other _ _ _ _ _ (h 3 (by decide)), readByte_writeLane_other _ _ _ _ _ (h 2 (by decide)),
    readByte_writeLane_other _ _ _ _ _ (h 1 (by decide)), readByte_writeLane_other _ _ _ _ _ (h 0 (by decide))]

/-- A burst leaves every byte outside its words alone. -/
theorem readByte_writeWords_other (m : Memory) (a : Word) (ws : List BusWord) (b : Nat)
    (h : ∀ j < ws.length, ∀ i < 4, b ≠ (a + BitVec.ofNat 32 (4 * j) + BitVec.ofNat 32 i).toNat) :
    readByte (writeWords m a ws) b = readByte m b := by
  induction ws generalizing m a with
  | nil => rfl
  | cons w ws ih =>
    simp only [writeWords]
    rw [ih]
    · refine readByte_writeWord_other _ _ _ _ fun i hi => ?_
      simpa using h 0 (by simp) i hi
    · intro j hj i hi
      have := h (j + 1) (by simp [hj]) i hi
      have e : a + BitVec.ofNat 32 (4 * (j + 1)) = a + 4 + BitVec.ofNat 32 (4 * j) := by
        rw [show 4 * (j + 1) = 4 + 4 * j by omega, BitVec.ofNat_add, ← BitVec.add_assoc]
        rfl
      rwa [e] at this

end Sys2Proof.Machine
end

