-- ==== Sys2Proof/Laws/State.lean ====
section
/-! SUPPORT. The fields of a state after each named update, one lemma for each field, so that no proof unfolds a record
update. -/
namespace Sys2Proof.Machine

/-! ## setSettings -/

@[simp] theorem setSettings_settings (u : SettingsUnit) (s : State) : (setSettings u s).settings = u := rfl
@[simp] theorem setSettings_ms (u : SettingsUnit) (s : State) : (setSettings u s).ms = s.ms := rfl
@[simp] theorem setSettings_tickets (u : SettingsUnit) (s : State) : (setSettings u s).tickets = s.tickets := rfl
@[simp] theorem setSettings_volumes (u : SettingsUnit) (s : State) : (setSettings u s).volumes = s.volumes := rfl
@[simp] theorem setSettings_account (u : SettingsUnit) (s : State) : (setSettings u s).account = s.account := rfl
@[simp] theorem setSettings_ret (u : SettingsUnit) (s : State) : (setSettings u s).ret = s.ret := rfl
@[simp] theorem setSettings_motion (u : SettingsUnit) (s : State) : (setSettings u s).motion = s.motion := rfl
@[simp] theorem setSettings_link (u : SettingsUnit) (s : State) : (setSettings u s).link = s.link := rfl
@[simp] theorem setSettings_position (u : SettingsUnit) (s : State) : (setSettings u s).position = s.position := rfl
@[simp] theorem setSettings_seq (u : SettingsUnit) (s : State) : (setSettings u s).seq = s.seq := rfl
@[simp] theorem setSettings_lamps (u : SettingsUnit) (s : State) : (setSettings u s).lamps = s.lamps := rfl
@[simp] theorem setSettings_capture (u : SettingsUnit) (s : State) : (setSettings u s).capture = s.capture := rfl
@[simp] theorem setSettings_frames (u : SettingsUnit) (s : State) : (setSettings u s).frames = s.frames := rfl
@[simp] theorem setSettings_path (u : SettingsUnit) (s : State) : (setSettings u s).path = s.path := rfl
@[simp] theorem setSettings_memory (u : SettingsUnit) (s : State) : (setSettings u s).memory = s.memory := rfl
@[simp] theorem setSettings_stopLine (u : SettingsUnit) (s : State) : (setSettings u s).stopLine = s.stopLine := rfl
@[simp] theorem setSettings_resumeLine (u : SettingsUnit) (s : State) :
    (setSettings u s).resumeLine = s.resumeLine := rfl
@[simp] theorem setSettings_freeChoices (u : SettingsUnit) (s : State) :
    (setSettings u s).freeChoices = s.freeChoices := rfl
@[simp] theorem setSettings_pending (u : SettingsUnit) (s : State) : (setSettings u s).pending = s.pending := rfl

/-! ## setActive -/

@[simp] theorem setActive_settings (a : Option Nat) (s : State) : (setActive a s).settings = s.settings := rfl
@[simp] theorem setActive_ms (a : Option Nat) (s : State) : (setActive a s).ms = s.ms := rfl
@[simp] theorem setActive_tickets (a : Option Nat) (s : State) : (setActive a s).tickets = s.tickets := rfl
@[simp] theorem setActive_volumes (a : Option Nat) (s : State) :
    (setActive a s).volumes = { s.volumes with active := a } := rfl
@[simp] theorem setActive_account (a : Option Nat) (s : State) : (setActive a s).account = s.account := rfl
@[simp] theorem setActive_ret (a : Option Nat) (s : State) : (setActive a s).ret = s.ret := rfl
@[simp] theorem setActive_motion (a : Option Nat) (s : State) : (setActive a s).motion = s.motion := rfl
@[simp] theorem setActive_link (a : Option Nat) (s : State) : (setActive a s).link = s.link := rfl
@[simp] theorem setActive_position (a : Option Nat) (s : State) : (setActive a s).position = s.position := rfl
@[simp] theorem setActive_seq (a : Option Nat) (s : State) : (setActive a s).seq = s.seq := rfl
@[simp] theorem setActive_lamps (a : Option Nat) (s : State) : (setActive a s).lamps = s.lamps := rfl
@[simp] theorem setActive_capture (a : Option Nat) (s : State) : (setActive a s).capture = s.capture := rfl
@[simp] theorem setActive_frames (a : Option Nat) (s : State) : (setActive a s).frames = s.frames := rfl
@[simp] theorem setActive_path (a : Option Nat) (s : State) : (setActive a s).path = s.path := rfl
@[simp] theorem setActive_memory (a : Option Nat) (s : State) : (setActive a s).memory = s.memory := rfl
@[simp] theorem setActive_stopLine (a : Option Nat) (s : State) : (setActive a s).stopLine = s.stopLine := rfl
@[simp] theorem setActive_resumeLine (a : Option Nat) (s : State) : (setActive a s).resumeLine = s.resumeLine := rfl
@[simp] theorem setActive_freeChoices (a : Option Nat) (s : State) : (setActive a s).freeChoices = s.freeChoices := rfl
@[simp] theorem setActive_pending (a : Option Nat) (s : State) : (setActive a s).pending = s.pending := rfl

/-! ## setVolume -/

@[simp] theorem setVolume_settings (slot : Nat) (v : Option Volume) (s : State) :
    (setVolume slot v s).settings = s.settings := rfl
@[simp] theorem setVolume_ms (slot : Nat) (v : Option Volume) (s : State) : (setVolume slot v s).ms = s.ms := rfl
@[simp] theorem setVolume_tickets (slot : Nat) (v : Option Volume) (s : State) :
    (setVolume slot v s).tickets = s.tickets := rfl
@[simp] theorem setVolume_volumes (slot : Nat) (v : Option Volume) (s : State) :
    (setVolume slot v s).volumes = { s.volumes with entries := s.volumes.entries.set slot v } := rfl
@[simp] theorem setVolume_account (slot : Nat) (v : Option Volume) (s : State) :
    (setVolume slot v s).account = s.account := rfl
@[simp] theorem setVolume_ret (slot : Nat) (v : Option Volume) (s : State) : (setVolume slot v s).ret = s.ret := rfl
@[simp] theorem setVolume_motion (slot : Nat) (v : Option Volume) (s : State) :
    (setVolume slot v s).motion = s.motion := rfl
@[simp] theorem setVolume_link (slot : Nat) (v : Option Volume) (s : State) : (setVolume slot v s).link = s.link := rfl
@[simp] theorem setVolume_position (slot : Nat) (v : Option Volume) (s : State) :
    (setVolume slot v s).position = s.position := rfl
@[simp] theorem setVolume_seq (slot : Nat) (v : Option Volume) (s : State) : (setVolume slot v s).seq = s.seq := rfl
@[simp] theorem setVolume_lamps (slot : Nat) (v : Option Volume) (s : State) :
    (setVolume slot v s).lamps = s.lamps := rfl
@[simp] theorem setVolume_capture (slot : Nat) (v : Option Volume) (s : State) :
    (setVolume slot v s).capture = s.capture := rfl
@[simp] theorem setVolume_frames (slot : Nat) (v : Option Volume) (s : State) :
    (setVolume slot v s).frames = s.frames := rfl
@[simp] theorem setVolume_path (slot : Nat) (v : Option Volume) (s : State) : (setVolume slot v s).path = s.path := rfl
@[simp] theorem setVolume_memory (slot : Nat) (v : Option Volume) (s : State) :
    (setVolume slot v s).memory = s.memory := rfl
@[simp] theorem setVolume_stopLine (slot : Nat) (v : Option Volume) (s : State) :
    (setVolume slot v s).stopLine = s.stopLine := rfl
@[simp] theorem setVolume_resumeLine (slot : Nat) (v : Option Volume) (s : State) :
    (setVolume slot v s).resumeLine = s.resumeLine := rfl
@[simp] theorem setVolume_freeChoices (slot : Nat) (v : Option Volume) (s : State) :
    (setVolume slot v s).freeChoices = s.freeChoices := rfl
@[simp] theorem setVolume_pending (slot : Nat) (v : Option Volume) (s : State) :
    (setVolume slot v s).pending = s.pending := rfl

/-! ## grantSlots -/

@[simp] theorem grantSlots_settings (n : Nat) (s : State) : (grantSlots n s).settings = s.settings := rfl
@[simp] theorem grantSlots_ms (n : Nat) (s : State) : (grantSlots n s).ms = s.ms := rfl
@[simp] theorem grantSlots_tickets (n : Nat) (s : State) : (grantSlots n s).tickets = s.tickets := rfl
@[simp] theorem grantSlots_volumes (n : Nat) (s : State) : (grantSlots n s).volumes = s.volumes := rfl
@[simp] theorem grantSlots_account (n : Nat) (s : State) :
    (grantSlots n s).account = { s.account with reserved := s.account.reserved + n } := rfl
@[simp] theorem grantSlots_ret (n : Nat) (s : State) : (grantSlots n s).ret = s.ret := rfl
@[simp] theorem grantSlots_motion (n : Nat) (s : State) : (grantSlots n s).motion = s.motion := rfl
@[simp] theorem grantSlots_link (n : Nat) (s : State) : (grantSlots n s).link = s.link := rfl
@[simp] theorem grantSlots_position (n : Nat) (s : State) : (grantSlots n s).position = s.position := rfl
@[simp] theorem grantSlots_seq (n : Nat) (s : State) : (grantSlots n s).seq = s.seq := rfl
@[simp] theorem grantSlots_lamps (n : Nat) (s : State) : (grantSlots n s).lamps = s.lamps := rfl
@[simp] theorem grantSlots_capture (n : Nat) (s : State) : (grantSlots n s).capture = s.capture := rfl
@[simp] theorem grantSlots_frames (n : Nat) (s : State) : (grantSlots n s).frames = s.frames := rfl
@[simp] theorem grantSlots_path (n : Nat) (s : State) : (grantSlots n s).path = s.path := rfl
@[simp] theorem grantSlots_memory (n : Nat) (s : State) : (grantSlots n s).memory = s.memory := rfl
@[simp] theorem grantSlots_stopLine (n : Nat) (s : State) : (grantSlots n s).stopLine = s.stopLine := rfl
@[simp] theorem grantSlots_resumeLine (n : Nat) (s : State) : (grantSlots n s).resumeLine = s.resumeLine := rfl
@[simp] theorem grantSlots_freeChoices (n : Nat) (s : State) : (grantSlots n s).freeChoices = s.freeChoices := rfl
@[simp] theorem grantSlots_pending (n : Nat) (s : State) : (grantSlots n s).pending = s.pending := rfl

/-! ## releaseSlots -/

@[simp] theorem releaseSlots_settings (n : Nat) (s : State) : (releaseSlots n s).settings = s.settings := rfl
@[simp] theorem releaseSlots_ms (n : Nat) (s : State) : (releaseSlots n s).ms = s.ms := rfl
@[simp] theorem releaseSlots_tickets (n : Nat) (s : State) : (releaseSlots n s).tickets = s.tickets := rfl
@[simp] theorem releaseSlots_volumes (n : Nat) (s : State) : (releaseSlots n s).volumes = s.volumes := rfl
@[simp] theorem releaseSlots_account (n : Nat) (s : State) :
    (releaseSlots n s).account = { s.account with reserved := s.account.reserved - n } := rfl
@[simp] theorem releaseSlots_ret (n : Nat) (s : State) : (releaseSlots n s).ret = s.ret := rfl
@[simp] theorem releaseSlots_motion (n : Nat) (s : State) : (releaseSlots n s).motion = s.motion := rfl
@[simp] theorem releaseSlots_link (n : Nat) (s : State) : (releaseSlots n s).link = s.link := rfl
@[simp] theorem releaseSlots_position (n : Nat) (s : State) : (releaseSlots n s).position = s.position := rfl
@[simp] theorem releaseSlots_seq (n : Nat) (s : State) : (releaseSlots n s).seq = s.seq := rfl
@[simp] theorem releaseSlots_lamps (n : Nat) (s : State) : (releaseSlots n s).lamps = s.lamps := rfl
@[simp] theorem releaseSlots_capture (n : Nat) (s : State) : (releaseSlots n s).capture = s.capture := rfl
@[simp] theorem releaseSlots_frames (n : Nat) (s : State) : (releaseSlots n s).frames = s.frames := rfl
@[simp] theorem releaseSlots_path (n : Nat) (s : State) : (releaseSlots n s).path = s.path := rfl
@[simp] theorem releaseSlots_memory (n : Nat) (s : State) : (releaseSlots n s).memory = s.memory := rfl
@[simp] theorem releaseSlots_stopLine (n : Nat) (s : State) : (releaseSlots n s).stopLine = s.stopLine := rfl
@[simp] theorem releaseSlots_resumeLine (n : Nat) (s : State) : (releaseSlots n s).resumeLine = s.resumeLine := rfl
@[simp] theorem releaseSlots_freeChoices (n : Nat) (s : State) : (releaseSlots n s).freeChoices = s.freeChoices := rfl
@[simp] theorem releaseSlots_pending (n : Nat) (s : State) : (releaseSlots n s).pending = s.pending := rfl

/-! ## setCapture -/

@[simp] theorem setCapture_settings (c : CaptureState) (s : State) : (setCapture c s).settings = s.settings := rfl
@[simp] theorem setCapture_ms (c : CaptureState) (s : State) : (setCapture c s).ms = s.ms := rfl
@[simp] theorem setCapture_tickets (c : CaptureState) (s : State) : (setCapture c s).tickets = s.tickets := rfl
@[simp] theorem setCapture_volumes (c : CaptureState) (s : State) : (setCapture c s).volumes = s.volumes := rfl
@[simp] theorem setCapture_account (c : CaptureState) (s : State) : (setCapture c s).account = s.account := rfl
@[simp] theorem setCapture_ret (c : CaptureState) (s : State) : (setCapture c s).ret = s.ret := rfl
@[simp] theorem setCapture_motion (c : CaptureState) (s : State) : (setCapture c s).motion = s.motion := rfl
@[simp] theorem setCapture_link (c : CaptureState) (s : State) : (setCapture c s).link = s.link := rfl
@[simp] theorem setCapture_position (c : CaptureState) (s : State) : (setCapture c s).position = s.position := rfl
@[simp] theorem setCapture_seq (c : CaptureState) (s : State) : (setCapture c s).seq = s.seq := rfl
@[simp] theorem setCapture_lamps (c : CaptureState) (s : State) : (setCapture c s).lamps = s.lamps := rfl
@[simp] theorem setCapture_capture (c : CaptureState) (s : State) :
    (setCapture c s).capture = { s.capture with state := c } := rfl
@[simp] theorem setCapture_frames (c : CaptureState) (s : State) : (setCapture c s).frames = s.frames := rfl
@[simp] theorem setCapture_path (c : CaptureState) (s : State) : (setCapture c s).path = s.path := rfl
@[simp] theorem setCapture_memory (c : CaptureState) (s : State) : (setCapture c s).memory = s.memory := rfl
@[simp] theorem setCapture_stopLine (c : CaptureState) (s : State) : (setCapture c s).stopLine = s.stopLine := rfl
@[simp] theorem setCapture_resumeLine (c : CaptureState) (s : State) : (setCapture c s).resumeLine = s.resumeLine := rfl
@[simp] theorem setCapture_freeChoices (c : CaptureState) (s : State) :
    (setCapture c s).freeChoices = s.freeChoices := rfl
@[simp] theorem setCapture_pending (c : CaptureState) (s : State) : (setCapture c s).pending = s.pending := rfl

/-! ## lowerLines -/

@[simp] theorem lowerLines_settings (s : State) : (lowerLines s).settings = s.settings := rfl
@[simp] theorem lowerLines_ms (s : State) : (lowerLines s).ms = s.ms := rfl
@[simp] theorem lowerLines_tickets (s : State) : (lowerLines s).tickets = s.tickets := rfl
@[simp] theorem lowerLines_volumes (s : State) : (lowerLines s).volumes = s.volumes := rfl
@[simp] theorem lowerLines_account (s : State) : (lowerLines s).account = s.account := rfl
@[simp] theorem lowerLines_ret (s : State) : (lowerLines s).ret = s.ret := rfl
@[simp] theorem lowerLines_motion (s : State) : (lowerLines s).motion = s.motion := rfl
@[simp] theorem lowerLines_link (s : State) : (lowerLines s).link = s.link := rfl
@[simp] theorem lowerLines_position (s : State) : (lowerLines s).position = s.position := rfl
@[simp] theorem lowerLines_seq (s : State) : (lowerLines s).seq = s.seq := rfl
@[simp] theorem lowerLines_lamps (s : State) : (lowerLines s).lamps = s.lamps := rfl
@[simp] theorem lowerLines_capture (s : State) :
    (lowerLines s).capture = { s.capture with strobe := { v := false, r := false }, trig := { v := false, r := false } } := rfl
@[simp] theorem lowerLines_frames (s : State) : (lowerLines s).frames = s.frames := rfl
@[simp] theorem lowerLines_path (s : State) : (lowerLines s).path = s.path := rfl
@[simp] theorem lowerLines_memory (s : State) : (lowerLines s).memory = s.memory := rfl
@[simp] theorem lowerLines_stopLine (s : State) : (lowerLines s).stopLine = s.stopLine := rfl
@[simp] theorem lowerLines_resumeLine (s : State) : (lowerLines s).resumeLine = s.resumeLine := rfl
@[simp] theorem lowerLines_freeChoices (s : State) : (lowerLines s).freeChoices = s.freeChoices := rfl
@[simp] theorem lowerLines_pending (s : State) : (lowerLines s).pending = s.pending := rfl

/-! ## setWindow -/

@[simp] theorem setWindow_settings (i : Nat) (w : Option Window) (s : State) :
    (setWindow i w s).settings = s.settings := rfl
@[simp] theorem setWindow_ms (i : Nat) (w : Option Window) (s : State) : (setWindow i w s).ms = s.ms := rfl
@[simp] theorem setWindow_tickets (i : Nat) (w : Option Window) (s : State) :
    (setWindow i w s).tickets = s.tickets := rfl
@[simp] theorem setWindow_volumes (i : Nat) (w : Option Window) (s : State) :
    (setWindow i w s).volumes = s.volumes := rfl
@[simp] theorem setWindow_account (i : Nat) (w : Option Window) (s : State) :
    (setWindow i w s).account = s.account := rfl
@[simp] theorem setWindow_ret (i : Nat) (w : Option Window) (s : State) : (setWindow i w s).ret = s.ret := rfl
@[simp] theorem setWindow_motion (i : Nat) (w : Option Window) (s : State) : (setWindow i w s).motion = s.motion := rfl
@[simp] theorem setWindow_link (i : Nat) (w : Option Window) (s : State) : (setWindow i w s).link = s.link := rfl
@[simp] theorem setWindow_position (i : Nat) (w : Option Window) (s : State) :
    (setWindow i w s).position = s.position := rfl
@[simp] theorem setWindow_seq (i : Nat) (w : Option Window) (s : State) : (setWindow i w s).seq = s.seq := rfl
@[simp] theorem setWindow_lamps (i : Nat) (w : Option Window) (s : State) : (setWindow i w s).lamps = s.lamps := rfl
@[simp] theorem setWindow_capture (i : Nat) (w : Option Window) (s : State) :
    (setWindow i w s).capture = s.capture := rfl
@[simp] theorem setWindow_frames (i : Nat) (w : Option Window) (s : State) :
    (setWindow i w s).frames = { s.frames with windows := s.frames.windows.set i w } := rfl
@[simp] theorem setWindow_path (i : Nat) (w : Option Window) (s : State) : (setWindow i w s).path = s.path := rfl
@[simp] theorem setWindow_memory (i : Nat) (w : Option Window) (s : State) : (setWindow i w s).memory = s.memory := rfl
@[simp] theorem setWindow_stopLine (i : Nat) (w : Option Window) (s : State) :
    (setWindow i w s).stopLine = s.stopLine := rfl
@[simp] theorem setWindow_resumeLine (i : Nat) (w : Option Window) (s : State) :
    (setWindow i w s).resumeLine = s.resumeLine := rfl
@[simp] theorem setWindow_freeChoices (i : Nat) (w : Option Window) (s : State) :
    (setWindow i w s).freeChoices = s.freeChoices := rfl
@[simp] theorem setWindow_pending (i : Nat) (w : Option Window) (s : State) :
    (setWindow i w s).pending = s.pending := rfl

/-! ## setBar -/

@[simp] theorem setBar_settings (side : Side) (b : Bar) (s : State) : (setBar side b s).settings = s.settings := rfl
@[simp] theorem setBar_ms (side : Side) (b : Bar) (s : State) : (setBar side b s).ms = s.ms := rfl
@[simp] theorem setBar_tickets (side : Side) (b : Bar) (s : State) : (setBar side b s).tickets = s.tickets := rfl
@[simp] theorem setBar_volumes (side : Side) (b : Bar) (s : State) : (setBar side b s).volumes = s.volumes := rfl
@[simp] theorem setBar_account (side : Side) (b : Bar) (s : State) : (setBar side b s).account = s.account := rfl
@[simp] theorem setBar_ret (side : Side) (b : Bar) (s : State) : (setBar side b s).ret = s.ret := rfl
@[simp] theorem setBar_motion (side : Side) (b : Bar) (s : State) : (setBar side b s).motion = s.motion := rfl
@[simp] theorem setBar_link (side : Side) (b : Bar) (s : State) : (setBar side b s).link = s.link := rfl
@[simp] theorem setBar_position (side : Side) (b : Bar) (s : State) : (setBar side b s).position = s.position := rfl
@[simp] theorem setBar_seq (side : Side) (b : Bar) (s : State) : (setBar side b s).seq = s.seq := rfl
@[simp] theorem setBar_lamps (side : Side) (b : Bar) (s : State) : (setBar side b s).lamps = s.lamps.set side b := rfl
@[simp] theorem setBar_capture (side : Side) (b : Bar) (s : State) : (setBar side b s).capture = s.capture := rfl
@[simp] theorem setBar_frames (side : Side) (b : Bar) (s : State) : (setBar side b s).frames = s.frames := rfl
@[simp] theorem setBar_path (side : Side) (b : Bar) (s : State) : (setBar side b s).path = s.path := rfl
@[simp] theorem setBar_memory (side : Side) (b : Bar) (s : State) : (setBar side b s).memory = s.memory := rfl
@[simp] theorem setBar_stopLine (side : Side) (b : Bar) (s : State) : (setBar side b s).stopLine = s.stopLine := rfl
@[simp] theorem setBar_resumeLine (side : Side) (b : Bar) (s : State) :
    (setBar side b s).resumeLine = s.resumeLine := rfl
@[simp] theorem setBar_freeChoices (side : Side) (b : Bar) (s : State) :
    (setBar side b s).freeChoices = s.freeChoices := rfl
@[simp] theorem setBar_pending (side : Side) (b : Bar) (s : State) : (setBar side b s).pending = s.pending := rfl

/-! ## setSeq -/

@[simp] theorem setSeq_settings (q : Sequencer) (s : State) : (setSeq q s).settings = s.settings := rfl
@[simp] theorem setSeq_ms (q : Sequencer) (s : State) : (setSeq q s).ms = s.ms := rfl
@[simp] theorem setSeq_tickets (q : Sequencer) (s : State) : (setSeq q s).tickets = s.tickets := rfl
@[simp] theorem setSeq_volumes (q : Sequencer) (s : State) : (setSeq q s).volumes = s.volumes := rfl
@[simp] theorem setSeq_account (q : Sequencer) (s : State) : (setSeq q s).account = s.account := rfl
@[simp] theorem setSeq_ret (q : Sequencer) (s : State) : (setSeq q s).ret = s.ret := rfl
@[simp] theorem setSeq_motion (q : Sequencer) (s : State) : (setSeq q s).motion = s.motion := rfl
@[simp] theorem setSeq_link (q : Sequencer) (s : State) : (setSeq q s).link = s.link := rfl
@[simp] theorem setSeq_position (q : Sequencer) (s : State) : (setSeq q s).position = s.position := rfl
@[simp] theorem setSeq_seq (q : Sequencer) (s : State) : (setSeq q s).seq = q := rfl
@[simp] theorem setSeq_lamps (q : Sequencer) (s : State) : (setSeq q s).lamps = s.lamps := rfl
@[simp] theorem setSeq_capture (q : Sequencer) (s : State) : (setSeq q s).capture = s.capture := rfl
@[simp] theorem setSeq_frames (q : Sequencer) (s : State) : (setSeq q s).frames = s.frames := rfl
@[simp] theorem setSeq_path (q : Sequencer) (s : State) : (setSeq q s).path = s.path := rfl
@[simp] theorem setSeq_memory (q : Sequencer) (s : State) : (setSeq q s).memory = s.memory := rfl
@[simp] theorem setSeq_stopLine (q : Sequencer) (s : State) : (setSeq q s).stopLine = s.stopLine := rfl
@[simp] theorem setSeq_resumeLine (q : Sequencer) (s : State) : (setSeq q s).resumeLine = s.resumeLine := rfl
@[simp] theorem setSeq_freeChoices (q : Sequencer) (s : State) : (setSeq q s).freeChoices = s.freeChoices := rfl
@[simp] theorem setSeq_pending (q : Sequencer) (s : State) : (setSeq q s).pending = s.pending := rfl

/-! ## setHead -/

@[simp] theorem setHead_settings (h : Head) (u : HeadUnit) (s : State) : (setHead h u s).settings = s.settings := rfl
@[simp] theorem setHead_ms (h : Head) (u : HeadUnit) (s : State) : (setHead h u s).ms = s.ms := rfl
@[simp] theorem setHead_tickets (h : Head) (u : HeadUnit) (s : State) : (setHead h u s).tickets = s.tickets := rfl
@[simp] theorem setHead_volumes (h : Head) (u : HeadUnit) (s : State) : (setHead h u s).volumes = s.volumes := rfl
@[simp] theorem setHead_account (h : Head) (u : HeadUnit) (s : State) : (setHead h u s).account = s.account := rfl
@[simp] theorem setHead_ret (h : Head) (u : HeadUnit) (s : State) : (setHead h u s).ret = s.ret := rfl
@[simp] theorem setHead_motion (h : Head) (u : HeadUnit) (s : State) : (setHead h u s).motion = s.motion := rfl
@[simp] theorem setHead_link (h : Head) (u : HeadUnit) (s : State) : (setHead h u s).link = s.link := rfl
@[simp] theorem setHead_position (h : Head) (u : HeadUnit) (s : State) :
    (setHead h u s).position = { s.position with heads := s.position.heads.set h u } := rfl
@[simp] theorem setHead_seq (h : Head) (u : HeadUnit) (s : State) : (setHead h u s).seq = s.seq := rfl
@[simp] theorem setHead_lamps (h : Head) (u : HeadUnit) (s : State) : (setHead h u s).lamps = s.lamps := rfl
@[simp] theorem setHead_capture (h : Head) (u : HeadUnit) (s : State) : (setHead h u s).capture = s.capture := rfl
@[simp] theorem setHead_frames (h : Head) (u : HeadUnit) (s : State) : (setHead h u s).frames = s.frames := rfl
@[simp] theorem setHead_path (h : Head) (u : HeadUnit) (s : State) : (setHead h u s).path = s.path := rfl
@[simp] theorem setHead_memory (h : Head) (u : HeadUnit) (s : State) : (setHead h u s).memory = s.memory := rfl
@[simp] theorem setHead_stopLine (h : Head) (u : HeadUnit) (s : State) : (setHead h u s).stopLine = s.stopLine := rfl
@[simp] theorem setHead_resumeLine (h : Head) (u : HeadUnit) (s : State) :
    (setHead h u s).resumeLine = s.resumeLine := rfl
@[simp] theorem setHead_freeChoices (h : Head) (u : HeadUnit) (s : State) :
    (setHead h u s).freeChoices = s.freeChoices := rfl
@[simp] theorem setHead_pending (h : Head) (u : HeadUnit) (s : State) : (setHead h u s).pending = s.pending := rfl

/-! ## sampleSwitches -/

@[simp] theorem sampleSwitches_settings (sw : Switches) (s : State) : (sampleSwitches sw s).settings = s.settings := rfl
@[simp] theorem sampleSwitches_ms (sw : Switches) (s : State) : (sampleSwitches sw s).ms = s.ms := rfl
@[simp] theorem sampleSwitches_tickets (sw : Switches) (s : State) : (sampleSwitches sw s).tickets = s.tickets := rfl
@[simp] theorem sampleSwitches_volumes (sw : Switches) (s : State) : (sampleSwitches sw s).volumes = s.volumes := rfl
@[simp] theorem sampleSwitches_account (sw : Switches) (s : State) : (sampleSwitches sw s).account = s.account := rfl
@[simp] theorem sampleSwitches_ret (sw : Switches) (s : State) : (sampleSwitches sw s).ret = s.ret := rfl
@[simp] theorem sampleSwitches_motion (sw : Switches) (s : State) :
    (sampleSwitches sw s).motion = { s.motion with switches := sw } := rfl
@[simp] theorem sampleSwitches_link (sw : Switches) (s : State) : (sampleSwitches sw s).link = s.link := rfl
@[simp] theorem sampleSwitches_position (sw : Switches) (s : State) : (sampleSwitches sw s).position = s.position := rfl
@[simp] theorem sampleSwitches_seq (sw : Switches) (s : State) : (sampleSwitches sw s).seq = s.seq := rfl
@[simp] theorem sampleSwitches_lamps (sw : Switches) (s : State) : (sampleSwitches sw s).lamps = s.lamps := rfl
@[simp] theorem sampleSwitches_capture (sw : Switches) (s : State) : (sampleSwitches sw s).capture = s.capture := rfl
@[simp] theorem sampleSwitches_frames (sw : Switches) (s : State) : (sampleSwitches sw s).frames = s.frames := rfl
@[simp] theorem sampleSwitches_path (sw : Switches) (s : State) : (sampleSwitches sw s).path = s.path := rfl
@[simp] theorem sampleSwitches_memory (sw : Switches) (s : State) : (sampleSwitches sw s).memory = s.memory := rfl
@[simp] theorem sampleSwitches_stopLine (sw : Switches) (s : State) : (sampleSwitches sw s).stopLine = s.stopLine := rfl
@[simp] theorem sampleSwitches_resumeLine (sw : Switches) (s : State) :
    (sampleSwitches sw s).resumeLine = s.resumeLine := rfl
@[simp] theorem sampleSwitches_freeChoices (sw : Switches) (s : State) :
    (sampleSwitches sw s).freeChoices = s.freeChoices := rfl
@[simp] theorem sampleSwitches_pending (sw : Switches) (s : State) : (sampleSwitches sw s).pending = s.pending := rfl

/-! ## endArm -/

@[simp] theorem endArm_settings (k : EndKind) (n : Nat) (s : State) : (endArm k n s).settings = s.settings := rfl
@[simp] theorem endArm_ms (k : EndKind) (n : Nat) (s : State) : (endArm k n s).ms = s.ms := rfl
@[simp] theorem endArm_tickets (k : EndKind) (n : Nat) (s : State) : (endArm k n s).tickets = s.tickets := rfl
@[simp] theorem endArm_volumes (k : EndKind) (n : Nat) (s : State) : (endArm k n s).volumes = s.volumes := rfl
@[simp] theorem endArm_account (k : EndKind) (n : Nat) (s : State) : (endArm k n s).account = s.account := rfl
@[simp] theorem endArm_ret (k : EndKind) (n : Nat) (s : State) : (endArm k n s).ret = s.ret := rfl
@[simp] theorem endArm_motion (k : EndKind) (n : Nat) (s : State) :
    (endArm k n s).motion = { s.motion with arm := none, armEnd := some { kind := k, taken := n } } := rfl
@[simp] theorem endArm_link (k : EndKind) (n : Nat) (s : State) : (endArm k n s).link = s.link := rfl
@[simp] theorem endArm_position (k : EndKind) (n : Nat) (s : State) : (endArm k n s).position = s.position := rfl
@[simp] theorem endArm_seq (k : EndKind) (n : Nat) (s : State) : (endArm k n s).seq = s.seq := rfl
@[simp] theorem endArm_lamps (k : EndKind) (n : Nat) (s : State) : (endArm k n s).lamps = s.lamps := rfl
@[simp] theorem endArm_capture (k : EndKind) (n : Nat) (s : State) : (endArm k n s).capture = s.capture := rfl
@[simp] theorem endArm_frames (k : EndKind) (n : Nat) (s : State) : (endArm k n s).frames = s.frames := rfl
@[simp] theorem endArm_path (k : EndKind) (n : Nat) (s : State) : (endArm k n s).path = s.path := rfl
@[simp] theorem endArm_memory (k : EndKind) (n : Nat) (s : State) : (endArm k n s).memory = s.memory := rfl
@[simp] theorem endArm_stopLine (k : EndKind) (n : Nat) (s : State) : (endArm k n s).stopLine = s.stopLine := rfl
@[simp] theorem endArm_resumeLine (k : EndKind) (n : Nat) (s : State) : (endArm k n s).resumeLine = s.resumeLine := rfl
@[simp] theorem endArm_freeChoices (k : EndKind) (n : Nat) (s : State) :
    (endArm k n s).freeChoices = s.freeChoices := rfl
@[simp] theorem endArm_pending (k : EndKind) (n : Nat) (s : State) : (endArm k n s).pending = s.pending := rfl

/-! ## endPlaten -/

@[simp] theorem endPlaten_settings (k : EndKind) (n : Nat) (s : State) : (endPlaten k n s).settings = s.settings := rfl
@[simp] theorem endPlaten_ms (k : EndKind) (n : Nat) (s : State) : (endPlaten k n s).ms = s.ms := rfl
@[simp] theorem endPlaten_tickets (k : EndKind) (n : Nat) (s : State) : (endPlaten k n s).tickets = s.tickets := rfl
@[simp] theorem endPlaten_volumes (k : EndKind) (n : Nat) (s : State) : (endPlaten k n s).volumes = s.volumes := rfl
@[simp] theorem endPlaten_account (k : EndKind) (n : Nat) (s : State) : (endPlaten k n s).account = s.account := rfl
@[simp] theorem endPlaten_ret (k : EndKind) (n : Nat) (s : State) : (endPlaten k n s).ret = s.ret := rfl
@[simp] theorem endPlaten_motion (k : EndKind) (n : Nat) (s : State) :
    (endPlaten k n s).motion = { s.motion with
      platen := none, platenEnd := some { kind := k, taken := n, switches := s.motion.switches } } := rfl
@[simp] theorem endPlaten_link (k : EndKind) (n : Nat) (s : State) : (endPlaten k n s).link = s.link := rfl
@[simp] theorem endPlaten_position (k : EndKind) (n : Nat) (s : State) : (endPlaten k n s).position = s.position := rfl
@[simp] theorem endPlaten_seq (k : EndKind) (n : Nat) (s : State) : (endPlaten k n s).seq = s.seq := rfl
@[simp] theorem endPlaten_lamps (k : EndKind) (n : Nat) (s : State) : (endPlaten k n s).lamps = s.lamps := rfl
@[simp] theorem endPlaten_capture (k : EndKind) (n : Nat) (s : State) : (endPlaten k n s).capture = s.capture := rfl
@[simp] theorem endPlaten_frames (k : EndKind) (n : Nat) (s : State) : (endPlaten k n s).frames = s.frames := rfl
@[simp] theorem endPlaten_path (k : EndKind) (n : Nat) (s : State) : (endPlaten k n s).path = s.path := rfl
@[simp] theorem endPlaten_memory (k : EndKind) (n : Nat) (s : State) : (endPlaten k n s).memory = s.memory := rfl
@[simp] theorem endPlaten_stopLine (k : EndKind) (n : Nat) (s : State) : (endPlaten k n s).stopLine = s.stopLine := rfl
@[simp] theorem endPlaten_resumeLine (k : EndKind) (n : Nat) (s : State) :
    (endPlaten k n s).resumeLine = s.resumeLine := rfl
@[simp] theorem endPlaten_freeChoices (k : EndKind) (n : Nat) (s : State) :
    (endPlaten k n s).freeChoices = s.freeChoices := rfl
@[simp] theorem endPlaten_pending (k : EndKind) (n : Nat) (s : State) : (endPlaten k n s).pending = s.pending := rfl

/-! ## setChecks -/

@[simp] theorem setChecks_settings (l : List RoundCheck) (s : State) : (setChecks l s).settings = s.settings := rfl
@[simp] theorem setChecks_ms (l : List RoundCheck) (s : State) : (setChecks l s).ms = s.ms := rfl
@[simp] theorem setChecks_tickets (l : List RoundCheck) (s : State) : (setChecks l s).tickets = s.tickets := rfl
@[simp] theorem setChecks_volumes (l : List RoundCheck) (s : State) : (setChecks l s).volumes = s.volumes := rfl
@[simp] theorem setChecks_account (l : List RoundCheck) (s : State) : (setChecks l s).account = s.account := rfl
@[simp] theorem setChecks_ret (l : List RoundCheck) (s : State) : (setChecks l s).ret = s.ret := rfl
@[simp] theorem setChecks_motion (l : List RoundCheck) (s : State) : (setChecks l s).motion = s.motion := rfl
@[simp] theorem setChecks_link (l : List RoundCheck) (s : State) : (setChecks l s).link = s.link := rfl
@[simp] theorem setChecks_position (l : List RoundCheck) (s : State) :
    (setChecks l s).position = { s.position with checks := l } := rfl
@[simp] theorem setChecks_seq (l : List RoundCheck) (s : State) : (setChecks l s).seq = s.seq := rfl
@[simp] theorem setChecks_lamps (l : List RoundCheck) (s : State) : (setChecks l s).lamps = s.lamps := rfl
@[simp] theorem setChecks_capture (l : List RoundCheck) (s : State) : (setChecks l s).capture = s.capture := rfl
@[simp] theorem setChecks_frames (l : List RoundCheck) (s : State) : (setChecks l s).frames = s.frames := rfl
@[simp] theorem setChecks_path (l : List RoundCheck) (s : State) : (setChecks l s).path = s.path := rfl
@[simp] theorem setChecks_memory (l : List RoundCheck) (s : State) : (setChecks l s).memory = s.memory := rfl
@[simp] theorem setChecks_stopLine (l : List RoundCheck) (s : State) : (setChecks l s).stopLine = s.stopLine := rfl
@[simp] theorem setChecks_resumeLine (l : List RoundCheck) (s : State) :
    (setChecks l s).resumeLine = s.resumeLine := rfl
@[simp] theorem setChecks_freeChoices (l : List RoundCheck) (s : State) :
    (setChecks l s).freeChoices = s.freeChoices := rfl
@[simp] theorem setChecks_pending (l : List RoundCheck) (s : State) : (setChecks l s).pending = s.pending := rfl

/-! ## roundFallsDue -/

@[simp] theorem roundFallsDue_settings (s : State) : (roundFallsDue s).settings = s.settings := rfl
@[simp] theorem roundFallsDue_ms (s : State) : (roundFallsDue s).ms = s.ms := rfl
@[simp] theorem roundFallsDue_tickets (s : State) : (roundFallsDue s).tickets = s.tickets := rfl
@[simp] theorem roundFallsDue_volumes (s : State) : (roundFallsDue s).volumes = s.volumes := rfl
@[simp] theorem roundFallsDue_account (s : State) : (roundFallsDue s).account = s.account := rfl
@[simp] theorem roundFallsDue_ret (s : State) : (roundFallsDue s).ret = s.ret := rfl
@[simp] theorem roundFallsDue_motion (s : State) : (roundFallsDue s).motion = s.motion := rfl
@[simp] theorem roundFallsDue_link (s : State) : (roundFallsDue s).link = s.link := rfl
@[simp] theorem roundFallsDue_position (s : State) :
    (roundFallsDue s).position = { s.position with
      due := s.position.due ++ [s.ms], lastRound := s.ms, nextRound := after s.ms (roundPeriod s) } := rfl
@[simp] theorem roundFallsDue_seq (s : State) : (roundFallsDue s).seq = s.seq := rfl
@[simp] theorem roundFallsDue_lamps (s : State) : (roundFallsDue s).lamps = s.lamps := rfl
@[simp] theorem roundFallsDue_capture (s : State) : (roundFallsDue s).capture = s.capture := rfl
@[simp] theorem roundFallsDue_frames (s : State) : (roundFallsDue s).frames = s.frames := rfl
@[simp] theorem roundFallsDue_path (s : State) : (roundFallsDue s).path = s.path := rfl
@[simp] theorem roundFallsDue_memory (s : State) : (roundFallsDue s).memory = s.memory := rfl
@[simp] theorem roundFallsDue_stopLine (s : State) : (roundFallsDue s).stopLine = s.stopLine := rfl
@[simp] theorem roundFallsDue_resumeLine (s : State) : (roundFallsDue s).resumeLine = s.resumeLine := rfl
@[simp] theorem roundFallsDue_freeChoices (s : State) : (roundFallsDue s).freeChoices = s.freeChoices := rfl
@[simp] theorem roundFallsDue_pending (s : State) : (roundFallsDue s).pending = s.pending := rfl

/-! ## sendI2c -/

@[simp] theorem sendI2c_settings (l : List I2cTransfer) (s : State) :
    (sendI2c l s).settings = { s.settings with i2c := s.settings.i2c ++ l } := rfl
@[simp] theorem sendI2c_ms (l : List I2cTransfer) (s : State) : (sendI2c l s).ms = s.ms := rfl
@[simp] theorem sendI2c_tickets (l : List I2cTransfer) (s : State) : (sendI2c l s).tickets = s.tickets := rfl
@[simp] theorem sendI2c_volumes (l : List I2cTransfer) (s : State) : (sendI2c l s).volumes = s.volumes := rfl
@[simp] theorem sendI2c_account (l : List I2cTransfer) (s : State) : (sendI2c l s).account = s.account := rfl
@[simp] theorem sendI2c_ret (l : List I2cTransfer) (s : State) : (sendI2c l s).ret = s.ret := rfl
@[simp] theorem sendI2c_motion (l : List I2cTransfer) (s : State) : (sendI2c l s).motion = s.motion := rfl
@[simp] theorem sendI2c_link (l : List I2cTransfer) (s : State) : (sendI2c l s).link = s.link := rfl
@[simp] theorem sendI2c_position (l : List I2cTransfer) (s : State) : (sendI2c l s).position = s.position := rfl
@[simp] theorem sendI2c_seq (l : List I2cTransfer) (s : State) : (sendI2c l s).seq = s.seq := rfl
@[simp] theorem sendI2c_lamps (l : List I2cTransfer) (s : State) : (sendI2c l s).lamps = s.lamps := rfl
@[simp] theorem sendI2c_capture (l : List I2cTransfer) (s : State) : (sendI2c l s).capture = s.capture := rfl
@[simp] theorem sendI2c_frames (l : List I2cTransfer) (s : State) : (sendI2c l s).frames = s.frames := rfl
@[simp] theorem sendI2c_path (l : List I2cTransfer) (s : State) : (sendI2c l s).path = s.path := rfl
@[simp] theorem sendI2c_memory (l : List I2cTransfer) (s : State) : (sendI2c l s).memory = s.memory := rfl
@[simp] theorem sendI2c_stopLine (l : List I2cTransfer) (s : State) : (sendI2c l s).stopLine = s.stopLine := rfl
@[simp] theorem sendI2c_resumeLine (l : List I2cTransfer) (s : State) : (sendI2c l s).resumeLine = s.resumeLine := rfl
@[simp] theorem sendI2c_freeChoices (l : List I2cTransfer) (s : State) :
    (sendI2c l s).freeChoices = s.freeChoices := rfl
@[simp] theorem sendI2c_pending (l : List I2cTransfer) (s : State) : (sendI2c l s).pending = s.pending := rfl

/-! ## endExchange -/

@[simp] theorem endExchange_settings (s : State) : (endExchange s).settings = s.settings := rfl
@[simp] theorem endExchange_ms (s : State) : (endExchange s).ms = s.ms := rfl
@[simp] theorem endExchange_tickets (s : State) : (endExchange s).tickets = s.tickets := rfl
@[simp] theorem endExchange_volumes (s : State) : (endExchange s).volumes = s.volumes := rfl
@[simp] theorem endExchange_account (s : State) : (endExchange s).account = s.account := rfl
@[simp] theorem endExchange_ret (s : State) : (endExchange s).ret = s.ret := rfl
@[simp] theorem endExchange_motion (s : State) : (endExchange s).motion = s.motion := rfl
@[simp] theorem endExchange_link (s : State) :
    (endExchange s).link = { s.link with exchange := none, discard := false } := rfl
@[simp] theorem endExchange_position (s : State) : (endExchange s).position = s.position := rfl
@[simp] theorem endExchange_seq (s : State) : (endExchange s).seq = s.seq := rfl
@[simp] theorem endExchange_lamps (s : State) : (endExchange s).lamps = s.lamps := rfl
@[simp] theorem endExchange_capture (s : State) : (endExchange s).capture = s.capture := rfl
@[simp] theorem endExchange_frames (s : State) : (endExchange s).frames = s.frames := rfl
@[simp] theorem endExchange_path (s : State) : (endExchange s).path = s.path := rfl
@[simp] theorem endExchange_memory (s : State) : (endExchange s).memory = s.memory := rfl
@[simp] theorem endExchange_stopLine (s : State) : (endExchange s).stopLine = s.stopLine := rfl
@[simp] theorem endExchange_resumeLine (s : State) : (endExchange s).resumeLine = s.resumeLine := rfl
@[simp] theorem endExchange_freeChoices (s : State) : (endExchange s).freeChoices = s.freeChoices := rfl
@[simp] theorem endExchange_pending (s : State) : (endExchange s).pending = s.pending := rfl

/-! ## popHead -/

@[simp] theorem popHead_settings (s : State) : (popHead s).settings = s.settings := rfl
@[simp] theorem popHead_ms (s : State) : (popHead s).ms = s.ms := rfl
@[simp] theorem popHead_tickets (s : State) : (popHead s).tickets = withoutHead s.tickets := rfl
@[simp] theorem popHead_volumes (s : State) : (popHead s).volumes = s.volumes := rfl
@[simp] theorem popHead_account (s : State) : (popHead s).account = s.account := rfl
@[simp] theorem popHead_ret (s : State) : (popHead s).ret = s.ret := rfl
@[simp] theorem popHead_motion (s : State) : (popHead s).motion = s.motion := rfl
@[simp] theorem popHead_link (s : State) : (popHead s).link = s.link := rfl
@[simp] theorem popHead_position (s : State) : (popHead s).position = s.position := rfl
@[simp] theorem popHead_seq (s : State) : (popHead s).seq = s.seq := rfl
@[simp] theorem popHead_lamps (s : State) : (popHead s).lamps = s.lamps := rfl
@[simp] theorem popHead_capture (s : State) : (popHead s).capture = s.capture := rfl
@[simp] theorem popHead_frames (s : State) : (popHead s).frames = s.frames := rfl
@[simp] theorem popHead_path (s : State) : (popHead s).path = s.path := rfl
@[simp] theorem popHead_memory (s : State) : (popHead s).memory = s.memory := rfl
@[simp] theorem popHead_stopLine (s : State) : (popHead s).stopLine = s.stopLine := rfl
@[simp] theorem popHead_resumeLine (s : State) : (popHead s).resumeLine = s.resumeLine := rfl
@[simp] theorem popHead_freeChoices (s : State) : (popHead s).freeChoices = s.freeChoices := rfl
@[simp] theorem popHead_pending (s : State) : (popHead s).pending = s.pending := rfl

/-! ## dropBarrier -/

@[simp] theorem dropBarrier_settings (s : State) : (dropBarrier s).settings = s.settings := rfl
@[simp] theorem dropBarrier_ms (s : State) : (dropBarrier s).ms = s.ms := rfl
@[simp] theorem dropBarrier_tickets (s : State) : (dropBarrier s).tickets = { s.tickets with barrier := false } := rfl
@[simp] theorem dropBarrier_volumes (s : State) : (dropBarrier s).volumes = s.volumes := rfl
@[simp] theorem dropBarrier_account (s : State) : (dropBarrier s).account = s.account := rfl
@[simp] theorem dropBarrier_ret (s : State) : (dropBarrier s).ret = s.ret := rfl
@[simp] theorem dropBarrier_motion (s : State) : (dropBarrier s).motion = s.motion := rfl
@[simp] theorem dropBarrier_link (s : State) : (dropBarrier s).link = s.link := rfl
@[simp] theorem dropBarrier_position (s : State) : (dropBarrier s).position = s.position := rfl
@[simp] theorem dropBarrier_seq (s : State) : (dropBarrier s).seq = s.seq := rfl
@[simp] theorem dropBarrier_lamps (s : State) : (dropBarrier s).lamps = s.lamps := rfl
@[simp] theorem dropBarrier_capture (s : State) : (dropBarrier s).capture = s.capture := rfl
@[simp] theorem dropBarrier_frames (s : State) : (dropBarrier s).frames = s.frames := rfl
@[simp] theorem dropBarrier_path (s : State) : (dropBarrier s).path = s.path := rfl
@[simp] theorem dropBarrier_memory (s : State) : (dropBarrier s).memory = s.memory := rfl
@[simp] theorem dropBarrier_stopLine (s : State) : (dropBarrier s).stopLine = s.stopLine := rfl
@[simp] theorem dropBarrier_resumeLine (s : State) : (dropBarrier s).resumeLine = s.resumeLine := rfl
@[simp] theorem dropBarrier_freeChoices (s : State) : (dropBarrier s).freeChoices = s.freeChoices := rfl
@[simp] theorem dropBarrier_pending (s : State) : (dropBarrier s).pending = s.pending := rfl

/-! ## enqueue -/

@[simp] theorem enqueue_settings (t : Ticket) (s : State) : (enqueue t s).settings = s.settings := rfl
@[simp] theorem enqueue_ms (t : Ticket) (s : State) : (enqueue t s).ms = s.ms := rfl
@[simp] theorem enqueue_tickets (t : Ticket) (s : State) :
    (enqueue t s).tickets = { s.tickets with queue := s.tickets.queue ++ [t] } := rfl
@[simp] theorem enqueue_volumes (t : Ticket) (s : State) : (enqueue t s).volumes = s.volumes := rfl
@[simp] theorem enqueue_account (t : Ticket) (s : State) : (enqueue t s).account = s.account := rfl
@[simp] theorem enqueue_ret (t : Ticket) (s : State) : (enqueue t s).ret = s.ret := rfl
@[simp] theorem enqueue_motion (t : Ticket) (s : State) : (enqueue t s).motion = s.motion := rfl
@[simp] theorem enqueue_link (t : Ticket) (s : State) : (enqueue t s).link = s.link := rfl
@[simp] theorem enqueue_position (t : Ticket) (s : State) : (enqueue t s).position = s.position := rfl
@[simp] theorem enqueue_seq (t : Ticket) (s : State) : (enqueue t s).seq = s.seq := rfl
@[simp] theorem enqueue_lamps (t : Ticket) (s : State) : (enqueue t s).lamps = s.lamps := rfl
@[simp] theorem enqueue_capture (t : Ticket) (s : State) : (enqueue t s).capture = s.capture := rfl
@[simp] theorem enqueue_frames (t : Ticket) (s : State) : (enqueue t s).frames = s.frames := rfl
@[simp] theorem enqueue_path (t : Ticket) (s : State) : (enqueue t s).path = s.path := rfl
@[simp] theorem enqueue_memory (t : Ticket) (s : State) : (enqueue t s).memory = s.memory := rfl
@[simp] theorem enqueue_stopLine (t : Ticket) (s : State) : (enqueue t s).stopLine = s.stopLine := rfl
@[simp] theorem enqueue_resumeLine (t : Ticket) (s : State) : (enqueue t s).resumeLine = s.resumeLine := rfl
@[simp] theorem enqueue_freeChoices (t : Ticket) (s : State) : (enqueue t s).freeChoices = s.freeChoices := rfl
@[simp] theorem enqueue_pending (t : Ticket) (s : State) : (enqueue t s).pending = s.pending := rfl

/-! ## enterLatched -/

@[simp] theorem enterLatched_settings (f : LatchedFault) (s : State) : (enterLatched f s).settings = s.settings := rfl
@[simp] theorem enterLatched_ms (f : LatchedFault) (s : State) : (enterLatched f s).ms = s.ms := rfl
@[simp] theorem enterLatched_tickets (f : LatchedFault) (s : State) : (enterLatched f s).tickets = s.tickets := rfl
@[simp] theorem enterLatched_volumes (f : LatchedFault) (s : State) : (enterLatched f s).volumes = s.volumes := rfl
@[simp] theorem enterLatched_account (f : LatchedFault) (s : State) : (enterLatched f s).account = s.account := rfl
@[simp] theorem enterLatched_ret (f : LatchedFault) (s : State) :
    (enterLatched f s).ret = { s.ret with latched := insertFault s.ret.latched f } := rfl
@[simp] theorem enterLatched_motion (f : LatchedFault) (s : State) : (enterLatched f s).motion = s.motion := rfl
@[simp] theorem enterLatched_link (f : LatchedFault) (s : State) : (enterLatched f s).link = s.link := rfl
@[simp] theorem enterLatched_position (f : LatchedFault) (s : State) : (enterLatched f s).position = s.position := rfl
@[simp] theorem enterLatched_seq (f : LatchedFault) (s : State) : (enterLatched f s).seq = s.seq := rfl
@[simp] theorem enterLatched_lamps (f : LatchedFault) (s : State) : (enterLatched f s).lamps = s.lamps := rfl
@[simp] theorem enterLatched_capture (f : LatchedFault) (s : State) : (enterLatched f s).capture = s.capture := rfl
@[simp] theorem enterLatched_frames (f : LatchedFault) (s : State) : (enterLatched f s).frames = s.frames := rfl
@[simp] theorem enterLatched_path (f : LatchedFault) (s : State) : (enterLatched f s).path = s.path := rfl
@[simp] theorem enterLatched_memory (f : LatchedFault) (s : State) : (enterLatched f s).memory = s.memory := rfl
@[simp] theorem enterLatched_stopLine (f : LatchedFault) (s : State) : (enterLatched f s).stopLine = s.stopLine := rfl
@[simp] theorem enterLatched_resumeLine (f : LatchedFault) (s : State) :
    (enterLatched f s).resumeLine = s.resumeLine := rfl
@[simp] theorem enterLatched_freeChoices (f : LatchedFault) (s : State) :
    (enterLatched f s).freeChoices = s.freeChoices := rfl
@[simp] theorem enterLatched_pending (f : LatchedFault) (s : State) : (enterLatched f s).pending = s.pending := rfl

/-! ## putFirst -/

@[simp] theorem putFirst_settings (i : Instr) (s : State) : (putFirst i s).settings = s.settings := rfl
@[simp] theorem putFirst_ms (i : Instr) (s : State) : (putFirst i s).ms = s.ms := rfl
@[simp] theorem putFirst_tickets (i : Instr) (s : State) : (putFirst i s).tickets = s.tickets := rfl
@[simp] theorem putFirst_volumes (i : Instr) (s : State) : (putFirst i s).volumes = s.volumes := rfl
@[simp] theorem putFirst_account (i : Instr) (s : State) : (putFirst i s).account = s.account := rfl
@[simp] theorem putFirst_ret (i : Instr) (s : State) : (putFirst i s).ret = s.ret := rfl
@[simp] theorem putFirst_motion (i : Instr) (s : State) : (putFirst i s).motion = s.motion := rfl
@[simp] theorem putFirst_link (i : Instr) (s : State) : (putFirst i s).link = s.link := rfl
@[simp] theorem putFirst_position (i : Instr) (s : State) : (putFirst i s).position = s.position := rfl
@[simp] theorem putFirst_seq (i : Instr) (s : State) : (putFirst i s).seq = s.seq := rfl
@[simp] theorem putFirst_lamps (i : Instr) (s : State) : (putFirst i s).lamps = s.lamps := rfl
@[simp] theorem putFirst_capture (i : Instr) (s : State) : (putFirst i s).capture = s.capture := rfl
@[simp] theorem putFirst_frames (i : Instr) (s : State) : (putFirst i s).frames = s.frames := rfl
@[simp] theorem putFirst_path (i : Instr) (s : State) : (putFirst i s).path = s.path := rfl
@[simp] theorem putFirst_memory (i : Instr) (s : State) : (putFirst i s).memory = s.memory := rfl
@[simp] theorem putFirst_stopLine (i : Instr) (s : State) : (putFirst i s).stopLine = s.stopLine := rfl
@[simp] theorem putFirst_resumeLine (i : Instr) (s : State) : (putFirst i s).resumeLine = s.resumeLine := rfl
@[simp] theorem putFirst_freeChoices (i : Instr) (s : State) : (putFirst i s).freeChoices = s.freeChoices := rfl
@[simp] theorem putFirst_pending (i : Instr) (s : State) : (putFirst i s).pending = i :: s.pending := rfl

/-! ## Pairs -/

@[simp] theorem PerSide.get_set_same {α : Type} (p : PerSide α) (side : Side) (x : α) :
    (p.set side x).get side = x := by cases side <;> rfl

theorem PerSide.get_set_other {α : Type} (p : PerSide α) (side other : Side) (x : α)
    (h : other ≠ side) : (p.set side x).get other = p.get other := by cases side <;> cases other <;> simp_all [PerSide.set, PerSide.get]

@[simp] theorem PerHead.get_set_same {α : Type} (p : PerHead α) (h : Head) (x : α) :
    (p.set h x).get h = x := by cases h <;> rfl

theorem PerHead.get_set_other {α : Type} (p : PerHead α) (head other : Head) (x : α)
    (h : other ≠ head) : (p.set head x).get other = p.get other := by cases head <;> cases other <;> simp_all [PerHead.set, PerHead.get]

end Sys2Proof.Machine
end

