-- ==== Sys2Proof/Tests/Slice0.lean ====
section
/-! SUPPORT. Tests: terms that are not well formed, the check values and worked examples of the spec, small single
steps, and for each statement with hypotheses a witness that meets them. -/
namespace Sys2Proof.Tests
open Sys2Proof Sys2Proof.Machine

-- One thread: many proofs by kernel evaluation started at once run out of threads.
set_option Elab.async false

/-! ## Well-formedness: one ill-formed term for each check -/

theorem test_misaligned_read_refused : (Instr.upstreamTransaction (.read 2 1)).wf = false := by decide
theorem test_empty_read_refused : (Instr.upstreamTransaction (.read 4 0)).wf = false := by decide
theorem test_long_read_refused : (Instr.upstreamTransaction (.read 4 17)).wf = false := by decide
theorem test_misaligned_write_refused : (Instr.upstreamTransaction (.write 1 [⟨0, 15⟩])).wf = false := by decide
theorem test_empty_write_refused : (Instr.upstreamTransaction (.write 4 [])).wf = false := by decide
theorem test_long_write_refused : (Instr.upstreamTransaction (.write 4 (List.replicate 17 ⟨0, 15⟩))).wf = false := by
  decide
theorem test_window_four_refused : (Instr.frameTimeout 4).wf = false := by decide
theorem test_short_section_refused : (Instr.eepromReadAttempt (some [])).wf = false := by decide
theorem test_short_readback_refused : (Instr.storeReadback (some [0])).wf = false := by decide
theorem test_longest_burst_formed : (Instr.upstreamTransaction (.read 0xFFFFFFFC 16)).wf = true := by decide
theorem test_no_word_spells_a_command : decodeTableWord 8 0 = none := rfl

/-! ## Check values and worked examples -/

/-- The digits "123456789" (section 12.5). -/
def digits : List Byte := [0x31, 0x32, 0x33, 0x34, 0x35, 0x36, 0x37, 0x38, 0x39]

/-- Table 12-11. -/
theorem test_crc32_check_value : crc32 digits = 0xCBF43926 := by decide +kernel
/-- Table 12-11. -/
theorem test_crc16_check_value : crc16 digits = 0x29B1 := by decide +kernel

/-- The ramp of a move with top rung 7 after a number of steps (R41), as steps remaining and rung. -/
def rungAfter (requested steps : Nat) : Nat × Nat :=
  let r := (List.range steps).foldl (fun x _ => reviewRung 7 (stepTaken x)) (newRamp requested 7)
  (remaining r, r.rung)

/-- Table 3-2: the rung changes of a 100-step move; a 30-step move stays at rung 0 (section 3.1). -/
theorem test_ramp_of_table_3_2 : rungAfter 100 23 = (77, 0) ∧ rungAfter 100 24 = (76, 1) ∧ rungAfter 100 48 = (52, 2)
    ∧ rungAfter 100 51 = (49, 2) ∧ rungAfter 100 52 = (48, 1) ∧ rungAfter 100 75 = (25, 1) ∧ rungAfter 100 76 = (24, 0)
    ∧ rungAfter 30 24 = (6, 0) := by decide +kernel

/-- Section 3.2, the worked examples, and the moves of Table 4-5. -/
theorem test_steps_of_section_3_2 : (moveSteps 3200 1000 3100, movePositive 1000 3100) = (1559, false)
    ∧ (moveSteps 3200 4000 100, movePositive 4000 100) = (153, true) ∧ moveSteps 200 2000 2001 = 0
    ∧ moveSteps 2048 2000 2001 = 1 ∧ (moveSteps 3200 2049 2600, movePositive 2049 2600) = (430, true)
    ∧ (moveSteps 3200 1516 1500, movePositive 1516 1500) = (13, false) ∧ movePositive 0 2048 = false := by
  decide +kernel

/-- Tables 7-3, 7-4 and 7-5, a mean below 64, and a mean at the edge of the dead band. -/
theorem test_regulator_of_section_7_6 : regulate 500 32768 28000 40 8192 20 900 = some 585
    ∧ regulate 585 32768 60000 700 8192 20 900 = some 439 ∧ regulate 585 32768 29952 0 8192 20 450 = some 450
    ∧ regulate 500 32768 63 8192 8192 20 900 = none ∧ regulate 500 32768 33280 0 8192 20 900 = none := by
  decide +kernel

/-- A ticket of a kind with tag 0x4D at ring index 0: its flags, and its parameters from byte 8. -/
def ticketOf (kind flags : Nat) (parameters : List Byte) : Ticket :=
  { index := 0
    bytes := (put16 kind ++ put16 0x4D ++ put16 0 ++ put16 flags ++ parameters ++ zeros 64).take 64 }

/-- A volume with a one-letter shelf mark: six leaves, at opening 2, 100 units of which none is used, 40 ms. -/
def volume (letter : Byte) : Volume :=
  { shelfMark := [letter], leafCount := some 6, opening := 2, take := 0, nextSequence := 1, chain := 0,
    allowance := 100000, doseUsed := 0, target := 32768, exposure := 40, drive := { v := 400, r := 400 },
    regulation := true, unpressed := false, captureCount := 0, exceptions := [], overfull := false, openedAt := 0 }

/-- The settings of profile 0 with the default map. -/
def settings0 : Settings :=
  { map := defaultMap, mapOrigin := .eeprom, mech := profileDefaults 0, mechOrigin := .eeprom }

/-- A head that is UP at an angle sampled at millisecond 100. -/
def headUp (angle : Nat) : HeadUnit :=
  { good := some { angle := angle, time := 100 }, life := some 0, badCount := 0, goodCount := 3, up := true,
    warned := false }

/-- READY at millisecond 100, the arm IDLE at park, both heads UP, two volumes held and the second ACTIVE, the link busy
with a sample of head A. -/
def ready : State :=
  { State.reset with
    settings := { State.reset.settings with startup := .ready, working := some settings0, profileDue := 200 }
    ms := 100
    volumes := { entries := [some (volume 0x41), some (volume 0x42), none, none, none, none, none, none],
                 active := some 1 }
    position := { State.reset.position with
      heads := { a := headUp 2048, b := headUp 2048 }, fused := some { angle := 2048, time := 100 }, nextRound := 120 }
    seq := { State.reset.seq with arm := .idle }
    link := { State.reset.link with exchange := some (.sample .a { round := 0, time := 100 }) }
    stopLine := 40, resumeLine := 40 }

/-- The state with a ticket at the head of the fetched queue. -/
def offered (t : Ticket) (s : State) : State := { s with tickets := { s.tickets with queue := [t] } }

/-- The state with the ACTIVE volume replaced. -/
def withVolume (v : Volume) (s : State) : State :=
  { s with volumes := { s.volumes with entries := s.volumes.entries.set 1 (some v) } }

/-- What the next state shows; none when a command faults or is refused. -/
def shows {α : Type} (i : Instr) (s : State) (f : State → α) : Option α :=
  match exec i s with
  | .next t => some (f t)
  | .fault _ => none
  | .refused _ => none

/-- The records handed over in a step from a state with an empty return ring: they wait in the request queue. -/
def written (t : State) : List (List Byte) :=
  (waiting t).filterMap fun e => match e.purpose with
    | .returnWrite _ => some e.data
    | .ticketRead _ | .accountWrite _ | .statusWrite | .imageRead _ => none

/-- Five numbers read from a record. -/
structure Row where
  a : Nat
  b : Nat
  c : Nat
  d : Nat
  e : Nat
  deriving DecidableEq, Repr

/-- The record kind, the slot or letter, the ticket kind or event, the outcome and the detail of the return records
written (Table 12-3). -/
def briefly (t : State) : List Row :=
  (written t).map fun b => ⟨byteAt b 0, byteAt b 1, le16At b 2, byteAt b 6, le32At b 8⟩

/-! ## Single steps -/

/-- The parameters of an OPEN of shelf mark "C" with these fields (Table 12-2). -/
def openParameters (leaves opening units target time codeV codeR : Nat) : List Byte :=
  put8 1 ++ [0x43] ++ zeros 32 ++ put16 leaves ++ put16 opening ++ zeros 2 ++ put32 units ++ put16 target ++ put16 time
    ++ put16 codeV ++ put16 codeR ++ zeros 4

/-- The OPEN of section 1.5. -/
def openTicket : Ticket := ticketOf 1 0 (openParameters 6 0 200 32768 40 0 0)

/-- Section 1.5: the entry after OPEN: 200,000 c·ms, both codes 400, next sequence 1; R13: DONE, detail 1 when PARKED. -/
theorem test_open_fills_lowest_entry :
    shows .openVolume (offered openTicket ready) (fun t => (volumeAt t 2).map fun v =>
        (v.leafCount, v.allowance, v.drive, v.nextSequence))
      = some (some (some 6, 200000, { v := 400, r := 400 }, 1))
    ∧ shows .openVolume (offered openTicket ready) briefly = some [⟨1, 2, 1, 0, 1⟩] := by decide +kernel

/-- R15: the detail is the slot that was ACTIVE. -/
theorem test_select_names_old_slot :
    shows .select (offered (ticketOf 2 0 [0]) ready) (fun t => (t.volumes.active, briefly t))
      = some (some 0, [⟨1, 0, 2, 0, 1⟩]) := by decide +kernel

/-- R16. -/
theorem test_park_leaves_no_active :
    shows .park (offered (ticketOf 3 0 []) ready) (fun t => (t.volumes.active, entryState t 1))
      = some (none, .parked) := by decide +kernel

/-- The list of Table 1-5 after step 7. -/
def listed : List ExceptionEntry := [⟨1, .r, .disordered⟩, ⟨3, .r, .skipped⟩, ⟨4, .v, .skipped⟩]

/-- Table 1-6: three EXCEPTION records and a CLOSED record from sequence 11; INCOMPLETE with detail 3. -/
theorem test_close_of_table_1_6 :
    shows .close (offered (ticketOf 4 0 [1]) (withVolume { volume 0x42 with exceptions := listed, nextSequence := 11 } ready))
        (fun t => (t.volumes.active, volumeAt t 1, briefly t,
          (waiting t).filterMap fun e => match e.purpose with
            | .accountWrite _ => some (⟨byteAt e.data 0, le32At e.data 36, le16At e.data 42,
                byteAt e.data 44, byteAt e.data 45⟩ : Row)
            | .ticketRead _ | .returnWrite _ | .statusWrite | .imageRead _ => none))
      = some (none, none, [⟨1, 1, 4, 1, 3⟩], [⟨4, 11, 1, 2, 2⟩, ⟨4, 12, 3, 2, 0⟩, ⟨4, 13, 4, 1, 0⟩, ⟨5, 14, 0, 0, 0⟩]) := by
  decide +kernel

/-- Table 1-5, step 6: +2 from opening 1; R19: back past the first opening. -/
theorem test_manual_of_table_1_5 :
    shows .manual (offered (ticketOf 5 0 (put16 2)) (withVolume { volume 0x42 with opening := 1, take := 2 } ready))
        (fun t => (volumeAt t 1).map fun v => (v.opening, v.take)) = some (some (3, 0))
    ∧ shows .manual (offered (ticketOf 5 0 (put16 65533)) ready) briefly = some [⟨1, 1, 5, 10, 0⟩] := by decide +kernel

/-- Table 1-5, step 5: four entries placed, none left out. -/
theorem test_skip_of_table_1_5 :
    shows .skip (offered (ticketOf 6 0 ([1, 0] ++ put16 3 ++ [2, 3]))
        (withVolume { volume 0x42 with exceptions := [⟨1, .r, .disordered⟩] } ready))
        (fun t => ((volumeAt t 1).map fun v => v.exceptions, briefly t))
      = some (some [⟨1, .r, .disordered⟩, ⟨3, .v, .skipped⟩, ⟨3, .r, .skipped⟩, ⟨4, .v, .skipped⟩, ⟨4, .r, .skipped⟩],
          [⟨1, 1, 6, 0, 0⟩]) := by decide +kernel

/-- The switches with the platen resting UP on the page. -/
def raised : Switches := { down := false, up := true, contact := true }

/-- Table 4-5, the start; R60: FAULTED refuses with detail 11. -/
theorem test_turn_lowers_platen :
    shows (.turn raised) (offered (ticketOf 7 0 [1]) ready) (fun t => (t.seq.arm, t.motion.platen.map fun m => m.down))
      = some (.lowering, some true)
    ∧ shows (.turn raised) (offered (ticketOf 7 0 [1]) { ready with seq := { ready.seq with arm := .faulted } }) briefly
      = some [⟨1, 1, 7, 15, 11⟩] := by decide +kernel

/-- The capture fields of Table 6-6: both sides, S = 8, W = 4, H = 2. -/
def captureParameters : List Byte := put32 0x08000000 ++ put32 0x08001000 ++ put16 8 ++ put16 4 ++ put16 2

/-- The parameters they give. -/
def params : CaptureParams :=
  { sides := { v := true, r := true }, buffer := { v := 0x08000000, r := 0x08001000 }, stride := 8, width := 4, lines := 2 }

theorem test_capture_holds_its_fields :
    shows .capture (offered (ticketOf 8 0 ([3, 0, 0, 0] ++ captureParameters)) ready) (fun t => t.capture.state)
      = some (.holding { kind := .capture, tag := 0x4D, slot := 1, params := params }) := by decide +kernel

/-- R61: an ADVANCE keeps its capture half for the end of its turn. -/
theorem test_advance_keeps_capture_half :
    shows (.advance raised) (offered (ticketOf 9 0 ([2, 3, 0, 0] ++ captureParameters)) ready)
        (fun t => (t.capture.state, t.seq.turn.map fun x => (x.forward, x.capture)))
      = some (.free, some (false, some params)) := by decide +kernel

/-- R99: manual codes turn regulation off, AUTO keeps it on; R98: an R code of 19 is refused by field 6. -/
theorem test_light_sets_codes :
    shows .light (offered (ticketOf 10 1 (put16 0 ++ put16 500)) ready)
        (fun t => ((volumeAt t 1).map fun v => (v.drive, v.regulation), briefly t))
      = some (some ({ v := 400, r := 500 }, false), [⟨1, 1, 10, 0, 0⟩])
    ∧ shows .light (offered (ticketOf 10 3 (put16 0 ++ put16 19)) ready) briefly = some [⟨1, 1, 10, 4, 6⟩] := by
  decide +kernel

/-- R168. -/
theorem test_quiet_silences_attend :
    shows .quiet (offered (ticketOf 12 0 []) { ready with ret := { ready.ret with tone := .attend true 300 } })
        (fun t => (t.ret.tone, briefly t)) = some (.silent, [⟨1, 255, 12, 0, 1⟩]) := by decide +kernel

/-- R164: the detail counts the faults that were latched. -/
theorem test_clear_counts_faults :
    shows .clear (offered (ticketOf 13 0 []) { ready with ret := { ready.ret with latched := [.slip, .lampHot] } })
        (fun t => (t.ret.latched, briefly t)) = some ([], [⟨1, 255, 13, 0, 2⟩]) := by decide +kernel

/-- R177: four reads of 64 bytes from the address; behind an upstream write they wait. -/
theorem test_configure_reads_image :
    shows .configure (offered (ticketOf 14 0 (put32 0x1000))
        { ready with path := { ready.path with upstream := [.write 0 [⟨0, 15⟩]] } })
        (fun t => (waiting t).filterMap fun e => match e.purpose with
          | .imageRead k => some (k, e.addr)
          | .ticketRead _ | .accountWrite _ | .returnWrite _ | .statusWrite => none)
      = some [(0, 0x1000), (1, 0x1040), (2, 0x1080), (3, 0x10C0)] := by decide +kernel

/-- R179: a strobe or a turn in progress makes RESTART BUSY: detail 1 while the arm moves. -/
theorem test_restart_busy_while_arm_moves :
    shows (.restart .low .low) (offered (ticketOf 15 0 []) { ready with seq := { ready.seq with arm := .raising } }) briefly
      = some [⟨1, 255, 15, 6, 1⟩] := by decide +kernel

/-- R180, R173: a RESTART without RELOAD passes to READY with cause 2; its completion and the STATE event. -/
theorem test_restart_enters_ready :
    shows (.restart .low .high) (offered (ticketOf 15 0 []) ready)
        (fun t => (t.settings.profile, t.seq.arm, briefly t))
      = some (1, .homing, [⟨1, 255, 15, 0, 0⟩, ⟨2, 0, 19, 0, 3 + 256 * 2⟩]) := by decide +kernel

/-- Table 2-4, steps 1 and 10: 12 is accepted, 40 is a post fault with detail 40. -/
theorem test_posts_of_table_2_4 :
    shows .postWordWrite { ready with path := { ready.path with upstream := [.write 0x000FFFF0 [⟨12, 15⟩]] } }
        (fun t => t.tickets.producer) = some 12
    ∧ shows .postWordWrite { ready with
          tickets := { ready.tickets with producer := 16, fetchIndex := 16 },
          path := { ready.path with upstream := [.write 0x000FFFF0 [⟨40, 15⟩]] } }
        (fun t => (t.tickets.producer, t.ret.latched, briefly t)) = some (16, [.postFault], [⟨2, 0, 13, 0, 40⟩]) := by
  decide +kernel

/-- The ticket unit with these indexes and so many tickets queued. -/
def indexes (producer fetchIndex : Half) (queued : Nat) : TicketUnit :=
  { TicketUnit.fullReset with
    producer := producer, fetchIndex := fetchIndex, queue := List.replicate queued (ticketOf 9 0 []) }

/-- Table 2-4, steps 2, 5, 8 and 9: fetches of 8, 1, 1 and 6 tickets. -/
theorem test_fetches_of_table_2_4 :
    shows .fetch { ready with tickets := indexes 12 0 0 } (fun t => t.tickets.outstanding) = some 8
    ∧ shows .fetch { ready with tickets := indexes 12 8 7 } (fun t => t.tickets.outstanding) = some 1
    ∧ shows .fetch { ready with tickets := indexes 16 9 7 } (fun t => t.tickets.outstanding) = some 1
    ∧ shows .fetch { ready with tickets := indexes 16 10 0 } (fun t => t.tickets.outstanding) = some 6 := by
  decide +kernel

/-- The state in which the read of a ticket of index 0 heads the request queue and memory holds these bytes for it. -/
def arriving (bytes : List Byte) (s : State) : State :=
  { s with
    tickets := { s.tickets with outstanding := 1, producer := 1, fetchIndex := 1 }
    path := { s.path with internal := [{ purpose := .ticketRead 0, addr := 0x100000, data := [] }] }
    memory := bytes.zipIdx.foldl (fun m (b, k) => writeByte m (0x100000 + k) b) [] }

/-- Table 2-4, step 8: a HALT flushes seven tickets and completes with detail 7. -/
theorem test_halt_flushes_seven :
    shows .halt (arriving (ticketOf 11 0 []).bytes { ready with tickets := indexes 1 1 7 })
        (fun t => (t.tickets.queue.length, (briefly t).length, (briefly t).getLast?))
      = some (0, 8, some ⟨1, 255, 11, 0, 7⟩) := by decide +kernel

/-- R29: the ticket that arrives is taken; R33: a kind of 16 completes BAD_KIND with its value. -/
theorem test_arrival_takes_ticket :
    shows .ticketArrival (arriving (ticketOf 12 0 []).bytes ready) (fun t => (t.tickets.taken, t.tickets.queue.length))
      = some (1, 1)
    ∧ shows .ticketArrival (arriving (ticketOf 16 0 []).bytes ready) briefly = some [⟨1, 255, 16, 3, 16⟩] := by
  decide +kernel

/-- Table 4-6, 21800: STOP in RETURNING. -/
theorem test_stop_of_table_4_6 :
    shows (.stopPress 20) { ready with
        seq := { ready.seq with
          arm := .returning
          turn := some { kind := .turn, tag := 77, forward := true, slot := 1, capture := none } } }
        (fun t => (t.seq.arm, t.seq.attend, briefly t))
      = some (.halted, true, [⟨2, 0, 1, 0, 7⟩, ⟨1, 1, 7, 2, 7⟩]) := by decide +kernel

/-- Table 4-6, 25000: RESUME from HALTED returns with top rung 2. -/
theorem test_resume_of_table_4_6 :
    shows (.resumePress 20 raised) { ready with
        seq := { ready.seq with arm := .halted, attend := true },
        position := { ready.position with fused := some { angle := 2600, time := 100 } } }
        (fun t => (t.seq.arm, t.seq.attend, t.motion.arm.map fun m => (m.positive, m.ramp.top), briefly t))
      = some (.returning, false, some (false, 2), [⟨2, 0, 2, 0, 10⟩]) := by decide +kernel

/-- An ARM move with one step left, its end awaited. -/
def lastStep : MotionUnit :=
  { ready.motion with arm := some { positive := true, ramp := { newRamp 430 7 with taken := 429 } } }

/-- Table 4-5, 20520: the arm arrives within the slip tolerance: GRIPPING with the vacuum on. -/
theorem test_arrival_of_table_4_5 :
    shows (.moveStep .arm raised) { ready with
        motion := lastStep, seq := { ready.seq with arm := .reaching, armPhase := .offered, target := 2600, top := 7 },
        position := { ready.position with fused := some { angle := 2598, time := 100 } } }
        (fun t => (t.seq.arm, t.seq.vacuum, t.seq.timer)) = some (.gripping, true, some { kind := .grip, due := 250 }) := by
  decide +kernel

/-- Table 4-5, 21420: 16 from the target: a corrective move of 13 steps at rung 0. -/
theorem test_correction_of_table_4_5 :
    shows (.moveStep .arm raised) { ready with
        motion := lastStep,
        seq := { ready.seq with arm := .sweeping, vacuum := true, armPhase := .offered, target := 1500, top := 7 },
        position := { ready.position with fused := some { angle := 1516, time := 100 } } }
        (fun t => t.motion.arm.map fun m => (m.positive, m.ramp.requested, m.ramp.top)) = some (some (false, 13, 0)) := by
  decide +kernel

/-- The sequencer in a state of a turn with a timer that expires now. -/
def timed (arm : ArmState) (k : TimerKind) : Sequencer :=
  { ready.seq with
    arm := arm, timer := some { kind := k, due := 100 }
    turn := some { kind := .turn, tag := 77, forward := true, slot := 1, capture := none } }

/-- Table 4-5, 20670 and 20920: MULTI counts a retry; ONE sweeps. -/
theorem test_grip_of_table_4_5 :
    shows (.gripTimer true true raised) { ready with seq := { timed .gripping .grip with vacuum := true } }
        (fun t => (t.seq.arm, t.seq.vacuum, t.seq.retries)) = some (.gripping, false, 1)
    ∧ shows (.gripTimer true false raised) { ready with seq := { timed .gripping .grip with vacuum := true } }
        (fun t => t.seq.arm) = some .sweeping := by decide +kernel

/-- Table 4-5, 20770: the second attempt. -/
theorem test_second_attempt_of_table_4_5 :
    shows .gripReleaseWait { ready with seq := timed .gripping .release } (fun t => (t.seq.vacuum, t.seq.timer))
      = some (true, some { kind := .grip, due := 250 }) := by decide +kernel

/-- The arm reads 1900, away from park. -/
def away (s : State) : State := { s with position := { s.position with fused := some { angle := 1900, time := 100 } } }

/-- R68: the fifth reading of no leaf drops the vacuum; the fourth does not. -/
theorem test_fifth_low_reading_drops :
    shows (.sweepLeafRead false raised) { away ready with seq := { timed .sweeping .grip with
        timer := none, vacuum := true, lowReads := 4, nextLeaf := 100 } } (fun t => (t.seq.arm, t.seq.outcome))
      = some (.returning, .leafDropped)
    ∧ shows (.sweepLeafRead false raised) { away ready with seq := { timed .sweeping .grip with
        timer := none, vacuum := true, lowReads := 3, nextLeaf := 100 } } (fun t => t.seq.arm) = some .sweeping := by
  decide +kernel

/-- Table 4-5, 21585: the opening moves, the take returns to 0. -/
theorem test_release_of_table_4_5 :
    shows (.releaseTimer raised) (withVolume { volume 0x42 with opening := 3, take := 1 }
        { away ready with seq := timed .releasing .release })
        (fun t => (t.seq.arm, (volumeAt t 1).map fun v => (v.opening, v.take))) = some (.returning, some (4, 0)) := by
  decide +kernel

/-- Table 4-5, 22785: the turn completes DONE with the opening index. -/
theorem test_settle_of_table_4_5 :
    shows .settleTimer { ready with seq := timed .settling .settle } (fun t => (t.seq.arm, briefly t))
      = some (.idle, [⟨1, 1, 7, 0, 2⟩]) := by decide +kernel

/-- R79: cause 4, arm state 1. -/
theorem test_homing_limit_faults :
    shows .homingLimit { ready with seq := { timed .homing .homing with homing := .heads } }
        (fun t => (t.seq.arm, briefly t)) = some (.faulted, [⟨1, 1, 7, 15, 1 + 256 * 4⟩]) := by decide +kernel

/-- R51: the round after the one that falls due at 120 is due 20 ms later at rest, 1 ms later while an engine runs. -/
theorem test_round_spacing :
    (tick { ready with ms := 119 }).position.due = [120] ∧ (tick { ready with ms := 119 }).position.nextRound = 140
    ∧ (tick { ready with ms := 119, motion := lastStep }).position.nextRound = 121 := by
  decide +kernel

/-- R51: a round that waits places its samples with the time it fell due; as an engine starts a round falls due at once. -/
theorem test_rounds_wait_and_follow :
    shows .sampleRound { ready with ms := 130, position := { ready.position with due := [120, 130] } }
        (fun t => (t.position.due, t.link.samples.b.map fun q => q.time)) = some ([130], some 120)
    ∧ shows (.turn raised) (offered (ticketOf 7 0 [1]) ready) (fun t => (t.position.due, t.position.nextRound))
      = some ([100], 101) := by decide +kernel

/-- R82. -/
theorem test_poll_due_again :
    shows (.lampPollDue .r) ready (fun t => (t.lamps.r.pollDue, t.link.polls.r.routine)) = some (100, true) := by
  decide +kernel

/-- The state in which head B has just answered its round, and the reply of head A is awaited. -/
def sampling (a b : HeadUnit) : State :=
  { ready with
    position := { ready.position with heads := { a := a, b := b } }
    link := { State.reset.link with exchange := some (.sample .a { round := 9, time := 108 }) } }

/-- Table 3-4: 1816 with the old life is stale; with a new one it is good; the eighth bad sample is DOWN, kind 2. -/
theorem test_judgement_of_table_3_4 :
    shows (.encoderSampleReply (0x7180 ||| 0) raised) (sampling (headUp 1810) (headUp 1828))
        (fun t => (t.position.heads.a.badCount, t.position.fused.map fun f => f.angle)) = some (1, some 1810)
    ∧ shows (.encoderSampleReply (0x7180 ||| 1) raised) (sampling (headUp 1810) (headUp 1828))
        (fun t => (t.position.heads.a.badCount, t.position.fused.map fun f => f.angle)) = some (0, some 1816)
    ∧ shows (.encoderSampleReply 0x718B raised) (sampling { headUp 1810 with badCount := 7 } (headUp 1866))
        (fun t => (t.position.heads.a.up, t.position.fused.map fun f => f.angle, briefly t))
      = some (false, some 1866, [⟨2, 1, 3, 0, 2⟩]) := by decide +kernel

/-- The state with a poll of bar V under way. -/
def polling (b : Bar) : State :=
  { ready with lamps := { ready.lamps with v := b }, link := { State.reset.link with exchange := some (.poll .v) } }

/-- Section 5.5, derating (with the default warn temperature of 55 °C): 56 °C turns a READY bar WARM. -/
theorem test_warm_at_56_degrees :
    shows (.lampPollReply (0x6010)) (polling Bar.fullReset) (fun t => (t.lamps.v.state, t.lamps.v.temp, briefly t))
      = some (.warm, some 96, [⟨2, 1, 11, 0, 96⟩]) := by decide +kernel

/-- Table 5-6: the low bits of 375 are 7; echo 7 verifies the load, echo 3 asks for it again. -/
theorem test_echo_of_table_5_6 :
    shows (.lampPollReply 0x5117) (polling { Bar.fullReset with lastCode := some 375, load := .verify })
        (fun t => (t.lamps.v.load, t.lamps.v.echo)) = some (.loaded, .isMatch)
    ∧ shows (.lampPollReply 0x5113) (polling { Bar.fullReset with lastCode := some 375, load := .verify })
        (fun t => (t.lamps.v.echo, t.link.exchange)) = some (.mismatch, some (.load .v 375)) := by decide +kernel

/-- R92: after a LOAD the bar awaits a verifying POLL; Table 12-8: the words sent. -/
theorem test_load_is_verified :
    shows (.lampLoadReply 0x5110) { polling { Bar.fullReset with load := .underway } with
        link := { State.reset.link with exchange := some (.load .v 375) } }
        (fun t => (t.lamps.v.lastCode, t.link.exchange)) = some (some 375, some (.poll .v))
    ∧ outWord (.load .v 375) = 0x4177 ∧ outWord (.poll .r) = 0x8000 := by decide +kernel

/-- The capture of Table 6-6. -/
def record : CaptureRecord := { kind := .capture, tag := 0x4D, slot := 1, params := params }

/-- The capture unit in a state, its lines lowered. -/
def capturing (c : CaptureState) (s : State) : State := { s with capture := { s.capture with state := c } }

/-- The volume of Table 5-5: 30,000 c·ms left, codes 585 and 610. -/
def nearlyUsed : Volume :=
  { volume 0x42 with allowance := 200000, doseUsed := 170000, drive := { v := 585, r := 610 } }

/-- Table 6-7, step 1: two windows and two guard reservations; Table 5-5: both codes 375, nothing left. -/
theorem test_acquisition_of_table_5_5 :
    shows .captureAcquisition (capturing (.holding record) (withVolume nearlyUsed ready))
        (fun t => ((volumeAt t 1).map fun v => (v.doseUsed, v.take, v.captureCount), windowsInUse t,
          t.frames.guardReserved)) = some (some (200000, 1, 1), 2, 2)
    ∧ shows .captureAcquisition (capturing (.holding record) (withVolume nearlyUsed ready)) (fun t => t.link.loads)
      = some { v := some 375, r := some 375 } := by
  decide +kernel

/-- Section 5.5: the cap of 450 leaves V at 300; the one after it gives 75 to both. -/
theorem test_caps_of_section_5_5 :
    finalCodes ready { volume 0x42 with exposure := 50, allowance := 45000, drive := { v := 300, r := 700 } }
        { v := true, r := true } = { v := 300, r := 450 }
    ∧ finalCodes ready { volume 0x42 with exposure := 50, allowance := 7500, drive := { v := 300, r := 700 } }
        { v := true, r := true } = { v := 75, r := 75 } := by decide +kernel

/-- R88: outside the park window the gate waits 100 ms; a HOT bar refuses with its side. -/
theorem test_gate_waits_and_refuses :
    shows .fireGate (capturing (.exposing record (.gate none)) { ready with position := { ready.position with
        fused := some { angle := 2057, time := 100 } } }) (fun t => t.capture.state)
      = some (.exposing record (.gate (some 200)))
    ∧ shows .fireGate (capturing (.exposing record (.gate none)) { ready with lamps := { ready.lamps with
        r := { Bar.fullReset with state := .hot } } }) briefly = some [⟨1, 1, 8, 21, 2⟩] := by decide +kernel

/-- R88: an angle 21 ms old is not fresh: NO_POSITION with detail 2. -/
theorem test_park_wait_reports_stale :
    shows .parkWaitExpiry (capturing (.exposing record (.gate (some 110))) { ready with ms := 121 }) briefly
      = some [⟨1, 1, 8, 17, 2⟩] := by decide +kernel

/-- The charged fire of Table 5-5. -/
def fire : FireRecord :=
  { exposure := 40, charge := 30000, take := 1, opening := 2
    sides := { v := some { code := 375, bound := 900, derated := false, doseLimited := true, temp := 81 },
               r := some { code := 375, bound := 900, derated := false, doseLimited := true, temp := 83 } } }

/-- A window of Table 6-6, as armed. -/
def armed (side : Side) (partner : Nat) : Window := armedWindow (profileDefaults 0) 1 params side (some partner)

/-- The two windows of Table 6-6, armed, with their reservations. -/
def withWindows (v r : Option Window) (s : State) : State :=
  { s with
    frames := { s.frames with windows := [v, r, none, none], guardReserved := 2 }
    account := { s.account with reserved := 2 } }

/-- Both bars loaded. -/
def loadedBars : PerSide Bar :=
  { v := { Bar.fullReset with load := .loaded }, r := { Bar.fullReset with load := .loaded } }

/-- Table 5-6, step 8: both strobes and triggers rise; R108: the leaves are o and o + 1. -/
theorem test_strobe_rises :
    shows .strobeRaise (capturing (.exposing record (.load fire))
        (withWindows (some (armed .v 1)) (some (armed .r 0)) { ready with lamps := loadedBars }))
        (fun t => (t.capture.strobe, t.capture.trig,
          t.frames.windows.map fun w => w.bind fun x => x.fire.map fun f => f.leaf))
      = some ({ v := true, r := true }, { v := true, r := true }, [some 2, some 3, none, none]) := by decide +kernel

/-- The fire of Table 5-5 with its strobe raised at millisecond 60. -/
def lit (s : State) : State :=
  { s with capture := {
      state := .exposing record (.strobe fire 60), strobe := { v := true, r := true }, trig := { v := true, r := true } } }

/-- R93: lowered after 40 ms and not after 39; Table 12-4: take 1 with charge 30,000. -/
theorem test_strobe_ends_in_time :
    shows .strobeEnd (lit ready) (fun t => (t.capture, briefly t))
      = some (CaptureUnit.fullReset, [⟨1, 1, 8, 0, 1 + 256 * 30000⟩])
    ∧ shows .strobeEnd (lit { ready with ms := 99 }) (fun t => t.capture.strobe.v) = some true := by decide +kernel

/-- R94: a strobe cut after 39 ms gives its windows the exposure of 39 and the CUT mark. -/
theorem test_strobe_cut_marks_windows :
    shows .strobeCut (lit (withWindows (some { armed .v 1 with filling := true }) none { ready with
        ms := 99, position := { ready.position with fused := none } }))
        (fun t => (t.frames.windows.head?.join.map fun w => (w.strobeEnd, w.cut), briefly t))
      = some (some (some (99, 39), true), [⟨1, 1, 8, 17, 1 + 256 * 30000⟩]) := by decide +kernel

/-- R143: a fifth transaction waits on the host bus. -/
theorem test_fifth_transaction_waits :
    shows (.upstreamTransaction (.write 4 [⟨0, 15⟩]))
        { ready with path := { ready.path with upstream := List.replicate 4 (.write 0 [⟨0, 15⟩]) } }
        (fun t => t.path.upstream.length) = some 4
    ∧ shows (.upstreamTransaction (.read 4 1)) { ready with memory := [(5, 7)] } (fun t => t.path.hostData)
      = some [[0x700]] := by decide +kernel

/-- Table 9-7, with the default map's account ring, which ends at 0x0010_17FF, and a window behind it: the window takes
its four words, the ring's are dropped and counted, and only the last four reach memory. -/
theorem test_burst_of_table_9_7 :
    shows .upstreamWrite { ready with
        path := { ready.path with
          foreignWrites := 12, upstream := [.write 0x001017F0 (List.replicate 8 ⟨0x01010101, 15⟩)] },
        frames := { ready.frames with
          windows := [some { armed .r 1 with base := 0x00101800, filling := true }, none, none, none],
          guardReserved := 1 } }
        (fun t => (t.path.foreignWrites, t.frames.windows.head?.join.map fun w => (w.fill, w.disordered, w.full),
          t.memory.length, briefly t))
      = some (16, some (16, false, true), 16, [⟨2, 0, 14, 0, 0x001017F0⟩]) := by decide +kernel

/-- Table 6-6, 40030: offset 8 after fill 4 is a gap; the word at 12 makes the window full. -/
theorem test_gap_of_table_6_6 :
    shows .upstreamWrite { withWindows (some { armed .v 1 with filling := true, fill := 4 }) none ready with
        path := { ready.path with upstream := [.write 0x08000008 [⟨1, 15⟩, ⟨2, 15⟩]] } }
        (fun t => t.frames.windows.head?.join.map fun w => (w.fill, w.disordered, w.full)) = some (some (16, true, true)) := by
  decide +kernel

/-- R121: the pixels of a word: 92096 counts one clip at the default clip level of 64000, and 28096. -/
theorem test_clip_counts_each_pixel :
    (addPixels 64000 0 (BitVec.ofNat 32 (64000 + 65536 * 28096))
        { armed .v 1 with patch := { x0 := 0, y0 := 0, pw := 8, ph := 8 }, patchValid := true }).patchSum = 92096
    ∧ (addPixels 64000 0 (BitVec.ofNat 32 (64000 + 65536 * 28096))
        { armed .v 1 with patch := { x0 := 0, y0 := 0, pw := 8, ph := 8 }, patchValid := true }).clips = 1 := by
  decide +kernel

/-- Table 6-6, 41540: the timeout makes side R LOST, with an exception entry and no guard. -/
theorem test_timeout_of_table_6_6 :
    shows (.frameTimeout 0) { withWindows (some { armed .r 1 with
          filling := true, partner := none,
          fire := some { leaf := 3, take := 1, code := 375, derated := false, doseLimited := false, temp := 81,
                         singleHead := false },
          strobeEnd := some (40040, 40) }) none ready with ms := 41540 }
        (fun t => (windowsInUse t, guardsInUse t, (volumeAt t 1).map fun v => v.exceptions))
      = some (0, 0, some [⟨3, .r, .lost⟩]) := by decide +kernel

/-- Table 8-5, step 7: the consumer passes 940, 941 and 942. -/
theorem test_closing_read_of_table_8_5 :
    shows .accountClosingRead { ready with
        account := { AccountUnit.fullReset with
          producer := 1002, consumer := 940, posted := [44, 45, 46], readMarks := [45, 46] }
        path := { ready.path with upstream := [.read (BitVec.ofNat 32 (0x100800 + 64 * 44 + 60)) 1] } }
        (fun t => (t.account.consumer, t.account.readMarks)) = some (943, []) := by decide +kernel

/-- Table 10-3, step 6: the oldest record moves into the ring, the owed RETURN_OVERRUN into the queue. -/
theorem test_closing_read_of_table_10_3 :
    shows .returnClosingRead { ready with
        ret := { ready.ret with
          producer := 32, posted := List.range 32, overruns := 2, overrunPending := true
          queue := List.replicate 16 (.event .guardHit 0 0 90) }
        path := { ready.path with upstream := [.read 0x10040C 1] } }
        (fun t => (returnUnread t, t.ret.queue.length, t.ret.queue.getLast?, t.ret.overrunPending))
      = some (32, 16, some (.event .returnOverrun 0 2 100), false) := by decide +kernel

/-- A write of the controller's own at the head of the request queue. -/
def serving (p : Purpose) (a : Word) (s : State) : State :=
  { s with path := { s.path with internal := [{ purpose := p, addr := a, data := zeros 12 ++ [1, 2, 3, 4] }] } }

/-- Table 9-3, services 9 and 18: a served write makes its slot posted. -/
theorem test_served_writes_post :
    shows .accountWriteServed (serving (.accountWrite 1007) 0x101400 ready)
        (fun t => (t.account.posted, t.account.postedProducer, readByte t.memory 0x10140F)) = some ([47], 1008, 4)
    ∧ shows .returnWriteServed (serving (.returnWrite 3) 0x100430 ready) (fun t => (t.ret.posted, t.ret.postedProducer))
      = some ([3], 4) := by decide +kernel

/-- R166: a change marked while the write waited places another; a second after one, a period does. -/
theorem test_status_writes :
    shows .statusWriteServed { serving .statusWrite 0xFFF80 ready with
        ret := { ready.ret with statusWaiting := true, statusAgain := true } }
        (fun t => (t.ret.statusWaiting, t.path.internal.length)) = some (true, 1)
    ∧ shows .statusPeriod { ready with ms := 999 } (fun t => t.path.internal.length) = some 0
    ∧ shows .statusPeriod { ready with ms := 1000 } (fun t => t.path.internal.length) = some 1 := by decide +kernel

/-- R167. -/
theorem test_tone_periods :
    shows .attendTonePeriod { ready with ret := { ready.ret with tone := .attend true 100 } } (fun t => t.ret.tone)
      = some (.attend false 350)
    ∧ shows .chirpEnd { ready with ret := { ready.ret with tone := .chirp 101 } } (fun t => t.ret.tone)
      = some (.chirp 101) := by decide +kernel

/-- R173: RESETN; its release leads to POWER_SETTLING for 20 ms, and that to LOADING with the profile 3 × 2 + 1. -/
theorem test_start_up :
    shows .resetnAssert ready (fun t => (t.settings.startup, t.volumes.active)) = some (.resetHeld, none)
    ∧ shows (.resetnRelease false) State.reset (fun t => (t.settings.startup, t.settings.cause, t.settings.settleUntil))
      = some (.powerSettling, .resetn, 20)
    ∧ shows (.powerSettlingEnd .floating .high) { State.reset with
          ms := 20, settings := { State.reset.settings with startup := .powerSettling, settleUntil := 20 } }
        (fun t => (t.settings.startup, t.settings.profile)) = some (.loading, 7) := by decide +kernel

/-- LOADING at a section, with so many failed attempts. -/
def loading (n : SectionName) (failed : Nat) : State :=
  { State.reset with settings := { State.reset.settings with
      startup := .loading, loading := some { reading := n, failed := failed, retryAt := none, map := none } } }

/-- R172: the first failed attempt is followed by a wait of 10 ms; Table 11-2: no good section ends in BARE. -/
theorem test_failed_reads :
    shows (.eepromReadAttempt none) (loading .mapSection 0) (fun t => t.settings.loading)
      = some (some { reading := .mapSection, failed := 1, retryAt := some 10, map := none })
    ∧ shows (.eepromReadAttempt none) (loading .mechSection 3) (fun t => (t.settings.startup, t.ret.latched))
      = some (.bare, [.settingsMap, .settingsMech]) := by decide +kernel

/-- R172. -/
theorem test_retry_wait_ends :
    shows .eepromRetryWait { loading .mapSection 0 with settings := { (loading .mapSection 0).settings with
        loading := some { reading := .mapSection, failed := 1, retryAt := some 0, map := none } } }
        (fun t => t.settings.loading) = some (some { reading := .mapSection, failed := 1, retryAt := none, map := none }) := by
  decide +kernel

/-- R176: a pin that differs sets the lock. -/
theorem test_profile_change_locks :
    shows (.profileCheck .high .low) { ready with ms := 200 } (fun t => (t.settings.lock, t.ret.latched))
      = some (true, [.profileChanged]) := by decide +kernel

/-- The CONFIGURE in flight, in a phase. -/
def configuring (p : ConfigurePhase) (s : State) : State :=
  { s with settings := { s.settings with configure := some { tag := 5, store := true, phase := p } } }

/-- R177: an image of zeros has no matching CRC: SETTINGS_BAD with detail 1. -/
theorem test_bad_image_refused :
    shows .configureImageRead (serving (.imageRead 3) 0x2000 (configuring (.reading (zeros 192)) ready)) briefly
      = some [⟨1, 255, 14, 23, 1⟩] := by decide +kernel

/-- R178: the next byte; the readback after byte 255; a byte not acknowledged after 20 ms; a readback that differs. -/
theorem test_image_storing :
    shows .storeByteAck (configuring (.storing 255 90) ready) (fun t => t.settings.configure.map fun c => c.phase)
      = some (some .readback)
    ∧ shows .storeByteTimeout (configuring (.storing 7 80) ready) briefly = some [⟨1, 255, 14, 24, 7⟩]
    ∧ shows (.storeReadback (some (zeros 256))) (configuring .readback { ready with settings := { ready.settings with
          pendingImage := some (zeros 9 ++ [1] ++ zeros 246) } }) briefly = some [⟨1, 255, 14, 24, 265⟩] := by
  decide +kernel

/-- R180: the candidate of a RELOAD takes effect and ends in BARE without a map section. -/
theorem test_reload_takes_effect :
    shows .restartTakeEffect { ready with settings := { ready.settings with
          startup := .loading
          restart := some { tag := 6, leftFrom := .ready, profile := 4,
                            candidate := some (loadedFrom 4 none none) } } }
        (fun t => (t.settings.startup, t.seq.arm, t.settings.profile)) = some (.bare, .faulted, 4) := by decide +kernel

/-- R42: the end of a move is reported with the steps taken; R44: an ordered stop too. -/
theorem test_ends_report_steps :
    shows (.moveStep .arm raised) { ready with motion := lastStep } (fun t => t.motion.armEnd)
      = some (some { kind := .count, taken := 430 })
    ∧ shows (.moveStep .platen raised) { ready with motion := { ready.motion with
          platen := some { down := true, ramp := { newRamp 6000 7 with taken := 8, stopOrdered := true } } } }
        (fun t => t.motion.platenEnd.map fun e => (e.kind, e.taken)) = some (some (.stopped, 9)) := by decide +kernel

/-- R81: a LOAD whose in-word is discarded has still completed: its code is the last one. -/
theorem test_discarded_load_completes :
    shows (.lampLoadReply 0x5110) { ready with
        link := { State.reset.link with exchange := some (.load .r 375), discard := true } }
        (fun t => (t.lamps.r.lastCode, t.lamps.r.temp)) = some (some 375, none) := by decide +kernel

/-- R85: an exchange of a FAILED bar completes with its in-word discarded, and latches the fault a CLEAR had emptied. -/
theorem test_discarded_exchange_of_failed_bar :
    shows (.lampPollReply 0xFFFF) { polling { Bar.fullReset with state := .failed .short } with
        link := { State.reset.link with exchange := some (.poll .v), discard := true } }
        (fun t => (t.ret.latched, t.lamps.v.noReply, briefly t))
      = some ([.lampV], 0, [⟨2, 1, 10, 0, 2⟩]) := by decide +kernel

/-- R131: a capture that lacks windows as well asks for its account slots all the same. -/
theorem test_account_asked_at_each_attempt :
    shows .captureAcquisition (capturing (.holding record) { ready with
        account := { ready.account with producer := 63 }
        frames := { ready.frames with windows := List.replicate 4 (some (armed .v 1)) } }) (fun t => t.ret.latched) = some [.accountFull] := by
  decide +kernel

/-- R143: a plain read behind a closing read is served in the same step, and both return their words. -/
theorem test_reads_return_in_order :
    shows .accountClosingRead { ready with
        account := { AccountUnit.fullReset with producer := 1, posted := [0] }
        path := { ready.path with upstream := [.read 0x10083C 1, .read 4 1] }, memory := [(4, 9)] }
        (fun t => (t.path.hostData, t.path.memoryPort)) = some ([[0], [9]], [.read 0x10083C 1, .read 4 1]) := by
  decide +kernel

/-- R172, R178: the requests the settings unit sends to the EEPROM. -/
theorem test_eeprom_requests :
    shows (.powerSettlingEnd .low .low) { State.reset with
        ms := 20, settings := { State.reset.settings with startup := .powerSettling, settleUntil := 20 } }
        (fun t => t.settings.i2c) = some [.read 0x56 0 64]
    ∧ shows .storeByteAck (configuring (.storing 6 90) { ready with settings := { ready.settings with
          pendingImage := some (zeros 7 ++ [5] ++ zeros 248) } }) (fun t => t.settings.i2c)
      = some [.write 0x56 7 5, .poll 0x56] := by decide +kernel

/-- R55: the sample of B that comes after a later round has been placed still meets the A of its own round. -/
theorem test_late_sample_is_checked :
    shows (.encoderSampleReply 0x7201 raised) { ready with
        position := { ready.position with
          heads := { a := headUp 1810, b := headUp 1817 }, checks := [⟨8, ⟨some 1810, none⟩⟩, ⟨9, ⟨none, none⟩⟩] }
        link := { State.reset.link with exchange := some (.sample .b ⟨8, 99⟩) } }
        (fun t => (t.seq.arm, t.position.checks)) = some (.faulted, [⟨9, ⟨none, none⟩⟩]) := by decide +kernel

/-- A step on an empty queue is a millisecond. -/
theorem test_idle_step_counts : step ready = .next (tick ready) ∧ (tick ready).ms = 101 := ⟨rfl, by decide +kernel⟩

/-- A step takes the command in front. -/
theorem test_step_runs_front : step { ready with pending := [.chirpEnd, .fetch] } = exec .chirpEnd { ready with pending := [.fetch] } :=
  rfl

/-! ## Witnesses: for each statement with hypotheses, states and operands that meet them -/

theorem examined {k : Kind} {t : Ticket} {s : State}
    (h : s.tickets.queue = [t] ∧ kindOf (ticketKind t) = some k ∧ headerFault k t = none ∧ s.settings.startup = .ready) :
    Examined k t s ∧ TailWaits s := by
  obtain ⟨a, b, c, d⟩ := h
  simp [Examined, TailWaits, a, b, c, d, waitsAtHead]

theorem each_volume {s : State} {P : Nat → Volume → Prop} [∀ i w, Decidable (P i w)] (n : s.volumes.entries.length = 8)
    (h : ∀ i, i < 8 → (volumeAt s i).all (fun w => decide (P i w)) = true) : ∀ i w, volumeAt s i = some w → P i w := by
  intro i w e
  rcases Nat.lt_or_ge i 8 with l | l
  · simpa [e] using h i l
  · simp [volumeAt, List.getElem?_eq_none (by omega : s.volumes.entries.length ≤ i)] at e

theorem free_not_exposing {s : State} (h : s.capture.state = .free) : ∀ c st, s.capture.state ≠ .exposing c st := by
  simp [h]

theorem free_not_holding {s : State} (h : s.capture.state = .free) : ∀ c, s.capture.state ≠ .holding c := by
  simp [h]

/-- A volume table with its first volumes held, by the letters from "A" on, and the second ACTIVE. -/
def held (n : Nat) (s : State) : State :=
  { s with volumes := {
      entries := (List.range 8).map fun i => if i < n then some (volume (BitVec.ofNat 8 (0x41 + 32 * (i / 2) + i))) else none
      active := some 1 } }

/-- The account ring with so many free slots. -/
def freeSlots (n : Nat) (s : State) : State :=
  { s with account := { s.account with producer := BitVec.ofNat 16 (64 - n) } }

/-- The state with the arm in a state. -/
def armAt (a : ArmState) (s : State) : State := { s with seq := { s.seq with arm := a } }

/-- No volume is ACTIVE. -/
def noActive (s : State) : State := { s with volumes := { s.volumes with active := none } }

/-- The volume that the OPEN of section 1.5 sets up at millisecond 100. -/
def opened : Volume :=
  { volume 0x43 with opening := 0, nextSequence := 0, allowance := 200000, openedAt := 100 }

/-- An OPEN with a letter. -/
def openOf (letter : Byte) : Ticket :=
  { openTicket with bytes := openTicket.bytes.set 9 letter }

theorem all_hold_nil : AllHold [] ↔ True := by simp [AllHold]

theorem all_hold_cons {n : Nat} {p : Prop} {l : List (Nat × Prop)} : AllHold ((n, p) :: l) ↔ p ∧ AllHold l := by
  simp [AllHold]

theorem fails_here {n : Nat} {p : Prop} {l : List (Nat × Prop)} (h : ¬ p) : FirstFailing ((n, p) :: l) n := .inl ⟨h, rfl⟩

theorem fails_later {k n : Nat} {p : Prop} {l : List (Nat × Prop)} (h : p) (r : FirstFailing l n) :
    FirstFailing ((k, p) :: l) n := .inr ⟨h, r⟩

theorem witness_OpenFieldsChecked :
    let m := profileDefaults 0
    let last := ticketOf 1 0 (openParameters 6 4 200 32768 40 900 901)
    (AllHold (openChecks m openTicket) ∧ openFields m 100 openTicket = .ok opened)
    ∧ (FirstFailing (openChecks m (ticketOf 1 0 [33])) 5 ∧ openFields m 0 (ticketOf 1 0 [33]) = .error 5)
    ∧ (FirstFailing (openChecks m last) 13 ∧ openFields m 0 last = .error 13) := by
  refine ⟨⟨?_, rfl⟩, ⟨fails_here ?_, rfl⟩, ?_, rfl⟩
  · simp only [openChecks, all_hold_cons, all_hold_nil]; decide +kernel
  · decide +kernel
  · simp only [openChecks]
    iterate 8 refine fails_later (by decide +kernel) ?_
    exact fails_here (by decide +kernel)

theorem witness_OpenTakesLowestFreeEntry :
    let s := offered openTicket (freeSlots 1 (held 2 ready))
    (Examined .openVolume openTicket s ∧ TailWaits s) ∧ openFields (mechOf s) s.ms openTicket = .ok opened
      ∧ (∀ i w, volumeAt s i = some w → w.shelfMark ≠ opened.shelfMark) ∧ 2 < s.volumes.entries.length
      ∧ volumeAt s 2 = none ∧ (∀ j < 2, (volumeAt s j).isSome) ∧ accountFree s = 1 :=
  ⟨examined (by decide +kernel), rfl, each_volume rfl (by decide +kernel), by decide, rfl, by decide, by decide +kernel⟩

theorem witness_OpenRefusedOrHeld :
    let e := ticketOf 1 0 [0]
    let s := offered e ready
    let d := offered (openOf 0x42) ready
    let f := offered openTicket (held 8 ready)
    let z := offered openTicket (freeSlots 0 ready)
    ((Examined .openVolume e s ∧ TailWaits s) ∧ openFields (mechOf s) s.ms e = .error 5)
    ∧ ((Examined .openVolume (openOf 0x42) d ∧ TailWaits d)
      ∧ openFields (mechOf d) d.ms (openOf 0x42) = .ok { opened with shelfMark := [0x42] }
      ∧ volumeAt d 1 = some (volume 0x42)
      ∧ ∀ j < 1, ∀ x, volumeAt d j = some x → x.shelfMark ≠ (volume 0x42).shelfMark)
    ∧ ((Examined .openVolume openTicket f ∧ TailWaits f) ∧ openFields (mechOf f) f.ms openTicket = .ok opened
      ∧ (∀ i w, volumeAt f i = some w → w.shelfMark ≠ opened.shelfMark)
      ∧ ∀ i < f.volumes.entries.length, (volumeAt f i).isSome)
    ∧ ((Examined .openVolume openTicket z ∧ TailWaits z) ∧ openFields (mechOf z) z.ms openTicket = .ok opened
      ∧ (∀ i w, volumeAt z i = some w → w.shelfMark ≠ opened.shelfMark)
      ∧ (∃ i < z.volumes.entries.length, volumeAt z i = none) ∧ accountFree z = 0
      ∧ LatchedFault.accountFull ∉ z.ret.latched) := by
  refine ⟨⟨examined (by decide +kernel), rfl⟩, ⟨examined (by decide +kernel), rfl, rfl, ?_⟩,
    ⟨examined (by decide +kernel), rfl, each_volume rfl (by decide +kernel), by decide +kernel⟩,
    examined (by decide +kernel), rfl, each_volume rfl (by decide +kernel), ⟨7, by decide, rfl⟩, by decide +kernel,
    by decide +kernel⟩
  intro j hj x hx
  exact each_volume (s := offered (openOf 0x42) ready) (P := fun i w => i < 1 → w.shelfMark ≠ [0x42]) rfl
    (by decide +kernel) j x hx hj

theorem witness_SelectAndParkSwitchVolumes :
    let t7 := ticketOf 2 0 [7]
    let t8 := ticketOf 2 0 [8]
    let p := ticketOf 3 0 []
    let idle := held 8 ready
    let running := armAt .raising idle
    let windowed := withWindows (some (armed .v 1)) none ready
    let chosen : State := { idle with volumes := { idle.volumes with active := some 7 } }
    ((Examined .select t8 (offered t8 idle) ∧ TailWaits (offered t8 idle)) ∧ 7 < slotField t8)
    ∧ ((Examined .select t7 (offered t7 ready) ∧ TailWaits (offered t7 ready)) ∧ slotField t7 ≤ 7
      ∧ volumeAt (offered t7 ready) (slotField t7) = none)
    ∧ ((Examined .select t7 (offered t7 chosen) ∧ TailWaits (offered t7 chosen))
      ∧ (volumeAt (offered t7 chosen) (slotField t7)).isSome ∧ (offered t7 chosen).volumes.active = some (slotField t7))
    ∧ ((Examined .select t7 (offered t7 running) ∧ TailWaits (offered t7 running))
      ∧ (volumeAt (offered t7 running) (slotField t7)).isSome
      ∧ (offered t7 running).volumes.active ≠ some (slotField t7) ∧ (offered t7 running).seq.arm ≠ .idle)
    ∧ ((Examined .select t7 (offered t7 idle) ∧ TailWaits (offered t7 idle))
      ∧ (volumeAt (offered t7 idle) (slotField t7)).isSome ∧ (offered t7 idle).volumes.active ≠ some (slotField t7)
      ∧ (offered t7 idle).seq.arm = .idle ∧ (offered t7 idle).capture.state = .free
      ∧ ∀ a, (offered t7 idle).volumes.active = some a → windowOfSlot (offered t7 idle) a = false)
    ∧ ((Examined .park p (offered p (noActive ready)) ∧ TailWaits (offered p (noActive ready)))
      ∧ (offered p (noActive ready)).volumes.active = none)
    ∧ ((Examined .park p (offered p windowed) ∧ TailWaits (offered p windowed))
      ∧ (offered p windowed).volumes.active = some 1 ∧ volumeAt (offered p windowed) 1 = some (volume 0x42)
      ∧ windowOfSlot (offered p windowed) 1 = true)
    ∧ ((Examined .park p (offered p ready) ∧ TailWaits (offered p ready)) ∧ (offered p ready).volumes.active = some 1
      ∧ volumeAt (offered p ready) 1 = some (volume 0x42) ∧ (offered p ready).seq.arm = .idle
      ∧ (offered p ready).capture.state = .free ∧ windowOfSlot (offered p ready) 1 = false) := by
  refine ⟨⟨examined ?_, ?_⟩, ⟨examined ?_, ?_⟩, ⟨examined ?_, ?_⟩, ⟨examined ?_, ?_⟩,
    ⟨examined ?_, rfl, by decide, rfl, rfl, ?_⟩, ⟨examined ?_, ?_⟩, ⟨examined ?_, ?_⟩, examined ?_, ?_⟩
  case refine_10 => intro a h; cases h; decide +kernel
  all_goals decide +kernel

theorem witness_CloseWritesAccountAndFrees :
    let t := fun n => ticketOf 4 0 [n]
    let v := { volume 0x42 with exceptions := listed }
    let s := fun (n : Byte) (free : Nat) => offered (t n) (freeSlots free (withVolume v ready))
    let x := fun (n : Byte) (free : Nat) => Examined .close (t n) (s n free) ∧ TailWaits (s n free)
    let b := offered (t 1) (armAt .raising (withVolume v ready))
    (x 8 4 ∧ 7 < slotField (t 8)) ∧ (x 7 4 ∧ slotField (t 7) ≤ 7 ∧ volumeAt (s 7 4) 7 = none)
    ∧ ((Examined .close (t 1) b ∧ TailWaits b) ∧ volumeAt b 1 = some v ∧ b.volumes.active = some (slotField (t 1))
      ∧ b.seq.arm ≠ .idle)
    ∧ (x 1 3 ∧ (s 1 3).seq.arm = .idle ∧ (s 1 3).capture.state = .free ∧ windowOfSlot (s 1 3) 1 = false
      ∧ volumeAt (s 1 3) 1 = some v ∧ accountFree (s 1 3) < 1 + v.exceptions.length)
    ∧ (x 1 4 ∧ volumeAt (s 1 4) (slotField (t 1)) = some v ∧ (s 1 4).seq.arm = .idle ∧ (s 1 4).capture.state = .free
      ∧ windowOfSlot (s 1 4) 1 = false ∧ 1 + v.exceptions.length = accountFree (s 1 4)) := by
  refine ⟨⟨examined ?_, ?_⟩, ⟨examined ?_, ?_⟩, ⟨examined ?_, ?_⟩, ⟨examined ?_, ?_⟩, examined ?_, ?_⟩
  all_goals decide +kernel

theorem witness_ManualMovesOpening :
    let t := fun n => ticketOf 5 0 (put16 n)
    let s := fun n => offered (t n) ready
    let b := offered (t 2) (armAt .raising ready)
    let z := offered (t 2) (freeSlots 0 ready)
    ((Examined .manual (t 0) (s 0) ∧ TailWaits (s 0)) ∧ manualCount (t 0) = 0)
    ∧ ((Examined .manual (t 32768) (s 32768) ∧ TailWaits (s 32768)) ∧ manualCount (t 32768) = -32768)
    ∧ ((Examined .manual (t 1) (offered (t 1) (noActive ready)) ∧ TailWaits (offered (t 1) (noActive ready)))
      ∧ manualCount (t 1) = 1)
    ∧ ((Examined .manual (t 3) (s 3) ∧ TailWaits (s 3)) ∧ (s 3).volumes.active = some 1
      ∧ volumeAt (s 3) 1 = some (volume 0x42)
      ∧ (highestOpening (volume 0x42).leafCount : Int) < (volume 0x42).opening + manualCount (t 3))
    ∧ ((Examined .manual (t 65533) (s 65533) ∧ TailWaits (s 65533))
      ∧ ((volume 0x42).opening : Int) + manualCount (t 65533) < 0)
    ∧ ((Examined .manual (t 2) b ∧ TailWaits b) ∧ (4 : Int) = (volume 0x42).opening + manualCount (t 2)
      ∧ 4 ≤ highestOpening (volume 0x42).leafCount ∧ b.seq.arm ≠ .idle)
    ∧ ((Examined .manual (t 2) z ∧ TailWaits z) ∧ z.seq.arm = .idle ∧ z.capture.state = .free ∧ accountFree z = 0)
    ∧ ((Examined .manual (t 65534) (s 65534) ∧ TailWaits (s 65534))
      ∧ ((0 : Nat) : Int) = (volume 0x42).opening + manualCount (t 65534) ∧ (s 65534).seq.arm = .idle
      ∧ (s 65534).capture.state = .free ∧ 1 ≤ accountFree (s 65534)) := by
  refine ⟨⟨examined ?_, ?_⟩, ⟨examined ?_, ?_⟩, ⟨examined ?_, ?_⟩, ⟨examined ?_, ?_⟩, ⟨examined ?_, ?_⟩,
    ⟨examined ?_, ?_⟩, ⟨examined ?_, ?_⟩, examined ?_, ?_⟩
  all_goals decide +kernel

theorem witness_SkipOffersEntries :
    let t := fun (slot count sides : Byte) => ticketOf 6 0 ([slot, 0] ++ put16 0 ++ [count, sides])
    let v := { volume 0x42 with leafCount := some 16 }
    let s := fun (slot count sides : Byte) (free : Nat) =>
      offered (t slot count sides) (freeSlots free (withVolume v ready))
    let x := fun (slot count sides : Byte) (free : Nat) =>
      Examined .skip (t slot count sides) (s slot count sides free) ∧ TailWaits (s slot count sides free)
    let small := offered (t 1 7 3) ready
    (x 8 16 3 1 ∧ 7 < slotField (t 8 16 3)) ∧ (x 1 0 3 1 ∧ ¬ 1 ≤ byteAt (t 1 0 3).bytes 12)
    ∧ (x 1 17 3 1 ∧ ¬ byteAt (t 1 17 3).bytes 12 ≤ 16) ∧ (x 1 16 0 1 ∧ byteAt (t 1 16 0).bytes 13 = 0)
    ∧ (x 1 16 4 1 ∧ byteAt (t 1 16 4).bytes 13 = 4) ∧ (x 7 16 2 1 ∧ volumeAt (s 7 16 2 1) 7 = none)
    ∧ ((Examined .skip (t 1 7 3) small ∧ TailWaits small) ∧ volumeAt small 1 = some (volume 0x42)
      ∧ lastLeaf (some 6) < le16At (t 1 7 3).bytes 10 + byteAt (t 1 7 3).bytes 12 - 1)
    ∧ (x 1 16 1 0 ∧ accountFree (s 1 16 1 0) = 0)
    ∧ (x 1 16 3 1 ∧ slotField (t 1 16 3) = 1 ∧ byteAt (t 1 16 3).bytes 12 = 16 ∧ byteAt (t 1 16 3).bytes 13 = 3
      ∧ volumeAt (s 1 16 3 1) 1 = some v
      ∧ le16At (t 1 16 3).bytes 10 + byteAt (t 1 16 3).bytes 12 - 1 = lastLeaf v.leafCount
      ∧ accountFree (s 1 16 3 1) = 1) := by
  refine ⟨⟨examined ?_, ?_⟩, ⟨examined ?_, ?_⟩, ⟨examined ?_, ?_⟩, ⟨examined ?_, ?_⟩, ⟨examined ?_, ?_⟩,
    ⟨examined ?_, ?_⟩, ⟨examined ?_, ?_⟩, ⟨examined ?_, ?_⟩, examined ?_, ?_⟩
  all_goals decide +kernel

/-- An exception list of leaves 1 to `n`. -/
def leaves (n : Nat) : List ExceptionEntry := (List.range n).map fun i => ⟨i + 1, .v, .lost⟩

theorem witness_ExceptionPlacement :
    (ListOrdered listed ∧ ∃ x ∈ listed, x.leaf = 3 ∧ x.side = .r)
    ∧ (ListOrdered (leaves 15) ∧ (∀ x ∈ leaves 15, ¬ (x.leaf = 5 ∧ x.side = .r)) ∧ (leaves 15).length < 16)
    ∧ (ListOrdered (leaves 16) ∧ (∀ x ∈ leaves 16, ¬ (x.leaf = 5 ∧ x.side = .r)) ∧ (leaves 16).length = 16) := by
  unfold ListOrdered; decide +kernel

theorem witness_LightWritesActiveVolume :
    let t := ticketOf 10 15 (put16 20 ++ put16 900 ++ put16 60000 ++ put16 250)
    let r := ticketOf 10 1 (put16 20 ++ put16 901)
    let x := fun (k : Ticket) (s : State) => Examined .light k (offered k s) ∧ TailWaits (offered k s)
    (x r ready ∧ FirstFailing (lightChecks (mechOf (offered r ready)) r) 6)
    ∧ (x t (noActive ready) ∧ AllHold (lightChecks (mechOf (offered t (noActive ready))) t)
      ∧ (noActive ready).volumes.active = none)
    ∧ (x t ready ∧ AllHold (lightChecks (mechOf (offered t ready)) t) ∧ (offered t ready).volumes.active = some 1
      ∧ volumeAt (offered t ready) 1 = some (volume 0x42)) := by
  refine ⟨⟨examined ?_, ?_⟩, ⟨examined ?_, ?_, ?_⟩, examined ?_, ?_, ?_⟩
  case refine_2 => exact fails_later (by decide +kernel) (fails_here (by decide +kernel))
  all_goals first
    | decide +kernel
    | simp only [lightChecks, all_hold_cons, all_hold_nil]; decide +kernel

theorem witness_QuietSilencesAttend :
    let t := ticketOf 12 0 []
    let a := offered t { ready with ret := { ready.ret with tone := .attend false 101 } }
    let c := offered t { ready with ret := { ready.ret with tone := .chirp 101 } }
    ((Examined .quiet t a ∧ TailWaits a) ∧ a.ret.tone = .attend false 101)
    ∧ ((Examined .quiet t c ∧ TailWaits c) ∧ ∀ on due, c.ret.tone ≠ .attend on due) :=
  ⟨⟨examined (by decide +kernel), rfl⟩, examined (by decide +kernel), nofun⟩

theorem witness_ClearEmptiesFaults :
    let t := ticketOf 13 0 []
    let s := offered t { ready with ret := { ready.ret with latched := [.slip], queue := List.replicate 15 (.event .slip 0 0 0) } }
    (Examined .clear t s ∧ TailWaits s) ∧ s.ret.queue.length < 16 :=
  ⟨examined (by decide +kernel), by decide⟩

theorem witness_TurnExamined :
    let t := fun n => ticketOf 7 0 [n]
    let x := fun (n : Byte) (s : State) => Examined .turn (t n) (offered (t n) s) ∧ TailWaits (offered (t n) s)
    let locked : State := { ready with settings := { ready.settings with lock := true } }
    let lost : State := { ready with position := { ready.position with heads := PositionUnit.fullReset.heads } }
    let last := withVolume { volume 0x42 with opening := 4 } ready
    let first := withVolume { volume 0x42 with opening := 0 } ready
    let crowded : State := { ready with ret := { ready.ret with queue := List.replicate 12 (.event .slip 0 0 0) } }
    (x 3 ready ∧ byteAt (t 3).bytes 8 ≠ 1 ∧ byteAt (t 3).bytes 8 ≠ 2)
    ∧ (x 1 locked ∧ byteAt (t 1).bytes 8 = (if true then 1 else 2) ∧ locked.settings.lock = true)
    ∧ (x 2 (noActive ready) ∧ byteAt (t 2).bytes 8 = (if false then 1 else 2) ∧ ready.settings.lock = false)
    ∧ x 1 (armAt .halted ready) ∧ x 1 (armAt .faulted ready)
    ∧ (x 1 lost ∧ lost.position.heads.a.up = false ∧ lost.position.heads.b.up = false)
    ∧ (x 1 last ∧ (last.position.heads.a.up = true ∨ last.position.heads.b.up = true)
      ∧ volumeAt last 1 = some { volume 0x42 with opening := highestOpening (some 6) })
    ∧ (x 2 first ∧ volumeAt first 1 = some { volume 0x42 with opening := 0 })
    ∧ (x 1 first ∧ first.seq.arm = .idle ∧ first.motion.platen = none ∧ raised.down = false
      ∧ first.ret.queue.length < 12 ∧ advanceInFlight first = false ∧ ∀ c st, first.capture.state ≠ .exposing c st)
    ∧ (x 2 last ∧ last.seq.arm = .idle) ∧ x 1 (armAt .settling first)
    ∧ (x 1 crowded ∧ 12 ≤ crowded.ret.queue.length)
    ∧ (x 2 (capturing (.exposing record (.gate none)) ready)
      ∧ advanceInFlight (capturing (.exposing { record with kind := .advance } (.gate none)) ready) = true) := by
  refine ⟨⟨examined ?_, ?_⟩, ⟨examined ?_, ?_⟩, ⟨examined ?_, ?_⟩, examined ?_, examined ?_, ⟨examined ?_, ?_⟩,
    ⟨examined ?_, ?_⟩, ⟨examined ?_, ?_⟩, ⟨examined ?_, rfl, rfl, rfl, ?_, ?_, free_not_exposing rfl⟩, ⟨examined ?_, ?_⟩,
    examined ?_, ⟨examined ?_, ?_⟩, examined ?_, ?_⟩
  all_goals decide +kernel

/-- Capture fields as in Table 6-6 with these buffers. -/
def buffersAt (v r : Nat) : List Byte := put32 v ++ put32 r ++ put16 8 ++ put16 4 ++ put16 2

/-- The state with bar R in a state. -/
def barR (x : BarState) (s : State) : State :=
  { s with lamps := { s.lamps with r := { Bar.fullReset with state := x } } }

/-- The state with both heads DOWN. -/
def headless (s : State) : State := { s with position := { s.position with heads := PositionUnit.fullReset.heads } }

/-- The state with so many records in the return queue. -/
def queued (n : Nat) (s : State) : State :=
  { s with ret := { s.ret with queue := List.replicate n (.event .slip 0 0 0) } }

theorem witness_AdvanceStartsTurn :
    let a := fun (dir sides : Byte) (fields : List Byte) => ticketOf 9 0 ([dir, sides, 0, 0] ++ fields)
    let t := a 1 3 captureParameters
    let b := a 2 3 captureParameters
    let o := a 1 3 (buffersAt 0x08000000 0x100000)
    let p := captureWritten t 9
    let x := fun (k : Ticket) (s : State) => Examined .advance k (offered k s) ∧ TailWaits (offered k s)
    let locked : State := { ready with settings := { ready.settings with lock := true } }
    let last := withVolume { volume 0x42 with opening := 4 } ready
    let first := withVolume { volume 0x42 with opening := 0 } ready
    let spent := withVolume { volume 0x42 with allowance := 1519, exposure := 40 } ready
    (x (a 3 3 captureParameters) ready ∧ byteAt (a 3 3 captureParameters).bytes 8 = 3)
    ∧ (x (a 1 0 captureParameters) ready ∧ FirstFailing (captureChecks (a 1 0 captureParameters) 9 6) 6)
    ∧ (x (a 1 3 (buffersAt 0x08000000 0xFFFFFFF4)) ready
      ∧ FirstFailing (captureChecks (a 1 3 (buffersAt 0x08000000 0xFFFFFFF4)) 9 6) 8)
    ∧ (x t locked ∧ x b (noActive ready) ∧ x t (armAt .halted ready) ∧ x t (armAt .faulted ready) ∧ x t (headless ready)
      ∧ AllHold (captureChecks t 9 6) ∧ AllHold (captureChecks b 9 6) ∧ byteAt t.bytes 8 = 1 ∧ byteAt b.bytes 8 = 2)
    ∧ (x t last ∧ volumeAt last 1 = some { volume 0x42 with opening := highestOpening (some 6) })
    ∧ (x b first ∧ volumeAt first 1 = some { volume 0x42 with opening := 0 })
    ∧ (x o first ∧ AllHold (captureChecks o 9 6)
      ∧ overlapRefusal (offered o first) (captureWritten o 9) = some (.overlap, 2))
    ∧ (x t (barR (.failed .short) first) ∧ overlapRefusal (offered t first) p = none
      ∧ LampRefused (barR (.failed .short) first) p.sides (volume 0x42) .lampFault 2)
    ∧ (x t (barR .hot first) ∧ LampRefused (barR .hot first) p.sides (volume 0x42) .lampHot 2)
    ∧ (x t spent ∧ LampRefused spent p.sides { volume 0x42 with allowance := 1519, exposure := 40 } .allowance 18)
    ∧ (x t (armAt .settling first) ∧ x t (queued 12 first) ∧ x t (capturing (.holding record) first)
      ∧ LampPasses first p.sides (volume 0x42))
    ∧ (x t (queued 11 first) ∧ x b last ∧ overlapRefusal (offered b last) (captureWritten b 9) = none
      ∧ (offered t first).seq.arm = .idle ∧ (offered t first).capture.state = .free
      ∧ advanceInFlight (offered t first) = false ∧ (offered t first).motion.platen = none ∧ raised.down = false) := by
  refine ⟨⟨examined ?_, ?_⟩, ⟨examined ?_, fails_here ?_⟩, ⟨examined ?_, ?_⟩,
    ⟨examined ?_, examined ?_, examined ?_, examined ?_, examined ?_, ?_, ?_, ?_⟩, ⟨examined ?_, ?_⟩, ⟨examined ?_, ?_⟩,
    ⟨examined ?_, ?_, ?_⟩, ⟨examined ?_, ?_, ?_⟩, ⟨examined ?_, ?_⟩, ⟨examined ?_, ?_⟩,
    ⟨examined ?_, examined ?_, examined ?_, ?_⟩, examined ?_, examined ?_, ?_⟩
  case refine_6 =>
    simp only [captureChecks]
    iterate 8 refine fails_later (by decide +kernel) ?_
    exact fails_here (by decide +kernel)
  all_goals first
    | decide +kernel
    | unfold LampRefused; decide +kernel
    | unfold LampPasses; decide +kernel
    | simp only [captureChecks, all_hold_cons, all_hold_nil]; decide +kernel

theorem witness_OverlapMeansSharedByte :
    (∀ e ∈ protectedExtents ready, 0 < e.2) ∧ 0 < frameLength params ∧ overlapRefusal ready params = none
    ∧ overlapRefusal ready { params with buffer := { v := 0xFFFB0, r := 0x0FFFB0 } } = some (.overlap, 1)
    ∧ overlapRefusal ready { params with buffer := { v := 0xFFF70, r := 0xFFFBF } } = some (.overlap, 2) := by
  decide +kernel

theorem witness_CaptureEntersHolding :
    let a := fun (sides : Byte) (fields : List Byte) => ticketOf 8 0 ([sides, 0, 0, 0] ++ fields)
    let t := a 3 captureParameters
    let o := a 1 (buffersAt 0x100000 0)
    let p := captureWritten t 8
    let x := fun (k : Ticket) (s : State) => Examined .capture k (offered k s) ∧ TailWaits (offered k s)
    let spent := withVolume { volume 0x42 with allowance := 1519, exposure := 40 } ready
    (x (a 4 captureParameters) ready ∧ FirstFailing (captureChecks (a 4 captureParameters) 8 5) 5)
    ∧ (x (a 1 (buffersAt 2 0)) ready ∧ FirstFailing (captureChecks (a 1 (buffersAt 2 0)) 8 5) 6)
    ∧ (x o ready ∧ AllHold (captureChecks o 8 5) ∧ overlapRefusal (offered o ready) (captureWritten o 8) = some (.overlap, 1))
    ∧ (x t (noActive ready) ∧ x t (armAt .halted ready) ∧ x t (armAt .faulted ready) ∧ x t (headless ready)
      ∧ AllHold (captureChecks t 8 5) ∧ overlapRefusal (offered t ready) p = none)
    ∧ (x t (barR (.failed .echo) ready) ∧ LampRefused (barR (.failed .echo) ready) p.sides (volume 0x42) .lampFault 2)
    ∧ (x t (barR .hot ready) ∧ LampRefused (barR .hot ready) p.sides (volume 0x42) .lampHot 2)
    ∧ (x t spent ∧ LampRefused spent p.sides { volume 0x42 with allowance := 1519, exposure := 40 } .allowance 18)
    ∧ (x t (capturing (.holding record) ready) ∧ x t (queued 12 ready) ∧ LampPasses ready p.sides (volume 0x42))
    ∧ (x t (armAt .settling (queued 11 ready)) ∧ (armAt .settling (queued 11 ready)).capture.state = .free
      ∧ advanceInFlight (armAt .settling (queued 11 ready)) = false) := by
  refine ⟨⟨examined ?_, fails_here ?_⟩, ⟨examined ?_, fails_later ?_ (fails_here ?_)⟩, ⟨examined ?_, ?_, ?_⟩,
    ⟨examined ?_, examined ?_, examined ?_, examined ?_, ?_, ?_⟩, ⟨examined ?_, ?_⟩, ⟨examined ?_, ?_⟩,
    ⟨examined ?_, ?_⟩, ⟨examined ?_, examined ?_, ?_⟩, examined ?_, ?_⟩
  all_goals first
    | decide +kernel
    | unfold LampRefused; decide +kernel
    | unfold LampPasses; decide +kernel
    | simp only [captureChecks, all_hold_cons, all_hold_nil]; decide +kernel

theorem witness_ConfigurePlacesReads :
    let t := fun (a : Nat) => ticketOf 14 1 (put32 a)
    let x := fun (a : Nat) (s : State) =>
      (Examined .configure (t a) (offered (t a) s) ∧ TailWaits (offered (t a) s)) ∧ serveSilent (offered (t a) s) = none
    let fits := fun (a : Nat) => le32At (t a).bytes 8 % 4 = 0 ∧ le32At (t a).bytes 8 + 256 ≤ 4294967296
    (x 0x1002 ready ∧ ¬ fits 0x1002) ∧ (x 0xFFFFFF04 ready ∧ ¬ fits 0xFFFFFF04)
    ∧ (x 0xFFFFFF00 (configuring .readback ready) ∧ (configuring .readback ready).settings.configure.isSome)
    ∧ (x 0xFFFFFF00 (serving .statusWrite 0xFFF80 ready) ∧ fits 0xFFFFFF00
      ∧ (serving .statusWrite 0xFFF80 ready).settings.configure = none)
    ∧ (x 0 ready ∧ fits 0 ∧ ready.path.internal = [] ∧ ready.path.upstream = [] ∧ ready.path.blocked = []) := by
  refine ⟨⟨⟨examined ?_, rfl⟩, ?_⟩, ⟨⟨examined ?_, rfl⟩, ?_⟩, ⟨⟨examined ?_, rfl⟩, rfl⟩, ⟨⟨examined ?_, rfl⟩, ?_, rfl⟩,
    ⟨examined ?_, rfl⟩, ?_⟩
  all_goals decide +kernel

/-- The default map with a longer account ring. -/
def otherMap : MapSettings := { defaultMap with na := 128 }

theorem map_changes {s : State} {c : Candidate} {m : MapSettings} (e : mapOf s = some m) (h : c.settings.map.na ≠ m.na) :
    MapChange s c := by
  rintro x k ⟨_, _, _, _, _, _, _, r⟩
  rw [e] at k; cases k; exact h r

theorem witness_RestartTakesEffect :
    let t := ticketOf 15 0 []
    let s := offered t ready
    let f := offered t (armAt .faulted ready)
    let c : Candidate := { settings := settings0, profile := 0, mapBad := false, mechBad := false }
    let d : Candidate := { c with settings := { settings0 with map := otherMap }, profile := 8 }
    let w : Restart := { tag := 9, leftFrom := .bare, profile := 8, candidate := some d }
    let r : State := { ready with settings := { ready.settings with startup := .loading, restart := some w } }
    ((Examined .restart t s ∧ TailWaits s) ∧ ticketFlag t 0 = false ∧ AllHold (busyChecks s) ∧ s.settings.configure = none
      ∧ heldCandidate (profileOf .low .low) s = some c ∧ ¬ MapChange s c ∧ MapFree s c)
    ∧ ((Examined .restart t f ∧ TailWaits f) ∧ AllHold (busyChecks f))
    ∧ (r.settings.restart = some w ∧ w.candidate = some d ∧ MapChange r d ∧ MapFree r d) := by
  have same : ¬ MapChange (offered (ticketOf 15 0 []) ready)
      { settings := settings0, profile := 0, mapBad := false, mechBad := false } := fun h => h defaultMap rfl (by decide)
  refine ⟨⟨examined ?_, rfl, ?_, rfl, rfl, same, fun h => absurd h same⟩, ⟨examined ?_, ?_⟩, rfl, rfl,
    map_changes (m := defaultMap) rfl ?_, fun _ => ?_⟩
  all_goals first
    | decide +kernel
    | simp only [busyChecks, mapBusyChecks, all_hold_cons, all_hold_nil]; decide +kernel

theorem witness_RestartRefusedHeldOrReloads :
    let t := ticketOf 15 0 []
    let l := ticketOf 15 1 []
    let x := fun (k : Ticket) (s : State) => Examined .restart k (offered k s) ∧ TailWaits (offered k s)
    let c : Candidate := { settings := imageSettings (zeros 256), profile := 0, mapBad := false, mechBad := false }
    let filled := freeSlots 63 { ready with settings := { ready.settings with pendingImage := some (zeros 256) } }
    let open_ : State := { ready with motion := lastStep }
    let vacuum : State := { ready with seq := { ready.seq with arm := .faulted, vacuum := true } }
    let w : Restart := { tag := 9, leftFrom := .bare, profile := 8, candidate := some c }
    let r : State := { filled with settings := { filled.settings with startup := .loading, restart := some w } }
    (x t (armAt .raising ready) ∧ FirstFailing (busyChecks (offered t (armAt .raising ready))) 1)
    ∧ (x t vacuum ∧ FirstFailing (busyChecks (offered t vacuum)) 1)
    ∧ (x t open_ ∧ FirstFailing (busyChecks (offered t open_)) 4)
    ∧ (x t (configuring .readback ready) ∧ AllHold (busyChecks (offered t (configuring .readback ready))))
    ∧ (x t filled ∧ AllHold (busyChecks (offered t filled)) ∧ filled.settings.configure = none
      ∧ heldCandidate (profileOf .low .low) (offered t filled) = some c
      ∧ MapChange (offered t filled) c ∧ FirstFailing (mapBusyChecks (offered t filled)) 3)
    ∧ (x l ready ∧ ticketFlag l 0 = true ∧ AllHold (busyChecks (offered l ready)))
    ∧ (r.settings.restart = some w ∧ w.candidate = some c ∧ MapChange r c ∧ FirstFailing (mapBusyChecks r) 3) := by
  refine ⟨⟨examined ?_, fails_here ?_⟩, ⟨examined ?_, fails_here ?_⟩,
    ⟨examined ?_, fails_later ?_ (fails_later ?_ (fails_later ?_ (fails_here ?_)))⟩, ⟨examined ?_, ?_⟩,
    ⟨examined ?_, ?_, rfl, rfl, map_changes (m := defaultMap) rfl ?_, fails_later ?_ (fails_later ?_ (fails_here ?_))⟩,
    ⟨examined ?_, rfl, ?_⟩, rfl, rfl, map_changes (m := defaultMap) rfl ?_,
    fails_later ?_ (fails_later ?_ (fails_here ?_))⟩
  all_goals first
    | decide +kernel
    | simp only [busyChecks, all_hold_cons, all_hold_nil]; decide +kernel

theorem witness_StepRunsFrontCommand :
    ({ ready with pending := [.quiet, .fetch] } : State).pending = .quiet :: [.fetch] := rfl

theorem witness_WellFormedCommandsRun :
    (Instr.upstreamTransaction (.read 0xFFFFFFFC 16)).wf = true ∧ (Instr.frameTimeout 3).wf = true
    ∧ exec (.upstreamTransaction (.read 0 17)) ready = .fault .malformedTransaction := ⟨by decide, by decide, rfl⟩

theorem witness_EachCommandChangesOnlyItsParts :
    ∃ t, exec .openVolume (offered openTicket ready) = .next t := ⟨_, rfl⟩

theorem witness_CounterCounts :
    ready.pending = [] ∧ State.reset.pending = [] ∧ (∃ u, exec .fireGate ready = .next u)
    ∧ Instr.fireGate ≠ .resetnAssert ∧ ∀ p, Instr.fireGate ≠ .resetnRelease p :=
  ⟨rfl, rfl, ⟨_, rfl⟩, by decide, nofun⟩

theorem witness_HeaderChecksComplete :
    let x := { ticketOf 10 15 [] with index := 1 }
    let f := ticketOf 10 16 []
    let b := ticketOf 10 15 []
    let bare : State := { ready with settings := { ready.settings with startup := .bare } }
    examinedKind .light = some .light
    ∧ ((offered x ready).tickets.queue.head? = some x ∧ kindOf (ticketKind x) = some .light
      ∧ waitsAtHead (offered x ready).tickets.queue.tail = true ∧ ticketIndexField x ≠ x.index)
    ∧ ((offered f ready).tickets.queue.head? = some f ∧ ticketIndexField f = f.index
      ∧ ¬ ticketFlags f < if Kind.light = .light then 16 else if Kind.light = .configure ∨ Kind.light = .restart then 2 else 1)
    ∧ ((offered b bare).tickets.queue.head? = some b ∧ ticketIndexField b = b.index
      ∧ (ticketFlags b < if Kind.light = .light then 16 else if Kind.light = .configure ∨ Kind.light = .restart then 2 else 1)
      ∧ (offered b bare).settings.startup = .bare) := by decide +kernel

/-- A state that meets every law with something in every part: a strobe raised over two filling windows, a volume whose
dose is spent, seven tickets queued and one fetched, memory written. -/
def lively : State :=
  { lit (withWindows (some { armed .v 1 with filling := true }) (some { armed .r 0 with filling := true })
      (withVolume { volume 0x42 with doseUsed := 100000, exceptions := listed } ready)) with
    tickets := { indexes 8 8 7 with outstanding := 1 }
    path := { ready.path with
      internal := [{ purpose := .ticketRead 7, addr := 0x1001C0, data := [] }], waitCount := 8, foreignWrites := 65535 }
    memory := [(5, 7)]
    pending := [.strobeEnd] }

theorem lively_steps : ∃ t, step lively = .next t := ⟨_, rfl⟩

theorem witness_DoseNeverExceedsAllowance : DoseWithin lively ∧ ∃ t, step lively = .next t :=
  ⟨each_volume rfl (by decide +kernel), lively_steps⟩

theorem witness_DoseUsedNeverFalls :
    (∃ t, exec .captureAcquisition (capturing (.holding record) ready) = .next t)
    ∧ volumeAt (capturing (.holding record) ready) 1 = some (volume 0x42) ∧ Instr.captureAcquisition ≠ .resetnAssert :=
  ⟨⟨_, rfl⟩, rfl, by decide⟩

theorem witness_StrobeOnlyWhileExposingAndIdle :
    StrobeSafe lively ∧ lively.capture.strobe ≠ { v := false, r := false } ∧ ∃ t, step lively = .next t :=
  ⟨⟨rfl, fun _ => ⟨rfl, _, _, _, rfl⟩⟩, by decide, lively_steps⟩

theorem witness_ExceptionListsStayOrdered : ExceptionsOrdered lively ∧ ∃ t, step lively = .next t := by
  refine ⟨?_, lively_steps⟩
  unfold ExceptionsOrdered ListOrdered
  exact each_volume rfl (by decide +kernel)

theorem witness_FramePoolsStayWithinBounds : PoolsWithin lively ∧ ∃ t, step lively = .next t :=
  ⟨by unfold PoolsWithin; decide +kernel, lively_steps⟩

theorem witness_VolumeTableStaysSound : TableSound lively ∧ ∃ t, step lively = .next t := by
  refine ⟨⟨rfl, fun slot h => by cases h; rfl, ?_⟩, lively_steps⟩
  have marks := each_volume (s := lively) (P := fun i v => i < 2 ∧ v.shelfMark = [BitVec.ofNat 8 (0x41 + i)]) rfl
    (by decide +kernel)
  intro i j v w hv hw e
  obtain ⟨a, b⟩ := marks i v hv
  obtain ⟨c, d⟩ := marks j w hw
  rw [b, d, List.cons.injEq] at e
  have := congrArg BitVec.toNat e.1
  simp at this
  omega

theorem witness_FetchedQueueKeepsRoom :
    QueueHasRoom lively ∧ lively.tickets.queue.length + lively.tickets.outstanding = 8 ∧ ∃ t, step lively = .next t :=
  ⟨by unfold QueueHasRoom; decide +kernel, by decide +kernel, lively_steps⟩

theorem witness_QueuesAndCountsStayBounded : QueuesBounded lively ∧ CountsBounded lively ∧ ∃ t, step lively = .next t := by
  refine ⟨by unfold QueuesBounded; decide +kernel, ⟨fun side => ?_, fun h => ?_⟩, lively_steps⟩
  · cases side <;> decide +kernel
  · cases h <;> decide +kernel

theorem witness_MemoryStaysCanonical : Memory.wf lively.memory ∧ ∃ t, step lively = .next t :=
  ⟨by decide, lively_steps⟩

theorem starts {s : State} (a : s.settings.startup = .ready) (w : s.settings.working.isSome)
    (l : s.settings.loading = none) (r : s.settings.restart = none) : StartLaws s := by
  refine ⟨fun h => by simp [a] at h, fun h => by simp [h] at w, fun _ => ⟨by simp [a], fun h => by simp [l] at h⟩, ?_⟩
  simp [r]

theorem witness_NothingWorksBeforeService :
    let s : State := { State.reset with pending := [.resetnRelease true], memory := [(5, 7)] }
    StartLaws lively ∧ (∃ t, step lively = .next t) ∧ StartLaws s ∧ ∃ t, step s = .next t := by
  refine ⟨starts rfl rfl rfl rfl, lively_steps, ⟨fun _ => rfl, fun _ => ⟨rfl, ?_, ?_⟩, ?_, ?_⟩, _, rfl⟩ <;>
    simp [State.reset, SettingsUnit.fullReset]

theorem witness_VacuumAndTurnMatchArmState :
    let s : State := { ready with
      seq := { timed .gripping .grip with vacuum := true }, pending := [.gripTimer true false raised] }
    ArmLaws s ∧ StartLaws s ∧ s.seq.turn.isSome ∧ ∃ t, step s = .next t :=
  ⟨⟨fun _ _ _ => rfl, fun _ => by decide, fun h => absurd rfl h⟩, starts rfl rfl rfl rfl, rfl, _, rfl⟩

/-! ### The through-path, frames and rings -/

theorem rests {s : State} {u : List Transaction} {l : List InternalEntry}
    (h : (match u.head? with | some (.read a n) => decide (closings s a n ≠ []) | _ => true) = true)
    (k : (l.all fun e => match e.purpose with | .imageRead _ => false | _ => true) = true) : PortRests s u l := by
  refine ⟨fun a n e => by rw [e] at h; simpa using h, fun e he i p => ?_⟩
  have := List.all_eq_true.mp k e he
  rw [p] at this
  cases this

theorem unprotected {s : State} {m : MapSettings} {a : Nat} (h : mapOf s = some m)
    (k : ¬ (Inside a m.returnBase (16 * m.nr) ∨ Inside a m.accountBase (64 * m.na) ∨ Inside a m.statusBase 64))
    (g : ∀ x ∈ s.frames.guards, x.all (fun y => decide ¬ (y.base ≤ a ∧ a < y.base + y.length)) = true) : ¬ Protected s a := by
  rintro ⟨n, e, r⟩
  rw [h] at e
  cases e
  rcases r with r | ⟨y, hy, r⟩
  · exact k r
  · have := g _ hy
    simp only [Option.all_some, decide_eq_true_eq] at this
    exact this r

/-- The state with these upstream transactions waiting. -/
def calling (us : List Transaction) (s : State) : State := { s with path := { s.path with upstream := us } }

theorem witness_UpstreamPortAccepts :
    let w : Transaction := .write 0xFFFFFFFC (List.replicate 16 ⟨0, 15⟩)
    let four := calling (List.replicate 4 w) ready
    let three := calling (List.replicate 3 w) ready
    (w.wf = true ∧ four.path.upstream.length = 4 ∧ PortRests four four.path.upstream (waiting four))
    ∧ (State.reset.settings.startup = .resetHeld ∧ PortRests State.reset State.reset.path.upstream (waiting State.reset))
    ∧ (three.settings.startup ≠ .resetHeld ∧ three.path.upstream.length < 4
      ∧ PortRests three (three.path.upstream ++ [w]) (waiting three))
    ∧ ((Transaction.read 0x10083C 1).wf = true ∧ PortRests ready (ready.path.upstream ++ [.read 0x10083C 1]) (waiting ready))
    ∧ (ready.settings.startup ≠ .resetHeld ∧ ready.path.upstream = [] ∧ waiting ready = []
      ∧ closings ready 0x100838 1 = []) :=
  ⟨⟨by decide, rfl, rests rfl rfl⟩, ⟨rfl, rests rfl rfl⟩, ⟨by decide, by decide, rests rfl rfl⟩,
    ⟨by decide, rests (by decide +kernel) rfl⟩, by decide, rfl, rfl, by decide +kernel⟩

theorem witness_UpstreamWriteReachesMemory :
    let ws : List BusWord := List.replicate 16 ⟨0x01020304, 15⟩
    let s := calling [.write 0xFFFFFFFC ws] { ready with memory := [(5, 7)] }
    let p := calling [.write 0xFFFB4 ws] ready
    (Memory.wf s.memory ∧ UpstreamChosen s (.write 0xFFFFFFFC ws) [] ∧ (0xFFFFFFFC : Word).toNat % 4 = 0
      ∧ ws.length = 16 ∧ wordAddress 0xFFFFFFFC 1 = 0)
    ∧ (Memory.wf p.memory ∧ UpstreamChosen p (.write 0xFFFB4 ws) [] ∧ (0xFFFB4 : Word).toNat % 4 = 0 ∧ inService p = true
      ∧ ∃ m, mapOf p = some m ∧ ∃ j < ws.length, wordAddress 0xFFFB4 j = m.postWord ∧ ¬ Protected p m.postWord) :=
  ⟨⟨by decide, ⟨rfl, .inl rfl, rests rfl rfl⟩, by decide, rfl, by decide⟩, by decide, ⟨rfl, .inl rfl, rests rfl rfl⟩,
    by decide, rfl, defaultMap, rfl, 15, by decide, by decide,
    unprotected (m := defaultMap) rfl (by unfold Inside; decide) (by decide)⟩

theorem witness_PostWordOffersProducer :
    let x := fun (w : BusWord) => calling [.write 0xFFFF0 [w]] { ready with tickets := indexes 3 2 0 }
    (∀ w, UpstreamChosen (x w) (.write 0xFFFF0 [w]) [])
    ∧ mapOf (x ⟨3, 15⟩) = some defaultMap ∧ inService (x ⟨3, 15⟩) = true ∧ (0xFFFF0 : Word).toNat = defaultMap.postWord
    ∧ ¬ Protected (x ⟨3, 15⟩) defaultMap.postWord
    ∧ ((3 : Word).setWidth 16 = (x ⟨3, 15⟩).tickets.producer)
    ∧ ((18 : Word).setWidth 16 ≠ (x ⟨18, 15⟩).tickets.producer
      ∧ ((18 : Word).setWidth 16 - (x ⟨18, 15⟩).tickets.fetchIndex).toNat = defaultMap.nt)
    ∧ ((19 : Word).setWidth 16 ≠ (x ⟨19, 15⟩).tickets.producer
      ∧ ((19 : Word).setWidth 16 - (x ⟨19, 15⟩).tickets.fetchIndex).toNat = defaultMap.nt + 1)
    ∧ ((7 : BitVec 4) ≠ 15 ∧ LatchedFault.postFault ∉ (x ⟨3, 7⟩).ret.latched) :=
  ⟨fun _ => ⟨rfl, .inl rfl, rests rfl rfl⟩, rfl, rfl, by decide,
    unprotected (m := defaultMap) rfl (by unfold Inside; decide) (by decide), by decide, by decide, by decide, by decide⟩

theorem witness_DroppedWordsReported :
    let ws : List BusWord := [⟨1, 0⟩, ⟨2, 8⟩]
    let s := calling [.write 0x1017F8 ws] { ready with path := { ready.path with foreignWrites := 65535 } }
    let g : Guard := { base := 0x3000000, length := 0x4000, index := 0, hit := false }
    let z := calling [.write 0x3003FFC [⟨1, 15⟩]] { ready with frames := { ready.frames with
      guards := [none, some g, none, none, none, none, none, none] } }
    (UpstreamChosen s (.write 0x1017F8 ws) [] ∧ mapOf s = some defaultMap
      ∧ (∀ j < ws.length, InOwnRegion defaultMap (wordAddress 0x1017F8 j)) ∧ s.path.foreignWrites = 65535
      ∧ ws[1].be ≠ 0 ∧ ∀ k, k < 1 → ∀ h : k < ws.length, ws[k].be = 0)
    ∧ (UpstreamChosen z (.write 0x3003FFC [⟨1, 15⟩]) [] ∧ mapOf z = some defaultMap
      ∧ ¬ InOwnRegion defaultMap (0x3003FFC : Word).toNat ∧ z.frames.guards[1]? = some (some g)
      ∧ Inside (0x3003FFC : Word).toNat g.base g.length
      ∧ ∀ k < 1, ∀ h, z.frames.guards[k]? = some (some h) → ¬ Inside (0x3003FFC : Word).toNat h.base h.length) := by
  refine ⟨⟨⟨rfl, .inl rfl, rests rfl rfl⟩, rfl, ?_, rfl, ?_, ?_⟩, ⟨rfl, .inl rfl, rests rfl rfl⟩, rfl, ?_, rfl, ?_, ?_⟩
  · unfold InOwnRegion Inside; decide
  · decide
  · intro k l; have : k = 0 := by omega
    subst this; intro _; rfl
  · unfold InOwnRegion Inside; decide
  · unfold Inside; decide
  · intro k l h e; have : k = 0 := by omega
    subst this; cases e

/-- The fire data of a window of leaf 2. -/
def given : FireData :=
  { leaf := 2, take := 1, code := 375, derated := false, doseLimited := true, temp := 81, singleHead := false }

/-- A window of side V, filling after its strobe end, that wants its last word; its partner's frame is COMPLETE. -/
def lastWindow (f : Option FireData) : Window :=
  { armed .v 1 with filling := true, fill := 12, fire := f, strobeEnd := some (60, 40), partnerEnd := some .complete }

/-- A guard elsewhere. -/
def elsewhere : Guard := { base := 0, length := 16, index := 0, hit := false }

/-- That window, its last word waiting, and a guard entry in use. -/
def almostFull (f : Option FireData) : State :=
  let s := calling [.write 0x0800000C [⟨0x10001, 15⟩]] (withWindows (some (lastWindow f)) none ready)
  { s with frames := { s.frames with
      guards := [some elsewhere, none, none, none, none, none, none, none], guardReserved := 1 } }

theorem falls (f : Option FireData) :
    FallsInWindow (almostFull f) 0 0x0800000C ⟨0x10001, 15⟩ (lastWindow f) := by
  refine ⟨⟨[], rfl, .inl rfl, rests rfl rfl⟩, rfl, ?_, ?_, rfl, rfl, ⟨by simp [lastWindow, armed, armedWindow, params, PerSide.get], ?_⟩, ?_⟩
  · exact unprotected (m := defaultMap) rfl (by unfold Inside; decide) (by simp [almostFull, elsewhere])
  · intro m h; cases h; decide
  · simp [lastWindow, armed, armedWindow, params, windowLength, PerSide.get]
  · intro k h; omega

theorem witness_FrameWordJudged :
    FallsInWindow (almostFull none) 0 0x0800000C ⟨0x10001, 15⟩ (lastWindow none) ∧ (lastWindow none).fire = none :=
  ⟨falls none, rfl⟩

theorem witness_RegulatorFormsCode :
    (20 ≤ 20 ∧ 63 < 64) ∧ (64 ≤ 64 ∧ 8192 / 16 ≤ 512) ∧ (511 < 8192 / 16 ∧ 33280 ≤ 32768 + 32768 / 64)
    ∧ (¬ (33281 ≤ 32768 + 32768 / 64 ∧ 32768 ≤ 33281 + 32768 / 64)) := by decide

theorem witness_FrameCompletes :
    let w := lastWindow (some given)
    let s := almostFull (some given)
    FallsInWindow s 0 0x0800000C ⟨0x10001, 15⟩ w ∧ w.fire = some given ∧ w.strobeEnd = some (60, 40)
      ∧ (judgedWindow s w ((0x0800000C : Word).toNat - w.base) ⟨0x10001, 15⟩).full = true
      ∧ volumeAt s w.slot = some (volume 0x42) ∧ s.frames.guards[1]? = some none
      ∧ ∀ k < 1, ∀ x, s.frames.guards[k]? = some x → x.isSome = true :=
  ⟨falls _, rfl, rfl, by decide +kernel, rfl, rfl, fun k h x e => by
    have : k = 0 := by omega
    subst this
    have : x = some elsewhere := by simpa [almostFull] using e.symm
    rw [this]; rfl⟩

theorem witness_FrameTimeoutLosesFrame :
    let w := lastWindow (some given)
    let early : State := { almostFull (some given) with ms := 1559 }
    let due : State := { almostFull (some given) with ms := 1560 }
    (windowAt early 0 = some w ∧ w.filling = true ∧ w.fire = some given ∧ w.strobeEnd = some (60, 40)
      ∧ volumeAt early w.slot = some (volume 0x42) ∧ (mapOf early).isSome
      ∧ reached early.ms (60 + BitVec.ofNat 32 (mechOf early).frameTimeout) = false)
    ∧ reached due.ms (60 + BitVec.ofNat 32 (mechOf due).frameTimeout) = true := by decide +kernel

/-- The account ring of Table 8-5 before step 7, and a read of the closing word of index 940 + `d`. -/
def tableRing (d : Nat) : State :=
  { calling [.read (BitVec.ofNat 32 (0x100800 + 64 * ((44 + d) % 64) + 60)) 1] ready with
    account := { AccountUnit.fullReset with
      producer := 1002, consumer := 940, posted := [44, 45, 46], readMarks := [45, 46] } }

/-- A full return ring and a read of the closing word of index `d`, with records queued. -/
def fullRing (d queued : Nat) : State :=
  { calling [.read (BitVec.ofNat 32 (0x100400 + 16 * d + 12)) 1] ready with
    ret := { ready.ret with
      producer := 32, posted := List.range 31, overruns := 2, overrunPending := true
      queue := List.replicate queued (.event .guardHit 0 0 90) } }

theorem witness_ClosingReadsConsume :
    (∀ s, s = tableRing 0 ∨ s = tableRing 63 → mapOf s = some defaultMap ∧ inService s = true ∧ accountUnread s ≤ 64)
    ∧ UpstreamChosen (tableRing 0) (.read 0x10133C 1) [] ∧ UpstreamChosen (tableRing 63) (.read 0x1012FC 1) []
    ∧ (0x10133C = defaultMap.accountBase + 64 * slotOf (940 + BitVec.ofNat 16 0) defaultMap.na + 60
      ∧ 0x1012FC = defaultMap.accountBase + 64 * slotOf (940 + BitVec.ofNat 16 63) defaultMap.na + 60)
    ∧ (0 < accountUnread (tableRing 0) ∧ 44 ∈ (tableRing 0).account.posted ∧ 44 ∉ (tableRing 0).account.readMarks)
    ∧ ¬ 63 < accountUnread (tableRing 63)
    ∧ (∀ s, s = fullRing 0 0 ∨ s = fullRing 31 0 ∨ s = fullRing 0 16 →
      mapOf s = some defaultMap ∧ inService s = true ∧ returnUnread s = defaultMap.nr)
    ∧ UpstreamChosen (fullRing 0 0) (.read 0x10040C 1) [] ∧ UpstreamChosen (fullRing 31 0) (.read 0x1005FC 1) []
    ∧ UpstreamChosen (fullRing 0 16) (.read 0x10040C 1) [] ∧ ¬ Inside 0x1005FC defaultMap.accountBase (64 * defaultMap.na)
    ∧ (0 ∈ (fullRing 0 0).ret.posted ∧ 0 ∉ (fullRing 0 0).ret.readMarks ∧ (fullRing 0 0).ret.queue = [])
    ∧ 31 ∉ (fullRing 31 0).ret.posted ∧ ((fullRing 0 16).ret.queue ≠ [] ∧ defaultMap.nr < 65536) := by
  refine ⟨?_, ⟨rfl, .inl rfl, rests rfl rfl⟩, ⟨rfl, .inl rfl, rests rfl rfl⟩, by decide, by decide +kernel, by decide +kernel,
    ?_, ⟨rfl, .inl rfl, rests rfl rfl⟩, ⟨rfl, .inl rfl, rests rfl rfl⟩, ⟨rfl, .inl rfl, rests rfl rfl⟩,
    by unfold Inside; decide, by decide +kernel, by decide +kernel, by decide +kernel⟩
  · rintro s (rfl | rfl) <;> exact ⟨rfl, rfl, by decide +kernel⟩
  · rintro s (rfl | rfl | rfl) <;> exact ⟨rfl, rfl, by decide +kernel⟩

theorem witness_OwnWritesServed :
    let e := fun (p : Purpose) => ({ purpose := p, addr := 0xFFFFFFF0, data := zeros 12 ++ [1, 2, 3, 4] } : InternalEntry)
    let s := fun (p : Purpose) => { serving p 0xFFFFFFF0 ready with ret := { ready.ret with statusAgain := true } }
    (∀ p, (∀ k, p ≠ .imageRead k) → InternalChosen (s p) (e p) ∧ Memory.wf (s p).memory ∧ mapOf (s p) = some defaultMap
      ∧ (s p).path.blocked = [] ∧ (s p).ret.statusAgain = true)
    ∧ ∀ p, (e p).addr.toNat % 4 = 0 ∧ (e p).data.length % 4 = 0 ∧ (e p).data.length ≤ 64
      ∧ (e p).addr.toNat + (e p).data.length = 4294967296 :=
  ⟨fun p _ => ⟨⟨rfl, .inl rfl, rests rfl rfl⟩, (by decide : Memory.wf []), rfl, rfl, rfl⟩, fun _ =>
    (by decide : (0xFFFFFFF0 : Word).toNat % 4 = 0 ∧ (zeros 12 ++ ([1, 2, 3, 4] : List Byte)).length % 4 = 0
      ∧ (zeros 12 ++ ([1, 2, 3, 4] : List Byte)).length ≤ 64
      ∧ (0xFFFFFFF0 : Word).toNat + (zeros 12 ++ ([1, 2, 3, 4] : List Byte)).length = 4294967296)⟩

theorem silent {s : State} (h : s.ret.tone = .silent) :
    (∀ on due, s.ret.tone ≠ .attend on due) ∧ ∀ due, s.ret.tone ≠ .chirp due := by simp [h]

theorem witness_StatusAndTonePeriods :
    let late : State := { ready with ms := 1000 }
    let tone := fun (t : Tone) => { ready with ret := { ready.ret with tone := t } }
    (mapOf late = some defaultMap ∧ late.settings.startup = .ready ∧ late.ret.statusWaiting = false
      ∧ reached late.ms (late.ret.statusPlacedAt + 1000) = true)
    ∧ (mapOf ready = some defaultMap ∧ reached ready.ms (ready.ret.statusPlacedAt + 1000) = false)
    ∧ ((tone (.attend true 100)).ret.tone = .attend true 100 ∧ reached ready.ms 100 = true ∧ reached ready.ms 101 = false)
    ∧ (tone (.chirp 100)).ret.tone = .chirp 100 ∧ (∀ on due, ready.ret.tone ≠ .attend on due)
    ∧ ∀ due, ready.ret.tone ≠ .chirp due :=
  ⟨by decide +kernel, by decide +kernel, by decide +kernel, rfl, silent rfl⟩

/-- The read at the head of the request queue of an arrival. -/
def arrival : InternalEntry := { purpose := .ticketRead 0, addr := 0x100000, data := [] }

theorem witness_TicketsFetchedAndTaken :
    let f : State := { ready with tickets := indexes 16 0 7 }
    let a := fun (t : Ticket) (s : State) => InternalChosen (arriving t.bytes s) arrival
    let r : State := { ready with tickets := { ready.tickets with discarding := true } }
    (mapOf f = some defaultMap ∧ f.tickets.outstanding = 0 ∧ f.settings.startup = .ready ∧ f.tickets.barrier = false
      ∧ (f.tickets.producer - f.tickets.fetchIndex).toNat ≠ 0 ∧ f.tickets.queue.length < 8)
    ∧ ¬ (ready.tickets.producer - ready.tickets.fetchIndex).toNat ≠ 0
    ∧ (a (ticketOf 12 0 []) r ∧ (arriving (ticketOf 12 0 []).bytes r).tickets.discarding = true)
    ∧ arrival.addr.toNat + 64 ≤ 4294967296
    ∧ (a (ticketOf 12 0 []) ready ∧ ticketAt (arriving (ticketOf 12 0 []).bytes ready) 0 0x100000 = ticketOf 12 0 []
      ∧ waitsAtHead [ticketOf 12 0 []] = true ∧ ticketKind (ticketOf 12 0 []) ≠ 15)
    ∧ (a (ticketOf 15 0 []) ready ∧ ticketAt (arriving (ticketOf 15 0 []).bytes ready) 0 0x100000 = ticketOf 15 0 []
      ∧ waitsAtHead [ticketOf 15 0 []] = true)
    ∧ (a (ticketOf 16 0 []) ready ∧ ticketAt (arriving (ticketOf 16 0 []).bytes ready) 0 0x100000 = ticketOf 16 0 []
      ∧ ready.tickets.queue = [] ∧ ∀ k, kindOf (ticketKind (ticketOf 16 0 [])) ≠ some k)
    ∧ a { ticketOf 11 0 [] with bytes := (ticketOf 11 0 []).bytes.set 4 1 } ready
      ∧ ticketIndexField { ticketOf 11 0 [] with bytes := (ticketOf 11 0 []).bytes.set 4 1 } ≠ 0 :=
  ⟨by decide +kernel, by decide +kernel, ⟨⟨rfl, .inl rfl, rests rfl rfl⟩, rfl⟩, by decide,
    ⟨⟨rfl, .inl rfl, rests rfl rfl⟩, by decide +kernel⟩, ⟨⟨rfl, .inl rfl, rests rfl rfl⟩, by decide +kernel⟩,
    ⟨⟨rfl, .inl rfl, rests rfl rfl⟩, by decide +kernel, rfl, fun k => by cases k <;> decide +kernel⟩,
    ⟨rfl, .inl rfl, rests rfl rfl⟩, by decide +kernel⟩

/-- A window of side V that is FULL before its strobe end. -/
def fullWindow : Window := { armed .v 1 with filling := true, fill := 16, full := true, fire := some given, partner := none }

theorem witness_HaltStopsAndFlushes :
    let t := ticketOf 11 0 []
    let s := arriving t.bytes (lit (withWindows (some fullWindow) none ready))
    let gate := capturing (.exposing record (.gate none)) (armAt .raising ready)
    let load := capturing (.exposing record (.load fire)) ready
    InternalChosen s arrival ∧ arrival.purpose = .ticketRead 0 ∧ s.tickets.discarding = false
    ∧ ticketAt s 0 arrival.addr.toNat = t ∧ ticketKind t = 11 ∧ ticketIndexField t = 0
    ∧ (s.seq.arm = .idle ∧ s.capture.state = .exposing record (.strobe fire 60) ∧ fire.exposure = (s.ms - 60).toNat
      ∧ (framesRecords { s with frames := strobeGiven 40 false s }).length = 1)
    ∧ (lit { ready with ms := 99 }).capture.state = .exposing record (.strobe fire 60)
    ∧ (Moving gate ∧ gate.capture.state = .exposing record (.gate none) ∧ 40 = gate.stopLine
      ∧ gate.settings.startup = .ready)
    ∧ (load.capture.state = .exposing record (.load fire) ∧ ¬ 20 ≤ 19)
    ∧ (capturing (.holding record) ready).capture.state = .holding record
    ∧ ¬ 40 ≤ ({ ready with stopLine := 39 } : State).stopLine :=
  ⟨⟨rfl, .inl rfl, rests rfl rfl⟩, rfl, rfl, by decide +kernel, by decide +kernel, by decide +kernel,
    ⟨rfl, rfl, by decide +kernel⟩, rfl, ⟨by unfold Moving; decide, rfl, rfl, rfl⟩, ⟨rfl, by decide⟩, rfl, by decide⟩

/-- The state with no position. -/
def lost (s : State) : State := { s with position := { s.position with fused := none } }

/-- The ARM engine runs. -/
def running (s : State) : State := { s with motion := lastStep }

/-- The PLATEN engine makes a move with one step left. -/
def platenRuns (down : Bool) (stop : Bool) (s : State) : State :=
  { s with motion := { s.motion with
      platen := some { down := down, ramp := { newRamp 6000 7 with taken := 5999, stopOrdered := stop } } } }

theorem witness_ResumePressActs :
    let bare : State := { ready with settings := { ready.settings with startup := .bare } }
    let halted := armAt .halted ready
    let ahalted := away halted
    let faulted := armAt .faulted ready
    let headless : State := { faulted with position := { faulted.position with heads := PositionUnit.fullReset.heads } }
    (mechOf ready).park < 4096 ∧ (ready.settings.startup = .ready ∧ 20 ≤ 20 ∧ 40 = ready.resumeLine)
    ∧ ¬ 40 ≤ ({ ready with resumeLine := 39 } : State).resumeLine ∧ bare.settings.startup = .bare
    ∧ (ready.seq.arm ≠ .halted ∧ ready.seq.arm ≠ .faulted)
    ∧ ((running halted).seq.arm = .halted ∧ (running halted).motion.arm.isSome)
    ∧ (ahalted.motion.arm = none ∧ ahalted.position.fused = some { angle := 1900, time := 100 }
      ∧ moveSteps (mechOf ahalted).spr 1900 (mechOf ahalted).park ≠ 0)
    ∧ (halted.motion.arm = none ∧ moveSteps (mechOf halted).spr 2048 (mechOf halted).park = 0)
    ∧ ((lost halted).motion.arm = none ∧ (lost halted).position.fused = none)
    ∧ (headless.seq.arm = .faulted ∧ headless.position.heads.a.up = false ∧ headless.position.heads.b.up = false)
    ∧ ((platenRuns true false faulted).motion.platen.isSome
      ∧ faulted.position.heads.a.up = true ∧ faulted.position.heads.a.goodCount = 3)
    ∧ (faulted.motion.platen = none ∧ raised.down = false ∧ ({ raised with down := true } : Switches).down = true)
    ∧ ((away faulted).motion.arm = none ∧ (away faulted).position.fused = some { angle := 1900, time := 100 }) := by
  decide +kernel

/-- A state of a move whose end is awaited: the arm state, the target and whether the arm owes its move. -/
def moving (a : ArmState) (target : Nat) (s : State) : State :=
  { s with seq := { timed a .grip with timer := none, target := target, top := 7, armPhase := .offered } }

/-- Settings with a coarse screw and a narrow slip tolerance. -/
def coarse (s : State) : State :=
  { s with settings := { s.settings with
      working := some { settings0 with mech := { profileDefaults 0 with spr := 200, slipTolerance := 1 } } } }

theorem witness_EnginesStep :
    let m : ArmMove := { positive := true, ramp := { newRamp 430 7 with taken := 429 } }
    let early : ArmMove := { m with ramp := { m.ramp with taken := 428 } }
    let stopped : ArmMove := { m with ramp := { m.ramp with taken := 3, stopOrdered := true } }
    let arm := fun (x : ArmMove) (s : State) => { s with motion := { s.motion with arm := some x } }
    let owed := { timed .returning .grip with timer := none, target := 2048, top := 7, armPhase := .owed }
    let at_ := fun (angle : Nat) (s : State) =>
      { s with position := { s.position with fused := some { angle := angle, time := 100 } } }
    let sweep := at_ 100 (moving .sweeping 1500 ready)
    let again := arm m { sweep with seq := { sweep.seq with corrections := 1 } }
    ((arm early ready).motion.arm = some early ∧ ¬ (early.ramp.stopOrdered = true ∨ early.ramp.requested ≤ early.ramp.taken + 1))
    ∧ ((arm m ready).seq.armPhase = .none ∧ m.ramp.requested ≤ m.ramp.taken + 1)
    ∧ ((arm stopped (moving .sweeping 1500 ready)).seq.armPhase = .offered ∧ stopped.ramp.stopOrdered = true)
    ∧ (Moving (arm stopped { ready with seq := owed }) ∧ owed.armPhase = .owed ∧ owed.target < 4096
      ∧ moveSteps (mechOf ready).spr 2048 owed.target = 0)
    ∧ moveSteps (mechOf ready).spr 1900 owed.target ≠ 0
    ∧ (Moving (arm m (moving .reaching 2060 ready)) ∧ ¬ (mechOf ready).slipTolerance < circular 2048 2060)
    ∧ (Moving (arm m (moving .sweeping 2061 ready)) ∧ (mechOf ready).slipTolerance < circular 2048 2061
      ∧ moveSteps (mechOf ready).spr 2048 2061 ≠ 0)
    ∧ (Moving (arm m (lost (moving .returning 2048 ready))) ∧ (lost ready).position.fused = none)
    ∧ (Moving (arm m (coarse (moving .homing 2050 ready))) ∧ (mechOf (coarse ready)).slipTolerance < circular 2048 2050
      ∧ moveSteps (mechOf (coarse ready)).spr 2048 2050 = 0)
    ∧ (Moving again ∧ again.seq.corrections ≠ 0 ∧ (mechOf again).slipTolerance < circular 100 1500) := by
  unfold Moving; decide +kernel

/-- A state of a platen move whose end is awaited. -/
def lowering (a : ArmState) (p : MovePhase) (stop : Bool) (s : State) : State :=
  platenRuns (decide (a = .lowering)) stop
    { s with seq := { timed a .grip with timer := none, platenPhase := p, homing := .platenDown } }

theorem witness_PlatenSteps :
    let m : PlatenMove := { down := true, ramp := { newRamp 6000 7 with taken := 5998 } }
    let open_ : Switches := { down := false, up := false, contact := false }
    let shut : Switches := { down := true, up := false, contact := false }
    (({ ready with motion := { ready.motion with platen := some m } } : State).motion.platen = some m
      ∧ ¬ m.ramp.requested ≤ m.ramp.taken + 1 ∧ open_.down = false)
    ∧ ((lowering .halted .none true ready).seq.platenPhase ≠ .owed)
    ∧ ((lowering .halted .none false ready).seq.platenPhase = .none)
    ∧ (Moving (lowering .lowering .offered false ready) ∧ shut.down = true
      ∧ (lowering .lowering .offered false ready).seq.turn.isSome ∧ AnglesWithin ready)
    ∧ (Moving (lowering .homing .offered false ready) ∧ (lowering .homing .offered false ready).seq.homing = .platenDown)
    ∧ (Moving (lowering .raising .offered false ready) ∧ raised.contact = true
      ∧ (lowering .raising .offered false ready).volumes.active = some 1)
    ∧ (Moving (lowering .raising .offered false (noActive ready)) ∧ (noActive ready).volumes.active = none)
    ∧ (Moving (lowering .lowering .offered false ready) ∧ open_.down = false ∧ 6000 ≤ 5999 + 1)
    ∧ (Moving (lowering .lowering .owed true ready) ∧ (lowering .lowering .owed true ready).seq.platenPhase = .owed)
    ∧ (Moving (lowering .raising .owed true ready) ∧ open_.up = false ∧ open_.contact = false)
    ∧ (ready.motion.arm = none ∧ ready.motion.platen = none) := by
  unfold Moving AnglesWithin; decide +kernel

theorem now : reached 100 100 = true := by decide

theorem expired (a : ArmState) (k : TimerKind) (s : State) (h : s.seq = timed a k) (t : s.ms = 100) : Expired k s :=
  ⟨{ kind := k, due := 100 }, by rw [h]; rfl, rfl, by rw [t]; exact now⟩

theorem witness_GripAttempts :
    let s : State := { ready with seq := timed .gripping .grip }
    let w : State := { ready with seq := timed .gripping .release }
    let spent : State := { s with seq := { s.seq with retries := (mechOf s).gripRetries } }
    (s.seq.arm = .gripping ∧ Expired .grip s ∧ AnglesWithin s ∧ s.seq.turn.isSome ∧ s.seq.retries < (mechOf s).gripRetries)
    ∧ (Expired .grip spent ∧ (mechOf spent).gripRetries ≤ spent.seq.retries)
    ∧ (w.seq.arm = .gripping ∧ Expired .release w) ∧ ready.seq.arm ≠ .gripping :=
  ⟨⟨rfl, expired .gripping .grip _ rfl rfl, by unfold AnglesWithin; decide, by decide +kernel⟩,
    ⟨⟨_, rfl, rfl, now⟩, by decide +kernel⟩, ⟨rfl, expired .gripping .release _ rfl rfl⟩, by decide⟩

theorem witness_TurnTimersAct :
    let sweep := fun (n : Nat) => { ready with seq := { timed .sweeping .grip with lowReads := n, nextLeaf := 100 } }
    let release : State := { ready with seq := timed .releasing .release }
    let settle := fun (o : TurnOutcome) => { ready with seq := { timed .settling .settle with outcome := o } }
    let half : Turn := { kind := .advance, tag := 7, forward := true, slot := 1, capture := some params }
    (∀ n, (sweep n).seq.arm = .sweeping ∧ reached (sweep n).ms (sweep n).seq.nextLeaf = true ∧ AnglesWithin (sweep n))
    ∧ ((sweep 3).seq.lowReads + 1 < 5 ∧ 5 ≤ (sweep 4).seq.lowReads + 1)
    ∧ (release.seq.arm = .releasing ∧ Expired .release release ∧ release.seq.turn.isSome
      ∧ volumeAt release 1 = some (volume 0x42))
    ∧ (∀ o, (settle o).seq.arm = .settling ∧ Expired .settle (settle o) ∧ (settle o).seq.outcome = o
      ∧ (settle o).seq.turn = some { kind := .turn, tag := 77, forward := true, slot := 1, capture := none }
      ∧ volumeAt (settle o) 1 = some (volume 0x42))
    ∧ half.capture = some params
    ∧ Expired .settle { ready with seq := { timed .settling .settle with turn := some half } }
    ∧ Expired .settle { ready with seq := { timed .settling .settle with turn := none } }
    ∧ (Expired .homing { ready with seq := timed .homing .homing } ∧ (timed .homing .homing).homing = .heads)
    ∧ ¬ ready.seq.arm = .homing :=
  ⟨fun _ => ⟨rfl, now, (by decide : 2048 < 4096 ∧ 2600 < 4096 ∧ 1500 < 4096)⟩, by decide,
    ⟨rfl, expired .releasing .release _ rfl rfl, rfl, rfl⟩, fun _ => ⟨rfl, ⟨_, rfl, rfl, now⟩, rfl, rfl, rfl⟩, rfl,
    ⟨_, rfl, rfl, now⟩, ⟨_, rfl, rfl, now⟩, ⟨expired .homing .homing _ rfl rfl, rfl⟩, by decide⟩

theorem witness_RoundsAndPollsFallDue :
    let soon : State := { ready with ms := 119 }
    let due : State := { ready with ms := 120, position := { ready.position with due := [100, 120] } }
    let twice : State := { due with link := SensorLink.fullReset }
    let start := offered (ticketOf 7 0 [1]) ready
    let now_ : State := { start with position := { start.position with due := [100] } }
    (Serving soon ∧ soon.pending = [] ∧ ¬ Fast soon ∧ reached (soon.ms + 1) soon.position.nextRound = true)
    ∧ (Fast (running soon) ∧ reached (ready.ms + 1) ready.position.nextRound = false ∧ ¬ Serving State.reset)
    ∧ (∃ u, exec (.turn raised) start = .next u ∧ ¬ Fast start ∧ Fast u ∧ Serving u
      ∧ start.position.due.getLast? ≠ some start.ms ∧ now_.position.due.getLast? = some now_.ms)
    ∧ (∃ u, exec (.moveStep .arm raised) (running ready) = .next u ∧ Fast (running ready) ∧ ¬ Fast u ∧ Serving u)
    ∧ (∃ u, exec .fireGate start = .next u ∧ (Fast start ↔ Fast u))
    ∧ (ready.position.due = [] ∧ due.position.due = 100 :: [120] ∧ due.link.exchange.isSome)
    ∧ (twice.link.samples.a = none ∧ twice.link.samples.b = none ∧ twice.link.exchange = none
      ∧ firstPending { twice.link with samples := { a := some ⟨0, 100⟩, b := some ⟨0, 100⟩ } }
        = some (.sample .a ⟨0, 100⟩))
    ∧ reached due.ms (due.lamps.get .r).pollDue = true ∧ reached 100 101 = false := by
  refine ⟨?_, ?_, ⟨_, rfl, ?_⟩, ⟨_, rfl, ?_⟩, ⟨_, rfl, ?_⟩, ?_⟩
  all_goals first
    | decide +kernel
    | unfold Fast; decide +kernel
    | unfold Fast Serving; decide +kernel

/-- A round whose sample of head B has been judged good, with its angle, and whose sample of head A is awaited. -/
def splitting (raw : Nat) (s : State) : State :=
  { s with position := { s.position with checks := [⟨8, ⟨none, none⟩⟩, ⟨9, ⟨none, some raw⟩⟩] } }

theorem no_split {head : Head} {q : SampleRequest} {w : Half} {s : State} {heads : PerHead HeadUnit}
    (h : checkOf s q = none ∨ sampleKind (s.position.heads.get head) w ≠ 0) : ∀ a b, ¬ SplitRound head q w s heads a b := by
  rintro a b ⟨c, raw, e, k, _⟩
  rcases h with h | h
  · rw [h] at e; cases e
  · exact h k

/-- Head A answers 1810 in the round in which head B answered 1817. -/
def apart : State := splitting 1817 (sampling (headUp 1810) (headUp 1817))

theorem far_splits {s : State} (h : s.position = apart.position) (g : s.settings = apart.settings) :
    SplitRound .a ⟨9, 108⟩ 0x7121 s (s.position.heads.set .a (judgedHead (s.position.heads.get .a) ⟨9, 108⟩ 0x7121))
      1810 1817 := by
  unfold SplitRound checkOf mechOf
  rw [h, g]
  exact ⟨⟨9, ⟨none, some 1817⟩⟩, 1817, rfl, by decide, rfl, rfl, rfl, rfl, by decide +kernel⟩

theorem witness_EncoderReplyJudged :
    let q : SampleRequest := { round := 9, time := 108 }
    let after := fun (x : State) (w : Half) => x.position.heads.set .a (judgedHead (x.position.heads.get .a) q w)
    let splits := fun (x : State) => SplitRound .a q 0x7121 x (after x 0x7121) 1810 1817
    let s := sampling { headUp 1810 with badCount := 7 } (headUp 1866)
    let first : State := { apart with position := { apart.position with checks := [⟨9, ⟨none, none⟩⟩] } }
    let waits := armAt .homing (sampling { HeadUnit.fullReset with goodCount := 2 } HeadUnit.fullReset)
    let discards : State := { s with link := { s.link with discard := true } }
    let caught := fun (c : CaptureState) => capturing c apart
    (s.link.exchange = some (.sample .a q) ∧ s.link.discard = false ∧ discards.link.discard = true)
    ∧ ((∀ a b, ¬ SplitRound .a q 0x718B s (after s 0x718B) a b) ∧ s.seq.arm ≠ .homing
      ∧ (s.position.heads.get .a).up = true ∧ (judgedHead (s.position.heads.get .a) q 0x718B).up = false)
    ∧ ((∀ a b, ¬ SplitRound .a q 0xFFFF apart (after apart 0xFFFF) a b)
      ∧ checkOf apart q = some ⟨9, ⟨none, some 1817⟩⟩ ∧ checkOf first q = some ⟨9, ⟨none, none⟩⟩
      ∧ sampleKind (first.position.heads.get .a) 0x7191 = 0)
    ∧ (splits apart ∧ headEvents .a (apart.position.heads.get .a) q 0x7121 false apart.ms = [] ∧ apart.seq.arm = .idle
      ∧ apart.capture.state = .free ∧ LatchedFault.split ∉ apart.ret.latched)
    ∧ (splits (armAt .faulted apart) ∧ splits (armAt .raising apart))
    ∧ (splits (caught (.holding record)) ∧ splits (caught (.exposing record (.gate none)))
      ∧ splits (caught (.exposing record (.load fire))) ∧ splits (lit apart)
      ∧ (lit apart).capture.state = .exposing record (.strobe fire 60) ∧ fire.exposure = ((lit apart).ms - 60).toNat
      ∧ splits (lit { apart with ms := 99 }))
    ∧ ((∀ a b, ¬ SplitRound .a q 0x8001 waits (after waits 0x8001) a b)
      ∧ waits.seq.arm = .homing ∧ waits.seq.homing = .heads
      ∧ ((after waits 0x8001).get .a).up = true ∧ ((after waits 0x8001).get .a).goodCount = 3
      ∧ waits.motion.platen = none ∧ raised.down = false ∧ (platenRuns true true waits).motion.platen.isSome) := by
  refine ⟨⟨rfl, rfl, rfl⟩, ⟨no_split (.inl rfl), ?_⟩, ⟨no_split (.inr ?_), ?_⟩, ⟨far_splits rfl rfl, ?_⟩,
    ⟨far_splits rfl rfl, far_splits rfl rfl⟩,
    ⟨far_splits rfl rfl, far_splits rfl rfl, far_splits rfl rfl, far_splits rfl rfl, rfl, ?_, far_splits rfl rfl⟩,
    no_split (.inl rfl), ?_⟩
  all_goals decide +kernel

theorem witness_LampRepliesJudged :
    let b : Bar := { Bar.fullReset with lastCode := some 375, load := .verify }
    let again : Bar := { b with echo := .mismatch }
    let s := polling b
    let side := fun (x : Bar) (w : Half) => verifiedBar x (judgedBar (profileDefaults 0) x w) w
    let loads := fun (x : LoadPhase) => { polling { Bar.fullReset with load := x } with
      link := { State.reset.link with exchange := some (.load .v 375) } }
    let discards : State := { s with link := { s.link with discard := true } }
    let failing := capturing (.exposing record (.load fire)) (polling { Bar.fullReset with noReply := 7 })
    (s.link.exchange = some (.poll .v) ∧ s.link.discard = false ∧ discards.link.discard = true)
    ∧ ¬ (Bar.fullReset.load = .verify)
    ∧ (b.load = .verify ∧ isFailed (judgedBar (profileDefaults 0) b 0xFFFF).state = false ∧ ¬ LampAnswered b 0xFFFF)
    ∧ (isFailed (judgedBar (profileDefaults 0) b 0x5117).state = false ∧ LampAnswered b 0x5117
      ∧ (side b 0x5117).echo = .isMatch)
    ∧ (LampAnswered b 0x5113 ∧ (side b 0x5113).echo = .mismatch ∧ isFailed (side b 0x5113).state = false)
    ∧ (LampAnswered again 0x5113 ∧ isFailed (side again 0x5113).state = true)
    ∧ ((loads .underway).link.exchange = some (.load .v 375) ∧ ((loads .underway).lamps.get .v).load = .underway)
    ∧ (((loads .none).lamps.get .v).load ≠ .underway)
    ∧ (({ loads .none with link := { (loads .none).link with discard := true } } : State).link.discard = true
      ∧ firstPending { s.link with exchange := none, loads := { v := some 375, r := none } } = some (.load .v 375))
    ∧ (isFailed (discards.lamps.get .v).state = false
      ∧ isFailed ((polling { b with state := .failed .echo }).lamps.get .v).state = true
      ∧ lampFaultOf .v ∉ discards.ret.latched)
    ∧ (failing.capture.state = .exposing record (.load fire) ∧ record.params.sides.get .v = true
      ∧ isFailed (side (failing.lamps.get .v) 0xFFFF).state = true) := by decide +kernel

theorem armed_in_lowest :
    ArmedIn (profileDefaults 0) record [none, none, none, none]
      [some (freshWindow (profileDefaults 0) 1 params .v (some 1)), some (freshWindow (profileDefaults 0) 1 params .r (some 0)),
        none, none] := by
  refine .inl ⟨0, 1, rfl, ⟨rfl, by decide, by omega⟩, ⟨rfl, by decide, ?_⟩, rfl⟩
  intro k h _
  have : k = 0 := by omega
  rw [this]

/-- The four windows in use. -/
def fourWindows (s : State) : State :=
  { s with frames := { s.frames with
      windows := [some (armed .v 1), some (armed .r 0), some (armed .v 3), none], guardReserved := 3 } }

theorem witness_CapturesAcquireAndCharge :
    let holding := fun (s : State) => capturing (.holding record) s
    let gate := fun (w : Option Word) (s : State) => capturing (.exposing record (.gate w)) s
    let bar := fun (x : BarState) => { ready with lamps := { ready.lamps with r := { Bar.fullReset with state := x } } }
    let off := fun (a : Nat) => { ready with position := { ready.position with fused := some { angle := a, time := 80 } } }
    let down : State := { ready with position := { ready.position with heads := PositionUnit.fullReset.heads } }
    let k := overSides record.params.sides (fun _ => 1)
    ((∀ c, ready.capture.state ≠ .holding c) ∧ (holding (fourWindows ready)).capture.state = .holding record
      ∧ ¬ k ≤ (fourWindows ready).frames.windows.countP fun w => w.isNone
      ∧ k ≤ accountCapacity (fourWindows ready)
        - ((fourWindows ready).account.producer - ready.account.consumer).toNat - ready.account.reserved)
    ∧ (k ≤ (holding ready).frames.windows.countP (fun w => w.isNone)
      ∧ accountCapacity (freeSlots 1 ready) - ((freeSlots 1 ready).account.producer - ready.account.consumer).toNat
        - ready.account.reserved < k ∧ LatchedFault.accountFull ∉ ready.ret.latched)
    ∧ accountCapacity (freeSlots 2 ready) - ((freeSlots 2 ready).account.producer - ready.account.consumer).toNat
        - ready.account.reserved = k
    ∧ ArmedIn (mechOf ready) record (holding ready).frames.windows
        [some (freshWindow (profileDefaults 0) 1 params .v (some 1)),
          some (freshWindow (profileDefaults 0) 1 params .r (some 0)), none, none]
    ∧ ((∀ c d, ready.capture.state ≠ .exposing c (.gate d)) ∧ (gate none ready).capture.state = .exposing record (.gate none))
    ∧ (gate none (armAt .halted ready)).seq.arm = .halted
    ∧ (down.position.heads.a.up = false ∧ down.position.heads.b.up = false)
    ∧ sidesIn isFailed record.params.sides (bar (.failed .echo)) = 2
    ∧ (sidesIn isFailed record.params.sides (bar .hot) = 0
      ∧ sidesIn (fun b => decide (b = .hot)) record.params.sides (bar .hot) = 2)
    ∧ (gate none (armAt .lowering ready)).seq.arm ≠ .idle
    ∧ (ParkHolds (off 2056) ∧ (off 2056).seq.arm = .idle ∧ volumeAt (off 2056) 1 = some (volume 0x42)
      ∧ doseShort ready nearlyUsed record.params.sides = true ∧ capOf nearlyUsed record.params.sides = 375
      ∧ capOf { nearlyUsed with doseUsed := 198481 } record.params.sides < (mechOf ready).dMin)
    ∧ ParkFails (off 2057) 3
    ∧ (ParkFails { off 2048 with ms := 101 } 2 ∧ ParkFails (lost ready) 1
      ∧ (gate (some 101) { off 2048 with ms := 101 }).capture.state = .exposing record (.gate (some 101))
      ∧ reached 101 101 = true)
    ∧ (reached 100 101 = false ∧ (gate (some 101) ready).capture.state = .exposing record (.gate (some 101))) := by
  refine ⟨⟨free_not_holding rfl, rfl, ?_⟩, ?_, ?_, armed_in_lowest, ⟨?_, rfl⟩, rfl, ⟨rfl, rfl⟩, ?_, ?_, ?_,
    ⟨⟨_, rfl, ?_⟩, rfl, rfl, ?_⟩, .inr ⟨_, rfl, .inr ⟨rfl, ?_⟩⟩,
    ⟨.inr ⟨_, rfl, .inl ⟨rfl, ?_⟩⟩, .inl ⟨rfl, rfl⟩, rfl, ?_⟩, ?_, rfl⟩
  case refine_4 => intro c d; exact free_not_exposing rfl c _
  all_goals decide +kernel

theorem witness_StrobesRaiseAndEnd :
    let load := fun (s : State) => capturing (.exposing record (.load fire)) { s with lamps := loadedBars }
    let at59 : State := { ready with ms := 99 }
    let full := lit (withWindows (some fullWindow) none ready)
    ((load ready).capture.state = .exposing record (.load fire)
      ∧ BarsLoaded record.params.sides (load ready) ∧ (load ready).seq.arm = .idle ∧ ParkHolds (load ready))
    ∧ ¬ BarsLoaded record.params.sides (capturing (.exposing record (.load fire)) ready)
    ∧ (load (armAt .halted ready)).seq.arm ≠ .idle ∧ ParkFails (load (lost ready)) 1
    ∧ (full.capture.state = .exposing record (.strobe fire 60) ∧ fire.exposure = (full.ms - 60).toNat
      ∧ (framesRecords { full with frames := strobeGiven 40 false full }).length = 1)
    ∧ ¬ fire.exposure ≤ ((lit at59).ms - 60).toNat
    ∧ (ParkHolds (lit ready) ∧ (lit ready).seq.arm = .idle)
    ∧ (lit (armAt .raising at59)).seq.arm ≠ .idle ∧ ((lit (armAt .raising at59)).ms - 60).toNat < fire.exposure := by
  refine ⟨⟨rfl, ?_, rfl, ⟨_, rfl, ?_⟩⟩, ?_, ?_, .inl ⟨rfl, rfl⟩, ⟨rfl, ?_⟩, ?_, ⟨⟨_, rfl, ?_⟩, rfl⟩, ?_⟩
  case refine_1 => intro side _; cases side <;> rfl
  case refine_3 => intro h; cases h .v rfl
  all_goals decide +kernel

/-- The CRC-16 register over a number, which kernel evaluation keeps small at each byte. -/
def crcFrom : Nat → List Byte → Nat
  | c, [] => c
  | 0, b :: bs => crcFrom (crc16Byte 0 b).toNat bs
  | n + 1, b :: bs => crcFrom (crc16Byte (BitVec.ofNat 16 (n + 1)) b).toNat bs

theorem crcFrom_eq (bs : List Byte) (c : Half) : crcFrom c.toNat bs = (bs.foldl crc16Byte c).toNat := by
  induction bs generalizing c with
  | nil => cases h : c.toNat <;> simp [crcFrom, h]
  | cons b bs ih =>
    have e : BitVec.ofNat 16 c.toNat = c := BitVec.eq_of_toNat_eq (by simp)
    cases h : c.toNat with
    | zero =>
      rw [h] at e
      rw [crcFrom, ih, List.foldl_cons, ← e]
      rfl
    | succ n =>
      rw [h] at e
      rw [crcFrom, ih, List.foldl_cons, ← e]

theorem crc16_iff (bs : List Byte) (k : Nat) : crc16 bs = BitVec.ofNat 16 k ↔ crcFrom 65535 bs = k % 65536 := by
  rw [← BitVec.toNat_inj, BitVec.toNat_ofNat]
  exact Iff.of_eq (congrArg (· = k % 65536) (crcFrom_eq bs 0xFFFF).symm)

/-- A map section that places the default map, with the chirp on (Tables 9-6, 12-10). -/
def mapSection : List Byte :=
  put32 0x100000 ++ put32 0xFFFF0 ++ put32 0x100400 ++ put32 0x100800 ++ put32 0xFFF80 ++ put16 16 ++ put16 32
    ++ put16 64 ++ [1] ++ zeros 35 ++ [0xA6, 0x47]

/-- A mechanism section with the defaults of profile 0 (Tables 11-3, 12-10). -/
def mechSection : List Byte :=
  ladderA.flatMap put16 ++ (profileDefaults 0).platenLadder.flatMap put16 ++ put16 3200 ++ put16 6000 ++ put16 2048
    ++ put16 2600 ++ put16 1500 ++ [8, 12, 6, 2] ++ put16 0 ++ put16 150 ++ put16 100 ++ put16 400 ++ [2, 0] ++ put16 1500
    ++ put16 20 ++ put16 900 ++ put16 64000 ++ [95, 110] ++ put16 0 ++ put16 0 ++ put16 128 ++ put16 64 ++ put16 0
    ++ put16 0 ++ put16 128 ++ put16 64 ++ zeros 108 ++ [0xA9, 0x90]

/-- Tables 12-10 and 11-3: the bytes of a section read back as its settings. -/
theorem test_sections_read_back :
    mapFields mapSection = { defaultMap with chirp := true } ∧ mechFields mechSection = profileDefaults 0 := by
  decide +kernel

theorem witness_StartUpReachesService :
    let settling : State := { State.reset with
      ms := 20, settings := { State.reset.settings with startup := .powerSettling, settleUntil := 20 } }
    let last := loading .mechSection 3
    let reload : State := { ready with settings := { ready.settings with
      startup := .loading, loading := some { reading := .mechSection, failed := 0, retryAt := none, map := some defaultMap }
      restart := some { tag := 1, leftFrom := .ready, profile := 0, candidate := none } } }
    let waiting_ : Loading := { reading := .mapSection, failed := 3, retryAt := some 20, map := none }
    let wait : State := { settling with settings := { settling.settings with startup := .loading, loading := some waiting_ } }
    ready.settings.startup ≠ .resetHeld ∧ State.reset.settings.startup = .resetHeld
    ∧ (settling.settings.startup = .powerSettling ∧ reached settling.ms settling.settings.settleUntil = true)
    ∧ reached ({ settling with ms := 19 } : State).ms settling.settings.settleUntil = false
    ∧ ((loading .mapSection 2).settings.loading = some { reading := .mapSection, failed := 2, retryAt := none, map := none }
      ∧ (loading .mapSection 2).settings.startup = .loading ∧ ¬ WholeSection 64 (mapSection.set 3 1))
    ∧ (last.settings.loading = some { reading := .mechSection, failed := 3, retryAt := none, map := none }
      ∧ last.settings.restart = none ∧ last.seq.arm = .faulted)
    ∧ (WholeSection 64 mapSection ∧ mapContentsPass (mapFields mapSection) = true)
    ∧ (WholeSection 192 mechSection ∧ mechContentsPass (mechFields mechSection) = true
      ∧ (loading .mechSection 0).settings.restart = none)
    ∧ (reload.settings.restart.isSome ∧ reload.settings.startup = .loading)
    ∧ (wait.settings.loading = some waiting_ ∧ waiting_.retryAt = some 20 ∧ reached wait.ms 20 = true) := by
  simp only [WholeSection, crc16_iff]; decide +kernel

/-- The last read of a CONFIGURE image is next; the image is the two sections, its last 64 bytes in memory. -/
def configuringImage (image : List Byte) (store : Bool) : State :=
  { ready with
    settings := { ready.settings with configure := some { tag := 5, store := store, phase := .reading (image.take 192) } }
    path := { ready.path with internal := [{ purpose := .imageRead 3, addr := 0x2000, data := [] }] }
    memory := (image.drop 192).zipIdx.foldl (fun m (b, k) => writeByte m (0x2000 + k) b) [] }

/-- The image that such a state reads. -/
def imageOf (s : State) (early : List Byte) : List Byte :=
  early ++ (List.range 64).map fun k => readByte s.memory (0x2000 + k)

theorem witness_SettingsCheckedAndStored :
    let image := mapSection ++ mechSection
    let due : State := { ready with ms := 200 }
    let s := configuringImage image true
    let storing := configuring (.storing 255 80) ready
    let back := configuring .readback { ready with settings := { ready.settings with pendingImage := some image } }
    (due.settings.startup = .ready ∧ reached due.ms due.settings.profileDue = true
      ∧ 3 * levelNumber .low + levelNumber .low = due.settings.profile
      ∧ 3 * levelNumber .floating + levelNumber .floating ≠ due.settings.profile
      ∧ LatchedFault.profileChanged ∉ due.ret.latched)
    ∧ reached ready.ms ready.settings.profileDue = false ∧ ready.path.internal = []
    ∧ InternalChosen s { purpose := .imageRead 3, addr := 0x2000, data := [] } ∧ (0x2000 : Word).toNat + 64 ≤ 4294967296
    ∧ s.settings.configure = some { tag := 5, store := true, phase := .reading (image.take 192) }
    ∧ imageOf s (image.take 192) = image
    ∧ (CrcHolds (mapPart image) 62 ∧ CrcHolds (mechPart image) 190 ∧ mapContentsPass (mapFields (mapPart image)) = true
      ∧ mechContentsPass (mechFields (mechPart image)) = true)
    ∧ ¬ CrcHolds (mapPart (image.set 0 1)) 62 ∧ ¬ CrcHolds (mechPart (image.set 64 1)) 190
    ∧ (CrcHolds (mapPart (zeros 62 ++ [0xC9, 0xDB])) 62
      ∧ mapContentsPass (mapFields (mapPart (zeros 62 ++ [0xC9, 0xDB]))) = false)
    ∧ (CrcHolds (zeros 190 ++ [0x14, 0xEB]) 190 ∧ mechContentsPass (mechFields (zeros 190 ++ [0x14, 0xEB])) = false)
    ∧ (storing.settings.configure = some { tag := 5, store := true, phase := .storing 255 80 }
      ∧ (storing.ms - 80).toNat = 20)
    ∧ (∀ c i t, ¬ (ready.settings.configure = some c ∧ c.phase = .storing i t))
    ∧ (back.settings.configure = some { tag := 5, store := true, phase := .readback }
      ∧ back.settings.pendingImage = some image ∧ (∀ i < 256, image[i]? = image[i]?)
      ∧ image[255]? ≠ (image.take 255)[255]? ∧ ∀ j < 255, image[j]? = (image.take 255)[j]?) := by
  refine ⟨by decide +kernel, by decide, rfl, ⟨rfl, .inl rfl, ?_⟩, by decide, rfl, by decide +kernel, ?_, ?_, ?_, ?_, ?_,
    ⟨rfl, by decide⟩, ?_, rfl, rfl,
    fun _ _ => rfl, by decide +kernel, ?_⟩
  · exact rests rfl rfl
  · simp only [CrcHolds, crc16_iff]; decide +kernel
  · simp only [CrcHolds, crc16_iff]; decide +kernel
  · simp only [CrcHolds, crc16_iff]; decide +kernel
  · simp only [CrcHolds, crc16_iff]; decide +kernel
  · simp only [CrcHolds, crc16_iff]; decide +kernel
  · rintro c i t ⟨h, _⟩
    exact nomatch (show none = some c from h)
  · intro j h
    rw [List.getElem?_take]
    simp [h]

end Sys2Proof.Tests
end

section
/-! SUPPORT. The exception list (R21): what its operations do to the entries and to their order, and where an offered
entry goes. -/
namespace Sys2Proof.Machine

/-! ## The key of a leaf side -/

/-- The key names the leaf side. -/
theorem entryKey_eq_exceptionKey_iff (x : ExceptionEntry) (leaf : Nat) (side : Side) :
    entryKey x = exceptionKey leaf side ↔ x.leaf = leaf ∧ x.side = side := by
  obtain ⟨l, s, _⟩ := x
  cases s <;> cases side <;> simp [entryKey, exceptionKey] <;> omega

theorem entryKey_eq_iff (x e : ExceptionEntry) : entryKey x = entryKey e ↔ x.leaf = e.leaf ∧ x.side = e.side :=
  entryKey_eq_exceptionKey_iff x e.leaf e.side

theorem hasEntry_iff (e : ExceptionEntry) (l : List ExceptionEntry) :
    hasEntry e l = true ↔ ∃ x ∈ l, x.leaf = e.leaf ∧ x.side = e.side := by
  simp [hasEntry, entryKey_eq_iff]

theorem not_hasEntry_iff (e : ExceptionEntry) (l : List ExceptionEntry) :
    hasEntry e l = false ↔ ∀ x ∈ l, ¬ (x.leaf = e.leaf ∧ x.side = e.side) := by
  rw [Bool.eq_false_iff, ne_eq, hasEntry_iff]
  simp

/-! ## Insertion -/

/-- An insertion splits the list in two and stands between the parts. -/
theorem insertException_split (e : ExceptionEntry) (l : List ExceptionEntry) :
    ∃ before after, l = before ++ after ∧ insertException e l = before ++ e :: after := by
  induction l with
  | nil => exact ⟨[], [], rfl, rfl⟩
  | cons x xs ih =>
    unfold insertException
    split
    · exact ⟨[], x :: xs, rfl, rfl⟩
    · obtain ⟨before, after, hl, hi⟩ := ih
      exact ⟨x :: before, after, by rw [hl]; rfl, by rw [hi]; rfl⟩

theorem insertException_perm (e : ExceptionEntry) (l : List ExceptionEntry) :
    (insertException e l).Perm (e :: l) := by
  obtain ⟨before, after, hl, hi⟩ := insertException_split e l
  rw [hi, hl]
  exact List.perm_middle

/-- Inserting an entry for an absent leaf side keeps the order. -/
theorem insertException_pairwise (e : ExceptionEntry) (l : List ExceptionEntry)
    (hl : l.Pairwise fun a b => entryKey a < entryKey b) (absent : ∀ x ∈ l, entryKey x ≠ entryKey e) :
    (insertException e l).Pairwise fun a b => entryKey a < entryKey b := by
  induction l with
  | nil => exact List.pairwise_singleton _ _
  | cons x xs ih =>
    obtain ⟨hx, hxs⟩ := List.pairwise_cons.1 hl
    have hne := absent x List.mem_cons_self
    unfold insertException
    split
    · rename_i hlt
      refine List.pairwise_cons.2 ⟨fun y hy => ?_, hl⟩
      rcases List.mem_cons.1 hy with rfl | hy
      · exact hlt
      · exact Nat.lt_trans hlt (hx y hy)
    · refine List.pairwise_cons.2 ⟨fun y hy => ?_, ih hxs fun y hy => absent y (List.mem_cons_of_mem _ hy)⟩
      rcases List.mem_cons.1 ((insertException_perm e xs).mem_iff.1 hy) with rfl | hy
      · omega
      · exact hx y hy

/-! ## An offered entry (R21) -/

/-- Replacing the entry of a leaf side leaves every key as it was. -/
theorem map_entryKey_replace (e : ExceptionEntry) (l : List ExceptionEntry) :
    (l.map fun x => if entryKey x = entryKey e then e else x).map entryKey = l.map entryKey := by
  rw [List.map_map]
  refine List.map_congr_left fun x _ => ?_
  by_cases h : entryKey x = entryKey e <;> simp [h]

theorem offerException_present {e : ExceptionEntry} {v : Volume} (h : hasEntry e v.exceptions = true) :
    offerException e v =
      { v with exceptions := v.exceptions.map fun x => if entryKey x = entryKey e then e else x } := by
  rw [offerException, if_pos h]

theorem offerException_room {e : ExceptionEntry} {v : Volume} (h : hasEntry e v.exceptions = false)
    (hl : v.exceptions.length < 16) :
    offerException e v = { v with exceptions := insertException e v.exceptions } := by
  rw [offerException, if_neg (by simp [h]), if_pos hl]

theorem offerException_overfull {e : ExceptionEntry} {v : Volume} (h : hasEntry e v.exceptions = false)
    (hl : ¬ v.exceptions.length < 16) : offerException e v = { v with overfull := true } := by
  rw [offerException, if_neg (by simp [h]), if_neg hl]

/-- What an offer can do: replace, insert, or mark the volume overfull. -/
theorem offerException_cases (e : ExceptionEntry) (v : Volume) :
    (hasEntry e v.exceptions = true ∧ offerException e v =
        { v with exceptions := v.exceptions.map fun x => if entryKey x = entryKey e then e else x })
    ∨ (hasEntry e v.exceptions = false ∧ v.exceptions.length < 16 ∧
        offerException e v = { v with exceptions := insertException e v.exceptions })
    ∨ (hasEntry e v.exceptions = false ∧ ¬ v.exceptions.length < 16 ∧
        offerException e v = { v with overfull := true }) := by
  cases h : hasEntry e v.exceptions with
  | true => exact .inl ⟨rfl, offerException_present h⟩
  | false =>
    by_cases hl : v.exceptions.length < 16
    · exact .inr (.inl ⟨rfl, hl, offerException_room h hl⟩)
    · exact .inr (.inr ⟨rfl, hl, offerException_overfull h hl⟩)

/-- An offer keeps the order, the absence of repeats and the bound. -/
theorem offerException_ordered {e : ExceptionEntry} {v : Volume} (h : ListOrdered v.exceptions) :
    ListOrdered (offerException e v).exceptions := by
  obtain ⟨hlen, hord⟩ := h
  rcases offerException_cases e v with ⟨-, hv⟩ | ⟨habs, hroom, hv⟩ | ⟨-, -, hv⟩ <;> rw [hv]
  · refine ⟨by simpa using hlen, ?_⟩
    rw [← List.pairwise_map (f := entryKey) (R := (· < ·))] at hord ⊢
    rwa [map_entryKey_replace]
  · refine ⟨by rw [(insertException_perm e _).length_eq]; exact hroom,
      insertException_pairwise e _ hord fun x hx hk => ?_⟩
    exact (not_hasEntry_iff _ _).1 habs x hx ((entryKey_eq_iff _ _).1 hk)
  · exact ⟨hlen, hord⟩

/-- An offer changes the list and the overfull flag of a volume and nothing else. -/
theorem offerException_frame (e : ExceptionEntry) (v : Volume) :
    offerException e v =
      { v with exceptions := (offerException e v).exceptions, overfull := (offerException e v).overfull } := by
  rcases offerException_cases e v with ⟨-, hv⟩ | ⟨-, -, hv⟩ | ⟨-, -, hv⟩ <;> rw [hv]

theorem removeException_exceptions (leaf : Nat) (side : Side) (v : Volume) :
    (removeException leaf side v).exceptions =
      v.exceptions.filter fun x => decide ¬ (x.leaf = leaf ∧ x.side = side) :=
  List.filter_congr fun x _ => decide_eq_decide.2 (not_congr (entryKey_eq_exceptionKey_iff x leaf side))

/-! ## The volume table -/

theorem volumeAt_setVolume_none (slot : Nat) (s : State) : volumeAt (setVolume slot none s) slot = none := by
  by_cases h : slot < s.volumes.entries.length <;> simp [volumeAt, h]

/-- Settles O8: the three things an offer can do, each with its list, and the removal and the freed entry. -/
theorem exceptionPlacement : Obligations.ExceptionPlacement := by
  intro e v hord
  refine ⟨fun present => ?_, fun absent => ⟨fun room => ?_, fun full => ?_⟩, offerException_ordered hord,
    offerException_frame e v, fun leaf side => removeException_exceptions leaf side v,
    fun slot s => volumeAt_setVolume_none slot _⟩
  · rw [offerException_present ((hasEntry_iff _ _).2 present)]
    simp only [entryKey_eq_iff, and_self]
  · rw [offerException_room ((not_hasEntry_iff _ _).2 absent) room]
    exact ⟨insertException_split e v.exceptions, rfl⟩
  · rw [offerException_overfull ((not_hasEntry_iff _ _).2 absent) (by omega)]
    exact ⟨rfl, rfl⟩

end Sys2Proof.Machine
end

section
/-! SUPPORT. The ends of an examination (R33 to R37): the head refused, completed, or held, as one lemma each about the
whole step. -/
namespace Sys2Proof.Machine

/-! ## Frames -/

/-- The return writer stands as it did when none of its parts is listed. -/
theorem Changes.ret_eq {ps : List Part} {s t : State} (h : Changes ps s t)
    (out : ∀ p ∈ [Part.returnRing, .returnConsumer, .returnQueue, .overruns, .latched, .statusMarks, .tone], p ∉ ps) :
    t.ret = s.ret := by
  have ring := h .returnRing (out _ (by simp))
  have consumer := h .returnConsumer (out _ (by simp))
  have queue := h .returnQueue (out _ (by simp))
  have overruns := h .overruns (out _ (by simp))
  have latched := h .latched (out _ (by simp))
  have status := h .statusMarks (out _ (by simp))
  have tone := h .tone (out _ (by simp))
  cases ht : t.ret
  cases hs : s.ret
  simp_all [Part.same]

/-- A frame of listed parts is a frame of a step that ends with `settle`. -/
theorem Changes.settle_only {ps : List Part} {s x : State} (h : Changes ps s x) : Only ps s (settle s x) :=
  Machine.settle_only (h.mono fun _ hp => List.mem_append_left _ hp)

/-! ## The completion of the head -/

/-- Only a RESTART has the kind value 15. -/
theorem Examined.kind_ne_15 {k : Kind} {t : Ticket} {s : State} (h : Examined k t s) (hk : k ≠ .restart) :
    ticketKind t ≠ 15 := by
  obtain ⟨-, kind, -, -⟩ := h
  intro h15
  rw [h15] at kind
  exact hk (Option.some.inj kind).symm

/-- A head other than a RESTART leaves the queue and its completion is handed over. -/
theorem completeHead_eq_handAll {t : Ticket} {s : State} (hk : ticketKind t ≠ 15) (hw : TailWaits s)
    (o : OutcomeCode) (slot d : Nat) :
    completeHead t o slot d s = handAll [completionOf t o slot d s.ms] (popHead s) := by
  rw [completeHead_waits t o slot d s hw, dropBarrierFor, if_neg hk]
  rfl

/-- The effect of a volume ticket before its completion: it changes the volume table and the account at most, and no
entry of the request queue leaves. -/
structure OwnEffect (s x : State) : Prop where
  changes : Changes accountParts s x
  waits : ∀ e ∈ waiting s, e ∈ waiting x

theorem OwnEffect.refl (s : State) : OwnEffect s s := ⟨.refl _ s, fun _ he => he⟩

theorem OwnEffect.trans {s x y : State} (h : OwnEffect s x) (k : OwnEffect x y) : OwnEffect s y :=
  ⟨h.changes.trans k.changes, fun e he => k.waits e (h.waits e he)⟩

/-- The end of a step in which the head has its own effect `x` and completes: the head is gone, the completion is the
one record handed over, and the volume table and the account are as the effect left them. -/
theorem settle_completeHead {k : Kind} {t : Ticket} {s x : State} (h : Examined k t s) (hk : k ≠ .restart)
    (hw : TailWaits s) (own : OwnEffect s x) (o : OutcomeCode) (slot d : Nat) :
    let u := settle s (completeHead t o slot d x)
    u.tickets = withoutHead s.tickets ∧ Handed [completionOf t o slot d s.ms] s u ∧ u.volumes = x.volumes
      ∧ u.account = x.account ∧ u.settings = x.settings ∧ ∀ e ∈ waiting x, e ∈ waiting u := by
  have tickets : x.tickets = s.tickets := own.changes .tickets (by decide)
  have ms : x.ms = s.ms := own.changes .ms (by decide)
  have settings : x.settings = s.settings := own.changes .settings (by decide)
  have ret : x.ret = s.ret := own.changes.ret_eq (by decide)
  have hx : completeHead t o slot d x = handAll [completionOf t o slot d s.ms] (popHead x) := by
    rw [completeHead_eq_handAll (h.kind_ne_15 hk) (by rwa [TailWaits, tickets]), ms]
  have frame := handReturn_changes (completionOf t o slot d s.ms) (popHead x)
  have kept : ∀ p, p ∉ handParts → p ∉ endOfStep → p.same (popHead x) (settle s (completeHead t o slot d x)) :=
    fun p h1 h2 => by
      rw [hx]
      exact (frame.mono (qs := handParts ++ endOfStep) fun _ => List.mem_append_left _).trans
        ((settle_changes s _).mono fun _ => List.mem_append_right _) p (by simp [h1, h2])
  refine ⟨?_, ?_, kept .volumes (by decide) (by decide), kept .account (by decide) (by decide),
    kept .settings (by decide) (by decide), fun e he => ?_⟩
  · exact (kept .tickets (by decide) (by decide)).trans (by rw [popHead_tickets, tickets])
  · rw [hx]
    exact Handed.settle s (by simp [ret]) (by simpa using settings) own.waits
  · rw [hx]
    exact mem_settle _ _ _ ((mem_handReturn _ _ _).2 (.inr he))

/-! ## Steps that refuse or hold the head -/

section
variable {i : Instr} {k : Kind} {t : Ticket} {s : State}

/-- A step that completes the head and does nothing else. -/
theorem exec_completes_only (h : Examined k t s) (hk : k ≠ .restart) (hw : TailWaits s) {o : OutcomeCode}
    {slot d : Nat} (hi : exec i s = .next (settle s (completeHead t o slot d s))) :
    ∃ u, exec i s = .next u ∧ u.tickets = withoutHead s.tickets ∧ Handed [completionOf t o slot d s.ms] s u
      ∧ Only headParts s u := by
  obtain ⟨tickets, handed, -⟩ := settle_completeHead h hk hw (.refl s) o slot d
  exact ⟨_, hi, tickets, handed, (completeHead_changes _ _ _ _ _).settle_only⟩

/-- A step that holds the head. -/
theorem exec_holds (hi : exec i s = .next (settle s s)) : ∃ u, exec i s = .next u ∧ Only [] s u :=
  ⟨_, hi, (Changes.refl [] s).settle_only⟩

/-- R131: a step that holds the head for want of account slots. -/
theorem exec_heldForSlots {n : Nat} (hi : exec i s = .next (settle s (refuseSlots n s))) : HeldForSlots i n s := by
  refine ⟨fun latched => exec_holds ?_, fun fresh => ⟨_, hi, (refuseSlots_changes n s).settle_only, ?_⟩⟩
  · rw [hi, refuseSlots, latch, if_pos latched]
  · rw [refuseSlots, latch, if_neg fresh]
    exact Handed.settle (rs := [.event .accountFull 0 (twoPart n (accountFree s)) s.ms]) s rfl rfl fun _ he => he

end

end Sys2Proof.Machine
end

section
/-! SUPPORT. SELECT and PARK (R14 to R16): what holds them, and their examinations case by case. -/
namespace Sys2Proof.Machine

/-! ## Holds -/

theorem cradleHolds_iff (s : State) (slot : Nat) :
    cradleHolds s slot = true ↔ s.seq.arm ≠ .idle ∨ s.capture.state ≠ .free ∨ windowOfSlot s slot = true := by
  simp [cradleHolds, captureFree, or_assoc]

theorem activeHolds_iff (s : State) :
    activeHolds s = true ↔ s.seq.arm ≠ .idle ∨ s.capture.state ≠ .free
      ∨ ∃ a, s.volumes.active = some a ∧ windowOfSlot s a = true := by
  cases h : s.volumes.active <;> simp [activeHolds, captureFree, h, or_assoc]

/-- R14: PARK waits for the cradle of the ACTIVE volume. -/
theorem activeHolds_eq_cradleHolds {s : State} {slot : Nat} (h : s.volumes.active = some slot) :
    activeHolds s = cradleHolds s slot := by
  simp [activeHolds, cradleHolds, h]

theorem activeVolume_eq_some {s : State} {slot : Nat} {v : Volume} (h : s.volumes.active = some slot)
    (hv : volumeAt s slot = some v) : activeVolume s = some (slot, v) := by
  simp [activeVolume, h, hv]

/-! ## The examinations -/

section
variable {s : State} {t : Ticket}

theorem exec_select (h : Examined .select t s) : exec .select s = .next (settle s (selectTicket s t)) :=
  congrArg (fun x => Host.Outcome.next (settle s x)) (examine_own h (selectTicket s))

theorem exec_park (h : Examined .park t s) : exec .park s = .next (settle s (parkTicket s t)) :=
  congrArg (fun x => Host.Outcome.next (settle s x)) (examine_own h (parkTicket s))

theorem selectTicket_above (h : 7 < slotField t) : selectTicket s t = completeHead t .badField 255 5 s := if_pos h

theorem selectTicket_free (h : slotField t ≤ 7) (hv : volumeAt s (slotField t) = none) :
    selectTicket s t = completeHead t .noVolume (slotField t) 0 s := by
  simp [selectTicket, Nat.not_lt.2 h, hv]

/-- A SELECT of a slot that holds a volume. -/
theorem selectTicket_held (h : slotField t ≤ 7) (hv : (volumeAt s (slotField t)).isSome) :
    selectTicket s t =
      if s.volumes.active = some (slotField t) then completeHead t .done (slotField t) 255 s
      else if activeHolds s then s
      else completeHead t .done (slotField t) (parkedDetail s) (setActive (some (slotField t)) s) := by
  obtain ⟨v, hv⟩ := Option.isSome_iff_exists.1 hv
  simp [selectTicket, Nat.not_lt.2 h, hv]

theorem parkTicket_none (h : s.volumes.active = none) : parkTicket s t = completeHead t .noVolume 255 0 s := by
  simp [parkTicket, activeVolume, h]

theorem parkTicket_active {slot : Nat} {v : Volume} (h : s.volumes.active = some slot)
    (hv : volumeAt s slot = some v) :
    parkTicket s t = if cradleHolds s slot then s else completeHead t .done slot 0 (setActive none s) := by
  simp [parkTicket, activeVolume_eq_some h hv, activeHolds_eq_cradleHolds h]

end

/-- Making another entry ACTIVE, or none, is an effect on the volume table alone. -/
theorem setActive_ownEffect (a : Option Nat) (s : State) : OwnEffect s (setActive a s) :=
  ⟨(setActive_changes a s).mono (by decide), fun _ he => he⟩

/-! ## The obligation -/

/-- R15. -/
theorem selectSwitchesVolume : SelectSwitchesVolume := by
  intro s t hx hw
  have run := exec_select hx
  have only : Only (.volumes :: headParts) s (settle s (selectTicket s t)) := (selectTicket_changes s t).settle_only
  refine ⟨fun above => ?_, fun slot hv => ?_, fun slot hv active => ?_,
    fun slot hv parked => ⟨fun busy => ?_, fun idle free closed => ?_⟩⟩
  · rw [selectTicket_above above] at run
    exact exec_completes_only hx (by decide) hw run
  · rw [selectTicket_free slot hv] at run
    exact exec_completes_only hx (by decide) hw run
  · rw [selectTicket_held slot hv, if_pos active] at run
    exact exec_completes_only hx (by decide) hw run
  · rw [selectTicket_held slot hv, if_neg parked, if_pos ((activeHolds_iff s).2 busy)] at run
    exact exec_holds run
  · have ready : ¬ activeHolds s = true := by
      rw [activeHolds_iff]
      rintro (arm | capture | ⟨a, ha, armed⟩)
      · exact arm idle
      · exact capture free
      · simp [closed a ha] at armed
    rw [selectTicket_held slot hv, if_neg parked, if_neg ready] at run only
    obtain ⟨tickets, handed, volumes, -⟩ := settle_completeHead hx (by decide) hw
      (setActive_ownEffect (some (slotField t)) s) .done (slotField t) (parkedDetail s)
    exact ⟨_, run, by rw [volumes]; rfl, by rw [volumes]; rfl, tickets, handed, only⟩

/-- R14, R16. -/
theorem parkClearsActive : ParkClearsActive := by
  intro s t hx hw
  have run := exec_park hx
  have only : Only (.volumes :: headParts) s (settle s (parkTicket s t)) := (parkTicket_changes s t).settle_only
  refine ⟨fun inactive => ?_, fun slot v active hv => ⟨fun busy => ?_, fun idle free closed => ?_⟩⟩
  · rw [parkTicket_none inactive] at run
    exact exec_completes_only hx (by decide) hw run
  · rw [parkTicket_active active hv, if_pos ((cradleHolds_iff s slot).2 busy)] at run
    exact exec_holds run
  · have ready : ¬ cradleHolds s slot = true := by simp [cradleHolds_iff, idle, free, closed]
    rw [parkTicket_active active hv, if_neg ready] at run only
    obtain ⟨tickets, handed, volumes, -⟩ := settle_completeHead hx (by decide) hw
      (setActive_ownEffect none s) .done slot 0
    exact ⟨_, run, by rw [volumes]; rfl, by rw [volumes]; rfl, tickets, handed, only⟩

/-- Settles O4: each examination is one of its cases, and each case a completion, a hold, or the one switch. -/
theorem selectAndParkSwitchVolumes : Obligations.SelectAndParkSwitchVolumes := ⟨selectSwitchesVolume, parkClearsActive⟩

end Sys2Proof.Machine
end

section
/-! SUPPORT. A list of records on one volume (R132), and CLOSE (R17, R18) as such a list. -/
namespace Sys2Proof.Machine

/-! ## Numbered and chained volumes -/

/-- R132: numbering and chaining records changes the sequence and the chain of a volume and nothing else. -/
theorem afterRecords_eq (slot : Nat) (time : Word) (v : Volume) (cs : List AccountContent) :
    afterRecords slot time v cs =
      { v with nextSequence := (afterRecords slot time v cs).nextSequence
               chain := (afterRecords slot time v cs).chain } := by
  induction cs generalizing v with
  | nil => rfl
  | cons c cs ih => exact ih (chained v (recordBytes slot v time c))

/-! ## The volume table -/

theorem volumeAt_eq_some_iff {s : State} {slot : Nat} {v : Volume} :
    volumeAt s slot = some v ↔ ∃ h : slot < s.volumes.entries.length, s.volumes.entries[slot] = some v := by
  rw [volumeAt, Option.join_eq_some_iff, List.getElem?_eq_some_iff]

theorem lt_length_of_volumeAt {s : State} {slot : Nat} {v : Volume} (h : volumeAt s slot = some v) :
    slot < s.volumes.entries.length := (volumeAt_eq_some_iff.1 h).1

/-- Putting back the volume that a slot holds changes nothing. -/
theorem entries_set_volumeAt {s : State} {slot : Nat} {v : Volume} (h : volumeAt s slot = some v) :
    s.volumes.entries.set slot (some v) = s.volumes.entries := by
  obtain ⟨hlt, hget⟩ := volumeAt_eq_some_iff.1 h
  rw [← hget, List.set_getElem_self]

/-- The slot of an entry reads the entry put there. -/
theorem volumeAt_of_entries_set {s x : State} {slot : Nat} {w : Option Volume}
    (hlt : slot < s.volumes.entries.length) (hx : x.volumes.entries = s.volumes.entries.set slot w) :
    volumeAt x slot = w := by
  simp [volumeAt, hx, hlt]

/-! ## Records placed in the account ring -/

/-- Placed writes stay placed while the map stands and no entry leaves the request queue. -/
theorem Recorded.mono {x u : State} (settings : u.settings = x.settings) (keep : ∀ e ∈ waiting x, e ∈ waiting u)
    {i : Half} {bs : List (List Byte)} (h : Recorded x i bs) : Recorded u i bs := by
  induction bs generalizing i with
  | nil => trivial
  | cons b bs ih =>
    obtain ⟨⟨m, map, placed⟩, rest⟩ := h
    exact ⟨⟨m, by rwa [mapOf, settings], keep _ placed⟩, ih rest⟩

/-- The write of a record is the one entry that placing it adds. -/
theorem requested_placeAccountWrite {s : State} {m : MapSettings} (hm : mapOf s = some m) (i : Half) (b : List Byte) :
    Requested (placeAccountWrite i b s) (.accountWrite i) (accountAddress m i) b := by
  simp only [placeAccountWrite, hm]
  exact (mem_placeInternal _ _ _).2 (.inl rfl)

theorem mem_placeAccountWrite (i : Half) (b : List Byte) (s : State) {e : InternalEntry} (he : e ∈ waiting s) :
    e ∈ waiting (placeAccountWrite i b s) := by
  unfold placeAccountWrite
  split
  · exact he
  · exact (mem_placeInternal _ _ _).2 (.inr he)

/-- Records of these contents are handed to the account writer one after another (R132). -/
def handRecords (slot : Nat) (cs : List AccountContent) (s : State) : State :=
  cs.foldl (fun x c => handAccount slot c x) s

/-- What handing records of these contents on volume `v` of a slot does: the entry is numbered and chained, the records
take the slots from the producer index on and their reservations, and their writes are placed. -/
structure RecordsHanded (slot : Nat) (v : Volume) (cs : List AccountContent) (s x : State) : Prop where
  own : OwnEffect s x
  entries : x.volumes.entries = s.volumes.entries.set slot (some (afterRecords slot s.ms v cs))
  active : x.volumes.active = s.volumes.active
  producer : x.account.producer = s.account.producer + BitVec.ofNat 16 cs.length
  reserved : x.account.reserved = s.account.reserved - cs.length
  recorded : Recorded x s.account.producer (recordsBytes slot s.ms v cs)

/-- Handing no record. -/
theorem RecordsHanded.nil {s : State} {slot : Nat} {v : Volume} (hv : volumeAt s slot = some v) :
    RecordsHanded slot v [] s s where
  own := .refl s
  entries := (entries_set_volumeAt hv).symm
  active := rfl
  producer := by simp
  reserved := rfl
  recorded := trivial

/-- Handing one record (R132). -/
theorem handAccount_handed {s : State} {slot : Nat} {v : Volume} {m : MapSettings} (hv : volumeAt s slot = some v)
    (hm : mapOf s = some m) (c : AccountContent) : RecordsHanded slot v [c] s (handAccount slot c s) := by
  have hx : handAccount slot c s =
      placeAccountWrite s.account.producer (accountBytes slot v s.ms c) (numberRecord slot v c s) := by
    rw [handAccount, hv]
  have frame := placeAccountWrite_changes s.account.producer (accountBytes slot v s.ms c) (numberRecord slot v c s)
  have volumes : _ = (numberRecord slot v c s).volumes := frame.get .volumes (by decide)
  have account : _ = (numberRecord slot v c s).account := frame.get .account (by decide)
  have changes := handAccount_changes slot c s
  rw [hx] at changes ⊢
  exact {
    own := ⟨changes, fun e he => mem_placeAccountWrite _ _ _ he⟩
    entries := congrArg VolumeTable.entries volumes
    active := by rw [volumes]; rfl
    producer := congrArg AccountUnit.producer account
    reserved := congrArg AccountUnit.reserved account
    recorded := ⟨⟨m, by rwa [mapOf, changes.get .settings (by decide)],
      requested_placeAccountWrite (s := numberRecord slot v c s) hm _ _⟩, trivial⟩ }

/-- Handing a record and then more. -/
theorem RecordsHanded.cons {s x y : State} {slot : Nat} {v : Volume} {c : AccountContent} {cs : List AccountContent}
    (h : RecordsHanded slot v [c] s x) (k : RecordsHanded slot (afterRecords slot s.ms v [c]) cs x y) :
    RecordsHanded slot v (c :: cs) s y where
  own := h.own.trans k.own
  entries := by
    rw [k.entries, h.entries, List.set_set, h.own.changes.get .ms (by decide)]
    rfl
  active := k.active.trans h.active
  producer := by
    rw [k.producer, h.producer, List.length_cons, BitVec.add_assoc, ← BitVec.ofNat_add, Nat.add_comm]
    rfl
  reserved := by
    rw [k.reserved, h.reserved, List.length_cons, Nat.sub_sub, Nat.add_comm]
    rfl
  recorded := by
    have first := h.recorded.mono (k.own.changes.get .settings (by decide)) k.own.waits
    have rest := k.recorded
    rw [h.producer, h.own.changes.get .ms (by decide)] at rest
    exact ⟨first.1, rest⟩

/-- R132: what handing a list of records to the account writer does while a map is in force. -/
theorem handRecords_handed {s : State} {slot : Nat} {v : Volume} {m : MapSettings} (hv : volumeAt s slot = some v)
    (hm : mapOf s = some m) (cs : List AccountContent) : RecordsHanded slot v cs s (handRecords slot cs s) := by
  induction cs generalizing s v with
  | nil => exact .nil hv
  | cons c cs ih =>
    have first := handAccount_handed hv hm c
    have map : mapOf (handAccount slot c s) = some m := by rwa [mapOf, first.own.changes.get .settings (by decide)]
    exact first.cons (ih (volumeAt_of_entries_set (lt_length_of_volumeAt hv) first.entries) map)

/-! ## The records of a closing (R18) -/

/-- The EXCEPTION records of a list of entries, those from position `i + 1` of a list of `n`. -/
def exceptionRecords (n i : Nat) (es : List ExceptionEntry) : List AccountContent :=
  (es.zipIdx i).map fun (e, i) => .exception e.leaf e.side e.reason (i + 1) n

theorem closingRecords_eq (slot : Nat) (time : Word) (v : Volume) :
    let exceptions := exceptionRecords v.exceptions.length 0 v.exceptions
    closingRecords slot time v = exceptions ++
      [.closed v.captureCount v.doseUsed v.allowance v.opening v.exceptions.length v.overfull
        (afterRecords slot time v exceptions).chain] := rfl

theorem length_closingRecords (slot : Nat) (time : Word) (v : Volume) :
    (closingRecords slot time v).length = 1 + v.exceptions.length := by
  simp [closingRecords_eq, exceptionRecords, Nat.add_comm]

theorem handExceptions_eq_handRecords (slot n i : Nat) (es : List ExceptionEntry) (s : State) :
    handExceptions slot n (i + 1) es s = handRecords slot (exceptionRecords n i es) s := by
  induction es generalizing i s with
  | nil => rfl
  | cons e es ih => exact ih (i + 1) _

/-- The CLOSED record carries the fields of the entry as the EXCEPTION records leave it. -/
theorem handClosed_eq {slot n : Nat} {s : State} {v : Volume} (h : volumeAt s slot = some v) :
    handClosed slot n s =
      handAccount slot (.closed v.captureCount v.doseUsed v.allowance v.opening n v.overfull v.chain) s := by
  rw [handClosed, h]

/-- R18: CLOSE hands over the records of the closing, in their order. -/
theorem handClosed_handExceptions {s : State} {slot : Nat} {v : Volume} {m : MapSettings}
    (hv : volumeAt s slot = some v) (hm : mapOf s = some m) :
    handClosed slot v.exceptions.length (handExceptions slot v.exceptions.length 1 v.exceptions s) =
      handRecords slot (closingRecords slot s.ms v) s := by
  have exceptions := handRecords_handed hv hm (exceptionRecords v.exceptions.length 0 v.exceptions)
  have entry := volumeAt_of_entries_set (lt_length_of_volumeAt hv) exceptions.entries
  rw [handExceptions_eq_handRecords, handClosed_eq entry, afterRecords_eq, closingRecords_eq, handRecords, handRecords,
    List.foldl_append]
  rfl

/-! ## CLOSE takes effect -/

theorem freeEntry_active (slot : Nat) (s : State) :
    (freeEntry slot s).volumes.active = if s.volumes.active = some slot then none else s.volumes.active := by
  unfold freeEntry
  split <;> simp [*]

theorem freeEntry_entries (slot : Nat) (s : State) :
    (freeEntry slot s).volumes.entries = s.volumes.entries.set slot none := by
  unfold freeEntry
  split <;> rfl

theorem freeEntry_ownEffect (slot : Nat) (s : State) : OwnEffect s (freeEntry slot s) :=
  ⟨(freeEntry_changes slot s).mono (by decide), fun e he => by unfold freeEntry; split <;> exact he⟩

theorem grantSlots_ownEffect (n : Nat) (s : State) : OwnEffect s (grantSlots n s) :=
  ⟨(grantSlots_changes n s).mono (by decide), fun _ he => he⟩

/-- R17: free account slots mean that a map is in force. -/
theorem exists_mapOf_of_accountFree {s : State} (h : 1 ≤ accountFree s) : ∃ m, mapOf s = some m := by
  cases hm : mapOf s with
  | none => simp [accountFree, accountCapacity, hm] at h
  | some m => exact ⟨m, rfl⟩

/-- The state in which a CLOSE that takes effect completes. -/
def closedState (slot : Nat) (v : Volume) (s : State) : State :=
  freeEntry slot (handRecords slot (closingRecords slot s.ms v) (grantSlots (1 + v.exceptions.length) s))

theorem closeEffect_eq {s : State} {slot : Nat} {v : Volume} {m : MapSettings} (hv : volumeAt s slot = some v)
    (hm : mapOf s = some m) (t : Ticket) :
    closeEffect t slot v s =
      completeHead t (if 1 ≤ v.exceptions.length ∨ v.overfull then .incomplete else .done) slot v.exceptions.length
        (closedState slot v s) := by
  have records := handClosed_handExceptions (s := grantSlots (1 + v.exceptions.length) s) hv hm
  rw [closeEffect, records]
  rfl

/-- R18: what a CLOSE that takes effect does before it completes. -/
theorem closedState_spec {s : State} {slot : Nat} {v : Volume} {m : MapSettings} (hv : volumeAt s slot = some v)
    (hm : mapOf s = some m) :
    let x := closedState slot v s
    OwnEffect s x ∧ x.volumes.entries = s.volumes.entries.set slot none
      ∧ x.volumes.active = (if s.volumes.active = some slot then none else s.volumes.active)
      ∧ x.account.producer = s.account.producer + BitVec.ofNat 16 (1 + v.exceptions.length)
      ∧ x.account.reserved = s.account.reserved
      ∧ Recorded x s.account.producer (recordsBytes slot s.ms v (closingRecords slot s.ms v)) := by
  have records := handRecords_handed (s := grantSlots (1 + v.exceptions.length) s) hv hm (closingRecords slot s.ms v)
  have freed := freeEntry_ownEffect slot
    (handRecords slot (closingRecords slot s.ms v) (grantSlots (1 + v.exceptions.length) s))
  have account := (freeEntry_changes slot
    (handRecords slot (closingRecords slot s.ms v) (grantSlots (1 + v.exceptions.length) s))).get .account (by decide)
  refine ⟨((grantSlots_ownEffect _ s).trans records.own).trans freed, ?_, ?_, ?_, ?_,
    records.recorded.mono (freed.changes.get .settings (by decide)) freed.waits⟩
  · rw [closedState, freeEntry_entries, records.entries, List.set_set]
    rfl
  · rw [closedState, freeEntry_active, records.active]
    rfl
  · rw [closedState, account, records.producer, length_closingRecords]
    rfl
  · rw [closedState, account, records.reserved, length_closingRecords]
    exact Nat.add_sub_cancel _ _

/-! ## The examination (R17) -/

section
variable {s : State} {t : Ticket}

theorem exec_close (h : Examined .close t s) : exec .close s = .next (settle s (closeTicket s t)) :=
  congrArg (fun x => Host.Outcome.next (settle s x)) (examine_own h (closeTicket s))

theorem closeTicket_above (h : 7 < slotField t) : closeTicket s t = completeHead t .badField 255 5 s := if_pos h

theorem closeTicket_free (h : slotField t ≤ 7) (hv : volumeAt s (slotField t) = none) :
    closeTicket s t = completeHead t .noVolume (slotField t) 0 s := by
  simp [closeTicket, Nat.not_lt.2 h, hv]

/-- A CLOSE of a slot that holds a volume. -/
theorem closeTicket_held {v : Volume} (h : slotField t ≤ 7) (hv : volumeAt s (slotField t) = some v) :
    closeTicket s t =
      if s.volumes.active = some (slotField t) ∧ cradleHolds s (slotField t) then s
      else if 1 + v.exceptions.length ≤ accountFree s then closeEffect t (slotField t) v s
      else refuseSlots (1 + v.exceptions.length) s := by
  simp [closeTicket, Nat.not_lt.2 h, hv]

end

/-- Settles O5: the records of the closing are handed one by one, and the entry is freed before the completion. -/
theorem closeWritesAccountAndFrees : Obligations.CloseWritesAccountAndFrees := by
  intro s t hx hw
  have run := exec_close hx
  have only : Only (partsOf .close) s (settle s (closeTicket s t)) := (closeTicket_changes s t).settle_only
  refine ⟨fun above => ?_, fun slot hv => ?_,
    fun v slot hv => ⟨fun busy => ?_, fun idle short => ?_, fun idle room => ?_⟩⟩
  · rw [closeTicket_above above] at run
    exact exec_completes_only hx (by decide) hw run
  · rw [closeTicket_free slot hv] at run
    exact exec_completes_only hx (by decide) hw run
  · rw [← cradleHolds_iff] at busy
    rw [closeTicket_held slot hv, if_pos busy] at run
    exact exec_holds run
  · rw [← cradleHolds_iff] at idle
    rw [closeTicket_held slot hv, if_neg idle, if_neg (Nat.not_le.2 short)] at run
    exact exec_heldForSlots run
  · rw [← cradleHolds_iff] at idle
    obtain ⟨m, hm⟩ := exists_mapOf_of_accountFree (Nat.le_trans (Nat.le_add_right 1 _) room)
    rw [closeTicket_held slot hv, if_neg idle, if_pos room, closeEffect_eq hv hm] at run only
    obtain ⟨own, entries, active, producer, reserved, recorded⟩ := closedState_spec hv hm
    obtain ⟨tickets, handed, volumes, account, settings, waits⟩ := settle_completeHead hx (by decide) hw own
      (if 1 ≤ v.exceptions.length ∨ v.overfull then .incomplete else .done) (slotField t) v.exceptions.length
    exact ⟨_, run, by rw [volumes, entries], by rw [volumes, active], by rw [account, producer],
      by rw [account, reserved], recorded.mono settings waits, tickets, handed, only⟩

end Sys2Proof.Machine
end

section
/-! SUPPORT. The regulator (R124 to R126): a clamp as a least and a greatest value, the two clamps of a code, and the
regulator check by check. -/
namespace Sys2Proof.Machine

/-! ## The step limit and the range (R126) -/

/-- The range must not be empty: in an empty one `clamp` may answer either bound. -/
theorem clamp_eq_max_min {lo hi : Nat} (h : lo ≤ hi) (x : Nat) : clamp lo hi x = max lo (min hi x) := by
  unfold clamp
  split
  · omega
  · split <;> omega

/-- The window of the step limit lies around the old code, so it is never empty; the range is not by hypothesis. -/
theorem limitCode_eq_max_min {lo hi : Nat} (h : lo ≤ hi) (d x : Nat) :
    limitCode d x lo hi = max lo (min hi (max (d - max 1 (d / 4)) (min (d + max 1 (d / 4)) x))) := by
  have window : d - max 1 (d / 4) ≤ d + max 1 (d / 4) := Nat.le_trans (Nat.sub_le ..) (Nat.le_add_right ..)
  rw [limitCode, clamp_eq_max_min h, clamp_eq_max_min window]

/-! ## The checks (R124) and the ratio step (R125) -/

/-- The distance of the dead band, which the model takes from the larger value, as a bound on either side. -/
theorem distance_le_iff (m t b : Nat) : (if m ≤ t then t - m else m - t) ≤ b ↔ m ≤ t + b ∧ t ≤ m + b := by
  split <;> omega

section
variable {d t m c n lo hi : Nat}

theorem regulate_dark (dark : m < 64) : regulate d t m c n lo hi = none := if_pos dark

theorem regulate_saturated (light : 64 ≤ m) (clipped : n / 16 ≤ c) :
    regulate d t m c n lo hi = some (limitCode d (d - d / 4) lo hi) := by
  rw [regulate, if_neg (Nat.not_lt.2 light), if_pos clipped]

/-- A frame that is neither dark nor saturated is judged by the dead band alone. -/
theorem regulate_steering (light : 64 ≤ m) (unclipped : c < n / 16) :
    regulate d t m c n lo hi =
      if m ≤ t + t / 64 ∧ t ≤ m + t / 64 then none else some (limitCode d (ratioCode d t m) lo hi) := by
  rw [regulate, if_neg (Nat.not_lt.2 light), if_neg (Nat.not_le.2 unclipped)]
  exact ite_congr (propext (distance_le_iff m t (t / 64))) (fun _ => rfl) (fun _ => rfl)

end

/-- Settles O42: each check of R124 is one case of the regulator, and the limits of R126 are clamps to ranges that are
not empty. -/
theorem regulatorFormsCode : Obligations.RegulatorFormsCode := by
  intro d t m c n lo hi range
  refine ⟨regulate_dark, fun light clipped => ?saturated, fun light unclipped below above => ?deadBand,
    fun light unclipped outside => ?ratio⟩
  case saturated => rw [regulate_saturated light clipped, limitCode_eq_max_min range]
  case deadBand => rw [regulate_steering light unclipped, if_pos ⟨below, above⟩]
  case ratio => rw [regulate_steering light unclipped, if_neg outside, limitCode_eq_max_min range, ratioCode]

end Sys2Proof.Machine
end

section
/-! SUPPORT. QUIET (R168): its examination by the tone output, and the end of a step that sets the tone output. -/
namespace Sys2Proof.Machine

/-! ## The completion of a head that sets the tone output -/

/-- A head that sets the tone output and completes leaves the queue, hands over its completion alone, and the end of the
step keeps the tone output as set. -/
theorem settle_completeHead_withTone {k : Kind} {t : Ticket} {s : State} (h : Examined k t s) (hk : k ≠ .restart)
    (hw : TailWaits s) (tone : Tone) (o : OutcomeCode) (slot d : Nat) :
    let u := settle s (completeHead t o slot d (withTone tone s))
    u.ret.tone = tone ∧ u.tickets = withoutHead s.tickets ∧ Handed [completionOf t o slot d s.ms] s u := by
  have eq : completeHead t o slot d (withTone tone s) =
      handAll [completionOf t o slot d s.ms] (popHead (withTone tone s)) :=
    completeHead_eq_handAll (s := withTone tone s) (h.kind_ne_15 hk) hw o slot d
  have frame := handReturn_changes (completionOf t o slot d s.ms) (popHead (withTone tone s))
  rw [eq]
  exact ⟨(settle_get s _ .tone (by decide)).trans (frame.get .tone (by decide)),
    (settle_get s _ .tickets (by decide)).trans (frame.get .tickets (by decide)),
    Handed.settle s rfl rfl fun _ he => he⟩

/-! ## The examination (R168) -/

section
variable {s : State} {t : Ticket}

theorem exec_quiet (h : Examined .quiet t s) : exec .quiet s = .next (settle s (quietTicket s t)) :=
  congrArg (fun x => Host.Outcome.next (settle s x)) (examine_own h (quietTicket s))

theorem quietTicket_attend {on : Bool} {due : Word} (h : s.ret.tone = .attend on due) :
    quietTicket s t = completeHead t .done 255 1 (withTone .silent s) := by
  rw [quietTicket, h]
  rfl

theorem quietTicket_other (h : ∀ on due, s.ret.tone ≠ .attend on due) :
    quietTicket s t = completeHead t .done 255 0 s := by
  unfold quietTicket
  split
  case h_1 on due attending => exact absurd attending (h on due)
  all_goals rfl

end

/-- R167: a new arising sounds whatever the tone output was. -/
theorem attendArises_tone (s : State) : (attendArises s).ret.tone = .attend true (s.ms + 250) := rfl

/-- Settles O10: the two cases of the examination; the attend condition is the sequencer's, which QUIET leaves alone. -/
theorem quietSilencesAttend : Obligations.QuietSilencesAttend := by
  intro s t hx hw
  have run := exec_quiet hx
  have only : Only (partsOf .quiet) s (settle s (quietTicket s t)) := (quietTicket_changes s t).settle_only
  refine ⟨fun on due attending => ?_, fun other => ?_, attendArises_tone⟩
  · rw [quietTicket_attend attending] at run only
    obtain ⟨tone, tickets, handed⟩ := settle_completeHead_withTone hx (by decide) hw .silent .done 255 1
    have seq : _ = s.seq := only.get .seq (by decide)
    exact ⟨_, run, tone, congrArg Sequencer.attend seq, tickets, handed, only⟩
  · rw [quietTicket_other other] at run
    exact exec_completes_only hx (by decide) hw run

end Sys2Proof.Machine
end

section
/-! SUPPORT. The whole machine: what each command does before the end of its step, said once, and what follows from the
frames of the commands alone. -/
namespace Sys2Proof.Machine

/-! ## The effect of a command -/

/-- What a command does before the end of its step. -/
def effect : Instr → State → State
  | .openVolume, s => examine .openVolume s (openTicket s)
  | .select, s => examine .select s (selectTicket s)
  | .park, s => examine .park s (parkTicket s)
  | .close, s => examine .close s (closeTicket s)
  | .manual, s => examine .manual s (manualTicket s)
  | .skip, s => examine .skip s (skipTicket s)
  | .turn sw, s => examine .turn s (turnTicket sw s)
  | .capture, s => examine .capture s (captureTicket s)
  | .advance sw, s => examine .advance s (advanceTicket sw s)
  | .light, s => examine .light s (lightTicket s)
  | .halt, s => haltArrives s
  | .quiet, s => examine .quiet s (quietTicket s)
  | .clear, s => examine .clear s (clearTicket s)
  | .configure, s => pump (examine .configure s (configureTicket s))
  | .restart prof1 prof0, s => examine .restart s (restartTicket (profileOf prof1 prof0) s)
  | .postWordWrite, s => postWordServed s
  | .fetch, s => issueFetch s
  | .ticketArrival, s => ticketArrives s
  | .stopPress released, s => if pressTaken released s.stopLine s then stopPressed s else s
  | .resumePress released sw, s => if pressTaken released s.resumeLine s then resumePressed sw s else s
  | .moveStep e sw, s => engineStep e sw s
  | .gripTimer leaf multi sw, s =>
    if s.seq.arm = .gripping ∧ timerExpired .grip s then gripExpired leaf multi sw s else s
  | .gripReleaseWait, s => if s.seq.arm = .gripping ∧ timerExpired .release s then beginGrip s else s
  | .sweepLeafRead leaf sw, s => if s.seq.arm = .sweeping ∧ reached s.ms s.seq.nextLeaf then leafRead leaf sw s else s
  | .releaseTimer sw, s => if s.seq.arm = .releasing ∧ timerExpired .release s then releaseExpired sw s else s
  | .settleTimer, s => if s.seq.arm = .settling ∧ timerExpired .settle s then settleExpired s else s
  | .homingLimit, s =>
    if s.seq.arm = .homing ∧ s.seq.homing = .heads ∧ timerExpired .homing s then enterFaulted .noPosition s else s
  | .sampleRound, s => if inService s then placeDueRound s else s
  | .lampPollDue side, s =>
    if inService s ∧ reached s.ms (s.lamps.get side).pollDue then pollFallsDue side s else s
  | .encoderSampleReply w sw, s => encoderReply w sw s
  | .lampPollReply w, s => lampPollEnds w s
  | .lampLoadReply w, s => lampLoadEnds w s
  | .captureAcquisition, s => tryAcquire s
  | .fireGate, s => gateExamined s
  | .parkWaitExpiry, s => parkWaitEnds s
  | .strobeRaise, s => strobeRaised s
  | .strobeEnd, s => strobeElapsed s
  | .strobeCut, s => strobeWatched s
  | .upstreamTransaction t, s => pump (acceptUpstream t s)
  | .upstreamWrite, s => upstreamWriteServed s
  | .frameTimeout window, s => frameExpired window s
  | .accountWriteServed, s => accountWriteIsServed s
  | .accountClosingRead, s => accountClosingServed s
  | .returnClosingRead, s => returnClosingServed s
  | .returnWriteServed, s => returnWriteIsServed s
  | .statusWriteServed, s => statusWriteIsServed s
  | .statusPeriod, s => periodPasses s
  | .attendTonePeriod, s => toneToggles s
  | .chirpEnd, s => chirpEnds s
  | .resetnAssert, s => assertReset s
  | .resetnRelease powerOn, s => releaseReset powerOn s
  | .powerSettlingEnd prof1 prof0, s => powerSettled (profileOf prof1 prof0) s
  | .eepromReadAttempt reply, s => attemptCompletes reply s
  | .eepromRetryWait, s => retryWaitEnds s
  | .profileCheck prof1 prof0, s =>
    if inService s ∧ reached s.ms s.settings.profileDue then compareProfile (profileOf prof1 prof0) s else s
  | .configureImageRead, s => imageReadServed s
  | .storeByteAck, s => byteAcknowledged s
  | .storeByteTimeout, s => byteTimedOut s
  | .storeReadback reply, s => readbackCompletes reply s
  | .restartTakeEffect, s => reloadEnds s

/-- RESETN is the one command whose step has no end. -/
theorem exec_eq_settle_effect {i : Instr} (hi : i ≠ .resetnAssert) (wf : i.wf = true) (s : State) :
    exec i s = .next (settle s (effect i s)) := by
  cases i
  case resetnAssert => exact absurd rfl hi
  case upstreamTransaction t => exact if_pos wf
  all_goals rfl

/-- What a command that takes a next state has done. -/
theorem exec_next {i : Instr} {s t : State} (h : exec i s = .next t) :
    (i = .resetnAssert ∧ t = assertReset s) ∨ (i ≠ .resetnAssert ∧ t = settle s (effect i s)) := by
  have next : ∀ {x}, exec i s = .next x → t = x := fun hx => Host.Outcome.next.inj (h.symm.trans hx)
  cases i
  case resetnAssert => exact .inl ⟨rfl, next rfl⟩
  case upstreamTransaction tr =>
    refine .inr ⟨Instr.noConfusion, next ?_⟩
    by_cases wf : tr.wf = true
    · exact if_pos wf
    · exact nomatch (if_neg wf).symm.trans h
  all_goals exact .inr ⟨Instr.noConfusion, next rfl⟩

/-- The frame of a command's own effect. -/
theorem effect_changes (i : Instr) (s : State) : Changes (partsOf i) s (effect i s) := by
  cases i with
  | openVolume => exact examine_changes _ _ _ (by decide) (openTicket_changes s)
  | select => exact examine_changes _ _ _ (by decide) (selectTicket_changes s)
  | park => exact examine_changes _ _ _ (by decide) (parkTicket_changes s)
  | close => exact examine_changes _ _ _ (by decide) (closeTicket_changes s)
  | manual => exact examine_changes _ _ _ (by decide) (manualTicket_changes s)
  | skip => exact examine_changes _ _ _ (by decide) (skipTicket_changes s)
  | turn sw => exact examine_changes (ps := haltParts) _ _ _ (by decide) (turnTicket_changes sw s)
  | capture => exact examine_changes _ _ _ (by decide) (captureTicket_changes s)
  | advance sw => exact examine_changes (ps := haltParts) _ _ _ (by decide) (advanceTicket_changes sw s)
  | light => exact examine_changes _ _ _ (by decide) (lightTicket_changes s)
  | halt => exact haltArrives_changes s
  | quiet => exact examine_changes _ _ _ (by decide) (quietTicket_changes s)
  | clear => exact examine_changes _ _ _ (by decide) (clearTicket_changes s)
  | configure =>
    exact (examine_changes _ _ _ (by decide) (configureTicket_changes s)).trans ((pump_changes _).mono (by decide))
  | restart prof1 prof0 => exact examine_changes (ps := restartParts) _ _ _ (by decide) (restartTicket_changes _ s)
  | postWordWrite => exact postWordServed_changes s
  | fetch => exact issueFetch_changes s
  | ticketArrival => exact ticketArrives_changes s
  | stopPress released => exact .ite (stopPressed_changes s) (.refl _ s)
  | resumePress released sw => exact .ite (resumePressed_changes sw s) (.refl _ s)
  | moveStep e sw => exact engineStep_changes e sw s
  | gripTimer leaf multi sw => exact .ite (gripExpired_changes leaf multi sw s) (.refl _ s)
  | gripReleaseWait => exact .ite (beginGrip_changes s) (.refl _ s)
  | sweepLeafRead leaf sw => exact .ite (leafRead_changes leaf sw s) (.refl _ s)
  | releaseTimer sw => exact .ite (releaseExpired_changes sw s) (.refl _ s)
  | settleTimer => exact .ite (settleExpired_changes s) (.refl _ s)
  | homingLimit => exact .ite (enterFaulted_changes _ s) (.refl _ s)
  | sampleRound => exact .ite (placeDueRound_changes s) (.refl _ s)
  | lampPollDue side => exact .ite (pollFallsDue_changes side s) (.refl _ s)
  | encoderSampleReply w sw => exact encoderReply_changes w sw s
  | lampPollReply w => exact lampPollEnds_changes w s
  | lampLoadReply w => exact lampLoadEnds_changes w s
  | captureAcquisition => exact tryAcquire_changes s
  | fireGate => exact gateExamined_changes s
  | parkWaitExpiry => exact parkWaitEnds_changes s
  | strobeRaise => exact strobeRaised_changes s
  | strobeEnd => exact strobeElapsed_changes s
  | strobeCut => exact strobeWatched_changes s
  | upstreamTransaction t => exact (acceptUpstream_changes t s).trans (pump_changes _)
  | upstreamWrite => exact upstreamWriteServed_changes s
  | frameTimeout window => exact frameExpired_changes window s
  | accountWriteServed => exact accountWriteIsServed_changes s
  | accountClosingRead => exact accountClosingServed_changes s
  | returnClosingRead => exact returnClosingServed_changes s
  | returnWriteServed => exact returnWriteIsServed_changes s
  | statusWriteServed => exact statusWriteIsServed_changes s
  | statusPeriod => exact .ite ((placeStatus_changes s).mono (by decide)) (.refl _ s)
  | attendTonePeriod => exact toneToggles_changes s
  | chirpEnd => exact chirpEnds_changes s
  | resetnAssert => exact assertReset_changes s
  | resetnRelease powerOn => exact releaseReset_changes powerOn s
  | powerSettlingEnd prof1 prof0 =>
    exact .ite ((setSettings_changes _ s).trans (sendI2c_changes _ _)) (.refl _ s)
  | eepromReadAttempt reply => exact attemptCompletes_changes reply s
  | eepromRetryWait => exact retryWaitEnds_changes s
  | profileCheck prof1 prof0 => exact .ite (compareProfile_changes _ s) (.refl _ s)
  | configureImageRead => exact imageReadServed_changes s
  | storeByteAck => exact byteAcknowledged_changes s
  | storeByteTimeout => exact byteTimedOut_changes s
  | storeReadback reply => exact readbackCompletes_changes reply s
  | restartTakeEffect => exact reloadEnds_changes s

/-- The frame of a command's whole step. -/
theorem exec_changes {i : Instr} {s t : State} (h : exec i s = .next t) : Only (partsOf i) s t := by
  rcases exec_next h with ⟨rfl, rfl⟩ | ⟨-, rfl⟩
  · exact (assertReset_changes s).mono fun _ hp => List.mem_append_left _ hp
  · exact (effect_changes i s).settle_only

/-- A step is one millisecond or the run of the command at the front. -/
theorem step_next {s t : State} (h : step s = .next t) :
    (s.pending = [] ∧ t = tick s) ∨ ∃ i rest, s.pending = i :: rest ∧ exec i { s with pending := rest } = .next t := by
  cases hp : s.pending with
  | nil =>
    simp only [step, hp] at h
    exact .inl ⟨rfl, (Host.Outcome.next.inj h).symm⟩
  | cons i rest =>
    simp only [step, hp] at h
    exact .inr ⟨i, rest, rfl, h⟩

/-! ## The obligations -/

/-- Settles O19. -/
theorem stepRunsFrontCommand : Obligations.StepRunsFrontCommand := by
  intro i rest s h
  simp only [step, h]

/-- Settles O22. -/
theorem eachCommandChangesOnlyItsParts : Obligations.EachCommandChangesOnlyItsParts := fun _ _ _ => exec_changes

/-- Settles O21: only the operand of an upstream transaction is judged. -/
theorem wellFormedCommandsRun : Obligations.WellFormedCommandsRun := by
  have run : ∀ i s, (∃ t, exec i s = .next t)
      ∨ ∃ t : Transaction, i = .upstreamTransaction t ∧ t.wf = false ∧ exec i s = .fault .malformedTransaction := by
    intro i s
    by_cases reset : i = .resetnAssert
    · exact .inl ⟨assertReset s, by rw [reset]; rfl⟩
    · cases i
      case upstreamTransaction t =>
        cases wf : t.wf with
        | true => exact .inl ⟨_, exec_eq_settle_effect reset wf s⟩
        | false => exact .inr ⟨t, rfl, wf, if_neg (by simp [wf])⟩
      case resetnAssert => exact absurd rfl reset
      all_goals exact .inl ⟨_, rfl⟩
  refine ⟨fun i s wf => ?_, fun i s f hf => ?_, fun i s r hr => ?_⟩
  · rcases run i s with next | ⟨t, rfl, ill, -⟩
    · exact next
    · exact absurd (ill.symm.trans wf) Bool.noConfusion
  · rcases run i s with ⟨t, next⟩ | ⟨t, rfl, ill, -⟩
    · exact nomatch next.symm.trans hf
    · exact ⟨t, rfl, ill⟩
  · rcases run i s with ⟨t, next⟩ | ⟨t, -, -, fault⟩
    · exact nomatch next.symm.trans hr
    · exact nomatch fault.symm.trans hr

/-! ## The counter (R174) -/

/-- The delivery of a quarter of an image leaves the startup state, the working settings and the profile alone. -/
theorem deliverImage_settings (bs : List Byte) (s : State) :
    (deliverImage bs s).settings = { s.settings with configure := (deliverImage bs s).settings.configure } := by
  unfold deliverImage
  split <;> rfl

/-- What no command stands for moves nothing of the settings unit but the CONFIGURE in flight. -/
theorem serveSilent_settings {s t : State} (h : serveSilent s = some t) :
    t.settings = { s.settings with configure := t.settings.configure } := by
  unfold serveSilent at h
  split at h
  · rename_i a n _
    split at h
    · rename_i plain
      rw [← Option.some.inj h, show (serveRead a n s).settings = s.settings from
        (serveRead_plain a n s plain).get .settings (by decide)]
    · cases h
  · rename_i e _
    split at h <;> try cases h
    rename_i part image
    split at h
    · have served : (serveInternal e s).settings = s.settings :=
        (serveInternal_image e part s image).get .settings (by decide)
      have delivered := deliverImage_settings (readBlock s.memory e.addr) (serveInternal e s)
      rw [← Option.some.inj h, delivered, served]
    · cases h
  · cases h
  · cases h

theorem pump_settings (s : State) :
    (pump s).settings = { s.settings with configure := (pump s).settings.configure } := by
  unfold pump
  generalize waitingTransactions s = n
  induction n generalizing s with
  | zero => rfl
  | succ n ih =>
    unfold pumpBy
    split
    · rfl
    · rename_i t ht
      rw [ih t, serveSilent_settings ht]

theorem countMs_ms (s : State) : (countMs s).ms = if s.settings.startup = .resetHeld then s.ms else s.ms + 1 := by
  unfold countMs
  split <;> rfl

/-- The counter counts in a millisecond, but in RESET_HELD. -/
theorem tick_ms (s : State) : (tick s).ms = if s.settings.startup = .resetHeld then s.ms else s.ms + 1 := by
  have aged : (tick s).ms = (countMs (pump s)).ms :=
    ((ageButtons_changes _).get .ms (by decide)).trans ((roundsFallDue_changes _).get .ms (by decide))
  rw [aged, countMs_ms, pump_settings, (pump_changes s).get .ms (by decide)]

/-- Settles O23: of the commands, only RESETN and its release name the counter among their parts. -/
theorem counterCounts : Obligations.CounterCounts := by
  refine ⟨fun s idle => ⟨tick s, by simp only [step, idle], tick_ms s, tick_changes s⟩, fun i s u h reset release => ?_⟩
  have unnamed : Part.ms ∉ partsOf i ++ endOfStep := by
    cases i
    case resetnAssert => exact absurd rfl reset
    case resetnRelease p => exact absurd rfl (release p)
    all_goals (dsimp only [partsOf]; decide)
  exact (exec_changes h).get .ms unnamed

/-! ## RESETN (R173) -/

theorem volumeAt_reset (slot : Nat) : volumeAt State.reset slot = none := by
  rw [volumeAt, Option.join_eq_none_iff]
  cases h : State.reset.volumes.entries[slot]? with
  | none => exact .inl rfl
  | some v =>
    have := List.mem_of_getElem? h
    simp [State.reset, VolumeTable.fullReset] at this
    simp [this]

/-- Settles O20. -/
theorem resetHoldsEveryBlock : Obligations.ResetHoldsEveryBlock := by
  intro s
  refine ⟨assertReset s, rfl, ?_⟩
  have heads : ∀ h, (assertReset s).position.heads.get h = HeadUnit.fullReset := by intro h; cases h <;> rfl
  have bars : ∀ side, (assertReset s).lamps.get side = Bar.fullReset := by intro side; cases side <;> rfl
  have entries : ∀ slot < 8, entryState (assertReset s) slot = .free := fun slot _ => by
    rw [entryState, show volumeAt (assertReset s) slot = none from volumeAt_reset slot]
  have windows : ∀ i < 4, windowAt (assertReset s) i = none := by
    intro i hi
    match i, hi with
    | 0, _ | 1, _ | 2, _ | 3, _ => rfl
  simp only [heads, bars]
  refine ⟨rfl, rfl, rfl, rfl, rfl, rfl, rfl, rfl, rfl, rfl, rfl, rfl, rfl, rfl, rfl, rfl, rfl, rfl, entries, rfl, rfl,
    rfl, rfl, rfl, rfl, rfl, rfl, rfl, rfl, rfl, rfl, rfl, rfl, rfl, rfl, rfl, rfl, rfl, rfl, rfl, rfl, rfl, rfl, rfl,
    rfl, rfl, rfl, fun _ => ?_, rfl, rfl, rfl, rfl, rfl, rfl, rfl, fun _ => ?_, rfl, rfl, rfl, windows, rfl, rfl, rfl,
    rfl, rfl, rfl, rfl⟩ <;> exact ⟨rfl, rfl, rfl, rfl, rfl, rfl⟩

/-- Settles O36. -/
theorem lawsHoldAtReset : Obligations.LawsHoldAtReset := by
  have free : ∀ {slot v}, volumeAt State.reset slot ≠ some v := fun {slot v} h => by simp [volumeAt_reset] at h
  refine ⟨fun _ _ hv => absurd hv free, ⟨rfl, fun raised => absurd rfl raised⟩, fun _ _ hv => absurd hv free,
    ⟨rfl, rfl, rfl, by decide⟩, ⟨rfl, fun _ active => ?_, fun _ _ _ _ hv => absurd hv free⟩, ⟨rfl, by decide⟩, ?queues,
    ?counts, reset_memory_wf, ⟨trivial, fun turn => ?_, fun awaited => absurd rfl awaited⟩,
    ⟨fun _ => rfl, fun _ => ⟨rfl, by decide, by decide⟩, fun working => ?_, fun _ restart => ?_⟩⟩
  case queues => exact ⟨by decide, by decide, by decide, by decide, by decide, by decide⟩
  case counts => exact ⟨fun side => by cases side <;> decide, fun h => by cases h <;> decide⟩
  · cases active
  · cases turn
  · cases working
  · cases restart

end Sys2Proof.Machine
end

section
/-! SUPPORT. Relations that every operation keeps. A relation on states that is reflexive and transitive and holds of the
few operations that do the work holds of every command: the case analysis of the commands is made once, here, and each
law of the machine then asks for the few operations alone. -/
namespace Sys2Proof.Machine

/-! ## The course of a volume -/

/-- What every operation but OPEN and CLOSE keeps of a volume (R2, R8, R21, R91). -/
structure Evolves (v w : Volume) : Prop where
  shelfMark : w.shelfMark = v.shelfMark
  leafCount : w.leafCount = v.leafCount
  allowance : w.allowance = v.allowance
  openedAt : w.openedAt = v.openedAt
  dose : v.doseUsed ≤ w.doseUsed
  within : v.doseUsed ≤ v.allowance → w.doseUsed ≤ w.allowance
  ordered : ListOrdered v.exceptions → ListOrdered w.exceptions

theorem Evolves.refl (v : Volume) : Evolves v v := ⟨rfl, rfl, rfl, rfl, Nat.le_refl _, id, id⟩

theorem Evolves.trans {u v w : Volume} (h : Evolves u v) (k : Evolves v w) : Evolves u w :=
  ⟨k.shelfMark.trans h.shelfMark, k.leafCount.trans h.leafCount, k.allowance.trans h.allowance,
    k.openedAt.trans h.openedAt, Nat.le_trans h.dose k.dose, k.within ∘ h.within, k.ordered ∘ h.ordered⟩

/-- An update that touches none of these fields. -/
theorem Evolves.of_eq {v w : Volume} (shelfMark : w.shelfMark = v.shelfMark) (leafCount : w.leafCount = v.leafCount)
    (allowance : w.allowance = v.allowance) (openedAt : w.openedAt = v.openedAt) (dose : w.doseUsed = v.doseUsed)
    (exceptions : w.exceptions = v.exceptions) : Evolves v w :=
  ⟨shelfMark, leafCount, allowance, openedAt, Nat.le_of_eq dose.symm, by rw [dose, allowance]; exact id,
    by rw [exceptions]; exact id⟩

theorem chained_evolves (v : Volume) (bytes : List Byte) : Evolves v (chained v bytes) :=
  .of_eq rfl rfl rfl rfl rfl rfl

theorem offerException_evolves (e : ExceptionEntry) (v : Volume) : Evolves v (offerException e v) := by
  rw [offerException_frame]
  exact ⟨rfl, rfl, rfl, rfl, Nat.le_refl _, id, offerException_ordered⟩

theorem removeException_evolves (leaf : Nat) (side : Side) (v : Volume) : Evolves v (removeException leaf side v) :=
  ⟨rfl, rfl, rfl, rfl, Nat.le_refl _, id, fun ⟨hlen, hord⟩ =>
    ⟨Nat.le_trans (List.length_filter_le _ _) hlen, hord.sublist List.filter_sublist⟩⟩

theorem frameException_evolves (leaf : Nat) (side : Side) (status : FrameStatus) (v : Volume) :
    Evolves v (frameException leaf side status v) := by
  cases status
  case complete => exact removeException_evolves leaf side v
  all_goals exact offerException_evolves _ v

theorem offerAll_evolves (es : List ExceptionEntry) (v : Volume) : Evolves v (offerAll es v).1 := by
  induction es generalizing v with
  | nil => exact .refl v
  | cons e es ih => exact (offerException_evolves e v).trans (ih _)

/-! ## The charge of a fire (R89 to R91) -/

theorem sumSides_mono {sides : PerSide Bool} {x y : PerSide Nat} (hv : x.v ≤ y.v) (hr : x.r ≤ y.r) :
    sumSides sides x ≤ sumSides sides y := by
  unfold sumSides
  split <;> split <;> omega

theorem sumSides_const (sides : PerSide Bool) (n : Nat) : sumSides sides { v := n, r := n } = sideCount sides * n := by
  obtain ⟨v, r⟩ := sides
  cases v <;> cases r <;> simp [sumSides, sideCount]
  omega

/-- R90, R91: the cap keeps the charge within the room of the allowance. -/
theorem fireCharge_le_doseRoom (s : State) (v : Volume) (sides : PerSide Bool) :
    fireCharge s v sides ≤ doseRoom v := by
  unfold fireCharge
  by_cases capped : capApplies s v sides = true
  · have codes : sumSides sides (finalCodes s v sides) ≤ sideCount sides * doseCap v sides := by
      rw [← sumSides_const, finalCodes, if_pos capped]
      exact sumSides_mono (Nat.min_le_right _ _) (Nat.min_le_right _ _)
    calc sumSides sides (finalCodes s v sides) * v.exposure
        ≤ sideCount sides * doseCap v sides * v.exposure := Nat.mul_le_mul_right _ codes
      _ = doseRoom v / (sideCount sides * v.exposure) * (sideCount sides * v.exposure) := by
        rw [doseCap, Nat.mul_right_comm, Nat.mul_comm]
      _ ≤ doseRoom v := Nat.div_mul_le_self _ _
  · rw [finalCodes, if_neg capped]
    exact Nat.not_lt.mp fun beyond => capped (decide_eq_true beyond)

theorem chargedVolume_evolves (s : State) (v : Volume) (sides : PerSide Bool) :
    Evolves v (chargedVolume s v sides) := by
  have charge := fireCharge_le_doseRoom s v sides
  unfold doseRoom at charge
  refine ⟨rfl, rfl, rfl, rfl, Nat.le_add_right _ _, fun within => ?_, id⟩
  show v.doseUsed + fireCharge s v sides ≤ v.allowance
  omega

/-! ## Relations that handing records keeps -/

/-- The parts that no law asks about apart from the sequencer and the capture unit. -/
def restParts : List Part :=
  [.ms, .account, .returnRing, .returnConsumer, .latched, .statusMarks, .tone, .motion, .link, .fused,
    .rounds, .nextRound, .barLoads, .memoryPort, .hostData, .buttons, .freeChoices, .pending]

/-- The counts of a bar are within bounds (R85). -/
def BarBounded (b : Bar) : Prop := b.noReply ≤ 8

/-- The counts of a head are within bounds (R55). -/
def HeadBounded (u : HeadUnit) : Prop := u.badCount ≤ 255 ∧ u.goodCount ≤ 3

/-- A preorder on states that lets the rest change, records be handed over, and volumes take their course. -/
structure BaseClosed (R : State → State → Prop) : Prop where
  refl : ∀ s, R s s
  trans : ∀ {s t u}, R s t → R t u → R s u
  rest : ∀ {s t}, Changes restParts s t → R s t
  hand : ∀ r s, R s (handReturn r s)
  volume : ∀ {slot v w s}, volumeAt s slot = some v → Evolves v w → R s (setVolume slot (some w) s)
  bar : ∀ {side b s}, (BarBounded (s.lamps.get side) → BarBounded b) → R s (setBar side b s)
  head : ∀ {hd u s}, (HeadBounded (s.position.heads.get hd) → HeadBounded u) → R s (setHead hd u s)

/-- A relation through a choice. -/
theorem rel_ite {R : State → State → Prop} {s t u : State} {c : Prop} [Decidable c] (ht : c → R s t)
    (hu : ¬ c → R s u) : R s (if c then t else u) := by
  split
  · exact ht ‹_›
  · exact hu ‹_›

section
variable {R : State → State → Prop} (h : BaseClosed R)
include h

/-- A change of parts of the rest. -/
theorem BaseClosed.parts {ps : List Part} {s t : State} (c : Changes ps s t) (sub : ∀ p ∈ ps, p ∈ restParts) : R s t :=
  h.rest (c.mono sub)

theorem BaseClosed.foldl {α : Type} {f : State → α → State} (hf : ∀ s a, R s (f s a)) (l : List α) (s : State) :
    R s (l.foldl f s) := by
  induction l generalizing s with
  | nil => exact h.refl s
  | cons a l ih => exact h.trans (hf s a) (ih (f s a))

theorem enterLatched_closed (f : LatchedFault) (s : State) : R s (enterLatched f s) :=
  h.parts (enterLatched_changes f s) (by decide)

theorem latch_closed (f : LatchedFault) (c : EventCode) (l d : Nat) (s : State) : R s (latch f c l d s) :=
  rel_ite (fun _ => h.refl s) fun _ => h.trans (enterLatched_closed h f s) (h.hand _ _)

theorem latchWithEvent_closed (f : LatchedFault) (c : EventCode) (l d : Nat) (s : State) :
    R s (latchWithEvent f c l d s) :=
  rel_ite (fun _ => h.hand _ _) fun _ => h.trans (enterLatched_closed h f s) (h.hand _ _)

theorem refuseSlots_closed (n : Nat) (s : State) : R s (refuseSlots n s) := latch_closed h _ _ _ _ s

theorem modifyVolume_closed (slot : Nat) {f : Volume → Volume} (hf : ∀ v, Evolves v (f v)) (s : State) :
    R s (modifyVolume slot f s) := by
  unfold modifyVolume
  split
  · exact h.refl s
  · exact h.volume ‹_› (hf _)

theorem numberRecord_closed {slot : Nat} {v : Volume} {s : State} (hv : volumeAt s slot = some v)
    (c : AccountContent) : R s (numberRecord slot v c s) :=
  h.trans (h.volume hv (chained_evolves v _)) (h.parts (takeAccountSlot_changes _) (by decide))

end

/-! ## Relations that the turn sequencer keeps -/

/-- A relation that the sequencer's own operations keep: those that leave its arm state, and those that enter one, with
their signal to the capture unit. -/
structure TurnClosed (R : State → State → Prop) : Prop extends BaseClosed R where
  seq : ∀ {q s} (_ : q.arm = s.seq.arm := by rfl), R s (setSeq q s)
  arm : ∀ a s, R s (setArm a s)

section
variable {R : State → State → Prop} (h : TurnClosed R)
include h

theorem setVacuum_closed (on : Bool) (s : State) : R s (setVacuum on s) := h.seq

theorem startTimer_closed (k : TimerKind) (n : Nat) (s : State) : R s (startTimer k n s) := h.seq

theorem stopTimer_closed (s : State) : R s (stopTimer s) := h.seq

theorem attendArises_closed (s : State) : R s (attendArises s) := by
  refine h.trans (h.seq (q := { s.seq with attend := true }) rfl) (h.rest fun p hp => ?_)
  cases p <;> simp_all [Part.same, setSeq, attendArises, restParts]

theorem attendClears_closed (s : State) : R s (attendClears s) := by
  refine h.trans (h.seq (q := { s.seq with attend := false }) rfl) (h.rest fun p hp => ?_)
  unfold attendClears
  split <;> cases p <;> simp_all [Part.same, setSeq, restParts]

theorem endTurn_closed (o : OutcomeCode) (d : Nat) (s : State) : R s (endTurn o d s) := by
  unfold endTurn
  split
  · exact h.refl s
  · exact h.trans h.seq (h.hand _ _)

/-! ### Faults and halts -/

theorem latchCause_closed (c : FaultCause) (s : State) : R s (latchCause c s) := by
  cases c
  case platen => exact latch_closed h.toBaseClosed _ _ _ _ s
  case slip target fused => exact latch_closed h.toBaseClosed _ _ _ _ s
  all_goals exact h.refl s

/-- The engines and the timer stop and the arm enters a state with the attend condition set. -/
theorem thrown_closed (a : ArmState) (o : OutcomeCode) (d : Nat) (s : State) :
    R s (endTurn o d (attendArises (setArm a (stopTimer (stopBoth s))))) :=
  h.trans (h.parts (stopBoth_changes s) (by decide)) <| h.trans (stopTimer_closed h _) <| h.trans (h.arm a _) <|
    h.trans (attendArises_closed h _) (endTurn_closed h o d _)

theorem enterFaulted_closed (c : FaultCause) (s : State) : R s (enterFaulted c s) :=
  rel_ite (fun _ => h.refl s) fun _ => h.trans (latchCause_closed h c s) (thrown_closed h _ _ _ _)

theorem haltSequencer_closed (s : State) : R s (haltSequencer s) := by
  unfold haltSequencer
  split
  iterate 3 exact h.refl s
  all_goals exact thrown_closed h _ _ _ s

/-! ### Entering states -/

theorem beginGrip_closed (s : State) : R s (beginGrip s) := h.trans (setVacuum_closed h _ s) (startTimer_closed h _ _ _)

theorem enterGripping_closed (s : State) : R s (enterGripping s) :=
  h.trans (h.arm _ s) (h.trans h.seq (beginGrip_closed h _))

theorem enterReleasing_closed (s : State) : R s (enterReleasing s) :=
  h.trans (h.arm _ s) (h.trans (setVacuum_closed h _ _) (startTimer_closed h _ _ _))

theorem enterSettling_closed (s : State) : R s (enterSettling s) := h.trans (h.arm _ s) (startTimer_closed h _ _ _)

/-! ### The platen raise -/

theorem raisedFlag_closed (sw : Switches) (s : State) : R s (raisedFlag sw s) := by
  have flagged : ∀ slot b, R s (modifyVolume slot (fun v => { v with unpressed := b }) s) := fun slot b =>
    modifyVolume_closed h.toBaseClosed slot (fun _ => by exact .of_eq rfl rfl rfl rfl rfl rfl) s
  unfold raisedFlag
  split
  · exact rel_ite (fun _ => flagged _ _) fun _ => h.trans (flagged _ _) (h.hand _ _)
  · exact rel_ite (fun _ => h.refl s) fun _ => h.hand _ _

theorem afterRaise_closed (s : State) : R s (afterRaise s) :=
  rel_ite (fun _ => h.arm _ s) fun _ => enterSettling_closed h s

theorem raiseEnded_closed (k : EndKind) (sw : Switches) (s : State) : R s (raiseEnded k sw s) := by
  cases k
  case limit => exact h.trans (raisedFlag_closed h sw s) (afterRaise_closed h _)
  case max => exact enterFaulted_closed h _ s
  all_goals exact h.refl s

theorem sampleSwitches_closed (sw : Switches) (s : State) : R s (sampleSwitches sw s) :=
  h.parts (sampleSwitches_changes sw s) (by decide)

theorem endPlaten_closed (k : EndKind) (n : Nat) (s : State) : R s (endPlaten k n s) :=
  h.parts (endPlaten_changes k n s) (by decide)

theorem takePlatenMove_closed (down : Bool) (s : State) : R s (takePlatenMove down s) :=
  h.parts (takePlatenMove_changes down s) (by decide)

theorem beginRaise_closed (sw : Switches) (s : State) : R s (beginRaise sw s) := by
  refine rel_ite (fun _ => h.seq) fun _ => rel_ite (fun _ => ?_) fun _ => ?_
  · exact h.trans (sampleSwitches_closed h sw s) (h.trans (endPlaten_closed h _ _ _) (raiseEnded_closed h _ sw _))
  · exact h.trans h.seq (h.trans (sampleSwitches_closed h sw _) (takePlatenMove_closed h _ _))

/-! ### Arm moves -/

theorem armReached_closed (sw : Switches) (s : State) : R s (armReached sw s) := by
  unfold armReached
  split
  · exact enterGripping_closed h s
  · exact enterReleasing_closed h s
  · exact h.trans (h.arm _ s) (beginRaise_closed h sw _)
  · exact h.trans h.seq (beginRaise_closed h sw _)
  all_goals exact h.refl s

theorem offerArm_closed (angle steps top : Nat) (s : State) : R s (offerArm angle steps top s) :=
  h.trans h.seq (h.parts (takeArmMove_changes _ _ _ _) (by decide))

theorem slipCheck_closed (sw : Switches) (s : State) : R s (slipCheck sw s) := by
  unfold slipCheck
  split
  · exact enterFaulted_closed h _ s
  · refine rel_ite (fun _ => armReached_closed h sw s) fun _ => rel_ite (fun _ => ?_) fun _ =>
      enterFaulted_closed h _ s
    exact h.trans (h.seq (q := { s.seq with corrections := 1 }))
      (rel_ite (fun _ => enterFaulted_closed h _ _) fun _ => offerArm_closed h _ _ _ _)

theorem makeArmMove_closed (sw : Switches) (s : State) : R s (makeArmMove sw s) := by
  unfold makeArmMove
  split
  · exact enterFaulted_closed h _ s
  · exact h.trans h.seq
      (rel_ite (fun _ => slipCheck_closed h sw _) fun _ => offerArm_closed h _ _ _ _)

theorem beginArm_closed (target top : Nat) (sw : Switches) (s : State) : R s (beginArm target top sw s) :=
  h.trans h.seq (rel_ite (fun _ => h.seq) fun _ => makeArmMove_closed h sw _)

theorem enterReaching_closed (sw : Switches) (s : State) : R s (enterReaching sw s) :=
  h.trans (h.arm _ s) (beginArm_closed h _ _ sw _)

theorem enterSweeping_closed (sw : Switches) (s : State) : R s (enterSweeping sw s) :=
  h.trans (h.arm _ s) (h.trans h.seq (beginArm_closed h _ _ sw _))

theorem enterReturning_closed (top : Nat) (sw : Switches) (s : State) : R s (enterReturning top sw s) :=
  h.trans (h.arm _ s) (beginArm_closed h _ _ sw _)

/-! ### The platen lowering, and the reports of the engines -/

theorem lowerEnded_closed (k : EndKind) (sw : Switches) (s : State) : R s (lowerEnded k sw s) := by
  cases k
  case limit =>
    exact rel_ite (fun _ => h.trans h.seq (beginArm_closed h _ _ sw _)) fun _ => enterReaching_closed h sw s
  case max => exact enterFaulted_closed h _ s
  all_goals exact h.refl s

theorem beginLower_closed (sw : Switches) (s : State) : R s (beginLower sw s) := by
  refine rel_ite (fun _ => h.seq) fun _ => rel_ite (fun _ => ?_) fun _ => ?_
  · exact h.trans (sampleSwitches_closed h sw s) (h.trans (endPlaten_closed h _ _ _) (lowerEnded_closed h _ sw _))
  · exact h.trans h.seq (h.trans (sampleSwitches_closed h sw _) (takePlatenMove_closed h _ _))

theorem platenReport_closed (r : PlatenEnd) (sw : Switches) (s : State) : R s (platenReport r sw s) := by
  unfold platenReport
  split
  · exact h.refl s
  · exact h.trans h.seq (rel_ite (fun _ => beginLower_closed h sw _) fun _ => beginRaise_closed h sw _)
  · exact h.trans h.seq (rel_ite (fun _ => lowerEnded_closed h _ sw _) fun _ => raiseEnded_closed h _ _ _)

theorem armReport_closed (r : ArmEnd) (sw : Switches) (s : State) : R s (armReport r sw s) := by
  unfold armReport
  split
  · exact h.refl s
  · exact h.trans h.seq (makeArmMove_closed h sw _)
  · refine h.trans (h.seq (q := { s.seq with armPhase := .none }) rfl) ?_
    cases r.kind
    case count => exact slipCheck_closed h sw _
    all_goals exact h.refl _

theorem setMotion_closed (m : MotionUnit) (s : State) : R s { s with motion := m } :=
  h.parts (setMotion_changes m s) (by decide)

theorem armStep_closed (sw : Switches) (s : State) : R s (armStep sw s) := by
  have ends : ∀ k n, R s (armEnds k n sw s) := fun k n =>
    h.trans (h.parts (endArm_changes k n s) (by decide)) (armReport_closed h _ sw _)
  unfold armStep
  split
  · exact h.refl s
  · exact rel_ite (fun _ => ends _ _) fun _ => rel_ite (fun _ => ends _ _) fun _ => setMotion_closed h _ s

theorem platenEnds_closed (k : EndKind) (n : Nat) (sw : Switches) (s : State) : R s (platenEnds k n sw s) :=
  h.trans (endPlaten_closed h k n s) (platenReport_closed h _ sw _)

theorem platenStep_closed (sw : Switches) (s : State) : R s (platenStep sw s) := by
  have sampled := sampleSwitches_closed h sw s
  unfold platenStep
  split
  · exact h.refl s
  · refine rel_ite (fun _ => platenEnds_closed h _ _ sw s) fun _ => rel_ite (fun _ => ?_) fun _ =>
      rel_ite (fun _ => ?_) fun _ => h.trans (setMotion_closed h _ s) (sampleSwitches_closed h sw _)
    all_goals exact h.trans sampled (platenEnds_closed h _ _ sw _)

theorem engineStep_closed (e : Engine) (sw : Switches) (s : State) : R s (engineStep e sw s) := by
  cases e
  · exact armStep_closed h sw s
  · exact platenStep_closed h sw s

/-! ### Homing, recovery and the turn -/

theorem homingHeads_closed (sw : Switches) (s : State) : R s (homingHeads sw s) :=
  rel_ite (fun _ => h.trans h.seq (beginLower_closed h sw _)) fun _ => h.refl s

theorem enterHoming_closed (s : State) : R s (enterHoming s) :=
  h.trans (h.arm _ s) (h.trans (setVacuum_closed h _ _) (h.trans (startTimer_closed h _ _ _) h.seq))

theorem resumeSequencer_closed (sw : Switches) (s : State) : R s (resumeSequencer sw s) := by
  unfold resumeSequencer
  split
  · exact h.trans (setVacuum_closed h _ s) (h.trans (attendClears_closed h _) (enterReturning_closed h _ sw _))
  · exact h.trans (attendClears_closed h s) (h.trans (enterHoming_closed h _) (homingHeads_closed h sw _))
  all_goals exact h.refl s

theorem startTurn_closed (t : Turn) (sw : Switches) (s : State) : R s (startTurn t sw s) :=
  h.trans (h.arm _ s) (h.trans h.seq (beginLower_closed h sw _))

theorem gripExpired_closed (leaf multi : Bool) (sw : Switches) (s : State) : R s (gripExpired leaf multi sw s) :=
  rel_ite (fun _ => h.trans (stopTimer_closed h s) (enterSweeping_closed h sw _)) fun _ =>
    rel_ite (fun _ => h.trans h.seq (startTimer_closed h _ _ _)) fun _ =>
      h.trans h.seq (enterReturning_closed h _ sw _)

theorem leafRead_closed (leaf : Bool) (sw : Switches) (s : State) : R s (leafRead leaf sw s) := by
  have dropped : ∀ x, R x (leafDropped sw x) := fun x =>
    h.trans (h.parts (stopArm_changes x) (by decide)) (h.trans h.seq (enterReturning_closed h _ sw _))
  exact h.trans h.seq (rel_ite (fun _ => dropped _) fun _ => h.refl _)

theorem releaseExpired_closed (sw : Switches) (s : State) : R s (releaseExpired sw s) := by
  refine h.trans (stopTimer_closed h s) ?_
  simp only [releaseExpired]
  split
  · exact enterReturning_closed h _ sw _
  · exact h.trans (modifyVolume_closed h.toBaseClosed _ (fun _ => by exact .of_eq rfl rfl rfl rfl rfl rfl) _)
      (enterReturning_closed h _ sw _)

/-- The end of SETTLING, given that an ADVANCE may be handed over. -/
theorem settleExpired_closed (handed : ∀ t p x, R x (handOver t p x)) (s : State) : R s (settleExpired s) := by
  have finished : ∀ t x, R x (finishTurn t x) := by
    intro t x
    unfold finishTurn
    split
    · split
      · exact h.trans (attendClears_closed h x) (handed _ _ _)
      · exact h.trans (attendClears_closed h x) (endTurn_closed h _ _ _)
    all_goals exact h.trans (endTurn_closed h _ _ x) (attendArises_closed h _)
  refine h.trans (stopTimer_closed h s) (h.trans (h.arm .idle _) ?_)
  simp only [settleExpired]
  split
  · exact h.refl _
  · exact finished _ _

/-! ### The position unit's signals -/

theorem compareAngles_closed (a b : Nat) (s : State) : R s (compareAngles a b s) :=
  rel_ite (fun _ => h.trans (latch_closed h.toBaseClosed _ _ _ _ s) (enterFaulted_closed h _ _)) fun _ => h.refl s

theorem checkSplit_closed (hd : Head) (n : Nat) (angle : Option Nat) (s : State) : R s (checkSplit hd n angle s) := by
  have noted : ∀ l, R s (setChecks l s) := fun l => h.parts (setChecks_changes l s) (by decide)
  unfold checkSplit
  split
  · exact h.refl s
  · exact noted _
  · split
    · exact h.trans (noted _) (rel_ite (fun _ => compareAngles_closed h _ _ _) fun _ => h.refl _)
    · exact noted _

end

end Sys2Proof.Machine
end

section
/-! SUPPORT. Relations that every operation keeps, continued: the frame tracker, the capture unit and the lamp unit. -/
namespace Sys2Proof.Machine

/-- An entry of the account writer or of the return writer: a write of a record or of the status block. -/
def isOwnWrite (e : InternalEntry) : Bool :=
  match e.purpose with
  | .accountWrite _ | .returnWrite _ | .statusWrite => true
  | .ticketRead _ | .imageRead _ => false

theorem isTicketRead_of_isOwnWrite {e : InternalEntry} (own : isOwnWrite e = true) : isTicketRead e = false := by
  unfold isOwnWrite isTicketRead at *
  split at own <;> simp_all

/-- A relation that the frame tracker's own operations keep. -/
structure FrameClosed (R : State → State → Prop) : Prop extends BaseClosed R where
  place : ∀ {e s}, isOwnWrite e = true → R s (placeInternal e s)
  windows : ∀ {l s}, l.map Option.isSome = s.frames.windows.map Option.isSome →
    R s { s with frames := { s.frames with windows := l } }
  guarded : ∀ {i w s}, windowAt s i = some w → ∀ k, R s (setWindow i none (enterGuard w k s))
  lost : ∀ {i w s}, windowAt s i = some w →
    R s (setWindow i none { s with frames := { s.frames with guardReserved := s.frames.guardReserved - 1 } })

theorem windowAt_eq_some {s : State} {i : Nat} {w : Window} (hw : windowAt s i = some w) :
    ∃ hi : i < s.frames.windows.length, s.frames.windows[i] = some w := by
  rwa [windowAt, Option.join_eq_some_iff, List.getElem?_eq_some_iff] at hw

section
variable {R : State → State → Prop} (h : FrameClosed R)
include h

/-! ## Frames -/

theorem placeAccountWrite_closed (i : Half) (bs : List Byte) (s : State) : R s (placeAccountWrite i bs s) := by
  unfold placeAccountWrite
  split
  · exact h.refl s
  · exact h.place rfl

theorem handAccount_closed (slot : Nat) (c : AccountContent) (s : State) : R s (handAccount slot c s) := by
  unfold handAccount
  split
  · exact h.refl s
  · exact h.trans (numberRecord_closed h.toBaseClosed ‹_› c) (placeAccountWrite_closed h _ _ _)

/-- A window changed in its entry. -/
theorem setWindow_closed {s : State} {i : Nat} {w : Window} (hw : windowAt s i = some w) (x : Window) :
    R s (setWindow i (some x) s) := by
  obtain ⟨hi, hget⟩ := windowAt_eq_some hw
  refine h.windows ?_
  rw [List.map_set]
  refine List.ext_getElem (by simp) fun j hj _ => ?_
  rw [List.getElem_set]
  split
  · rename_i heq
    subst heq
    simp [hget]
  · rfl

/-- A change of windows in their entries. -/
theorem mapWindows_closed {f : Option Window → Option Window} (hf : ∀ w, (f w).isSome = w.isSome) (s : State) :
    R s { s with frames := { s.frames with windows := s.frames.windows.map f } } :=
  h.windows (by rw [List.map_map]; exact List.map_congr_left fun w _ => hf w)

theorem runRegulator_closed (w : Window) (f : FireData) (st : FrameStatus) (s : State) :
    R s (runRegulator w f st s) := by
  unfold runRegulator
  split
  · exact h.refl s
  · refine rel_ite (fun _ => ?_) fun _ => h.refl s
    split
    · exact h.refl s
    · rename_i v hv _ _ _ _
      exact h.volume (v := v) hv (by exact .of_eq rfl rfl rfl rfl rfl rfl)

theorem accountFrame_closed {w : Window} {v : Volume} {s : State} (hv : volumeAt s w.slot = some v) (f : FireData)
    (st : FrameStatus) : R s (accountFrame w f st v s) :=
  h.trans (numberRecord_closed h.toBaseClosed hv _)
    (modifyVolume_closed h.toBaseClosed _ (frameException_evolves _ _ _) _)

theorem tellPartner_closed (w : Window) (st : FrameStatus) (s : State) : R s (tellPartner w st s) := by
  unfold tellPartner
  split
  · split
    · exact setWindow_closed h ‹_› _
    · exact h.refl s
  · exact h.refl s

theorem chirpSignal_closed (s : State) : R s (chirpSignal s) := h.parts (chirpSignal_changes s) (by decide)

theorem completeFrame_closed {i : Nat} {w : Window} {s : State} (hw : windowAt s i = some w) (f : FireData) :
    R s (completeFrame i w f s) := by
  have regulated := runRegulator_closed h w f (completionStatus w) s
  have frames : (runRegulator w f (completionStatus w) s).frames = s.frames :=
    (runRegulator_changes _ _ _ _).get .frames (by decide)
  simp only [completeFrame]
  split
  · exact h.refl s
  · rename_i v hv
    have accounted := h.trans regulated (accountFrame_closed h hv f (completionStatus w))
    have stands : windowAt (accountFrame w f (completionStatus w) v (runRegulator w f (completionStatus w) s)) i
        = some w := by
      rw [windowAt, (accountFrame_changes w f (completionStatus w) v _).get .frames (by decide), frames]
      exact hw
    have placed := fun k bs => h.trans (h.trans accounted (h.guarded stands k)) <|
      h.trans (tellPartner_closed h w (completionStatus w) _) (placeAccountWrite_closed h k bs _)
    exact rel_ite (fun _ => h.trans (placed _ _) (chirpSignal_closed h _)) fun _ => placed _ _

theorem completeIfFull_closed (i : Nat) (s : State) : R s (completeIfFull i s) := by
  unfold completeIfFull
  split
  · exact h.refl s
  · split
    · exact h.refl s
    · exact rel_ite (fun _ => completeFrame_closed h ‹_› _) fun _ => h.refl s

theorem loseFrame_closed {i : Nat} {w : Window} {s : State} (hw : windowAt s i = some w) (f : FireData) :
    R s (loseFrame i w f s) := by
  simp only [loseFrame]
  split
  · exact h.refl s
  · rename_i v hv
    exact h.trans (h.lost hw) <| h.trans (accountFrame_closed h hv f .lost) <|
      h.trans (placeAccountWrite_closed h _ _ _) (tellPartner_closed h w .lost _)

theorem frameExpired_closed (i : Nat) (s : State) : R s (frameExpired i s) := by
  unfold frameExpired
  split
  · exact h.refl s
  · split
    · exact rel_ite (fun _ => loseFrame_closed h ‹_› _) fun _ => h.refl s
    · exact h.refl s

theorem frameWord_closed (i : Nat) (a : Word) (b : BusWord) (s : State) : R s (frameWord i a b s) := by
  unfold frameWord
  split
  · exact h.refl s
  · exact rel_ite (fun _ => h.trans (setWindow_closed h ‹_› _) (completeIfFull_closed h i _)) fun _ => h.refl s

theorem giveStrobeEnd_closed (e : Nat) (isCut : Bool) (s : State) : R s (giveStrobeEnd e isCut s) :=
  mapWindows_closed h (fun w => by cases w <;> simp; split <;> rfl) s

theorem markSingleHead_closed (s : State) : R s (markSingleHead s) :=
  mapWindows_closed h (fun w => by cases w <;> simp; split <;> rfl) s

theorem completeFullWindows_closed (s : State) : R s (completeFullWindows s) :=
  h.trans (completeIfFull_closed h 0 s) <| h.trans (completeIfFull_closed h 1 _) <|
    h.trans (completeIfFull_closed h 2 _) (completeIfFull_closed h 3 _)

end

/-! ## Ends of a capture -/

/-- A relation that the capture unit's and the sequencer's own operations keep. -/
structure CaptureClosed (R : State → State → Prop) : Prop extends FrameClosed R where
  seq : ∀ q s, R s (setSeq q s)
  state : ∀ c s, R s (setCapture c s)
  lines : ∀ s, R s (lowerLines s)
  givenUp : ∀ s, R s (giveUpWindows s)
  armed : ∀ {p s}, framePoolsHaveRoom (sideCount p.sides) s = true → ∀ slot,
    R s (armWindows slot p
      { s with frames := { s.frames with guardReserved := s.frames.guardReserved + sideCount p.sides } })

section
variable {R : State → State → Prop} (h : CaptureClosed R)
include h

theorem endCapture_closed (o : OutcomeCode) (d : Nat) (s : State) : R s (endCapture o d s) := by
  unfold endCapture
  split
  · exact h.refl s
  · exact h.trans (h.state .free s) (h.hand _ _)

theorem refuseFire_closed (o : OutcomeCode) (d : Nat) (s : State) : R s (refuseFire o d s) :=
  h.trans (h.givenUp s) (endCapture_closed h o d _)

theorem withdrawLoads_closed (s : State) : R s (withdrawLoads s) := h.parts (withdrawLoads_changes s) (by decide)

theorem abandonFire_closed (o : OutcomeCode) (d : Nat) (s : State) : R s (abandonFire o d s) :=
  h.trans (withdrawLoads_closed h s) (refuseFire_closed h o d _)

theorem strobeEnds_closed (f : FireRecord) (e : Nat) (isCut : Bool) (o : OutcomeCode) (s : State) :
    R s (strobeEnds f e isCut o s) :=
  h.trans (h.lines s) <| h.trans (giveStrobeEnd_closed h.toFrameClosed e isCut _) <|
    h.trans (completeFullWindows_closed h.toFrameClosed _) (endCapture_closed h o _ _)

theorem cutStrobe_closed (f : FireRecord) (at_ : Word) (o : OutcomeCode) (s : State) : R s (cutStrobe f at_ o s) :=
  rel_ite (fun _ => strobeEnds_closed h _ _ _ _ s) fun _ => strobeEnds_closed h _ _ _ _ s

theorem raiseStrobe_closed (raised : ∀ x s, R s { s with capture := x }) (c : CaptureRecord) (f : FireRecord)
    (s : State) : R s (raiseStrobe c f s) :=
  h.trans (raised (raiseStrobe c f s).capture s)
    (mapWindows_closed h.toFrameClosed (fun w => by cases w <;> simp; split <;> rfl) _)

theorem finalParkCheck_closed (raised : ∀ x s, R s { s with capture := x }) (c : CaptureRecord) (f : FireRecord)
    (s : State) : R s (finalParkCheck c f s) := by
  refine rel_ite (fun _ => abandonFire_closed h _ _ s) fun _ => ?_
  cases parkCheck s
  case holds => exact raiseStrobe_closed h raised c f s
  all_goals exact abandonFire_closed h _ _ s

/-! ## The gate and the charge -/

theorem handCode_closed (side : Side) (x : Option SideFire) (s : State) : R s (handCode side x s) := by
  unfold handCode
  split
  · exact h.refl s
  · exact h.trans (h.bar (side := side) (b := { s.lamps.get side with echo := .none }) id)
      (h.parts (placeLoad_changes side _ _) (by decide))

theorem chargeFire_closed (c : CaptureRecord) (s : State) : R s (chargeFire c s) := by
  unfold chargeFire
  split
  · exact h.refl s
  · exact rel_ite (fun _ => refuseFire_closed h _ _ s) fun _ =>
      h.trans (h.volume ‹_› (chargedVolume_evolves _ _ _)) <| h.trans (h.state _ _) <|
        h.trans (withdrawLoads_closed h _) <| h.trans (handCode_closed h .v _ _) (handCode_closed h .r _ _)

theorem examineGate_closed (c : CaptureRecord) (wait : Option Word) (s : State) : R s (examineGate c wait s) := by
  have refused : ∀ o d, R s (refuseFire o d s) := fun o d => refuseFire_closed h o d s
  refine rel_ite (fun _ => refused _ _) fun _ => rel_ite (fun _ => refused _ _) fun _ =>
    rel_ite (fun _ => refused _ _) fun _ => rel_ite (fun _ => refused _ _) fun _ =>
    rel_ite (fun _ => h.state _ s) fun _ => rel_ite (fun _ => chargeFire_closed h c s) fun _ => ?_
  cases wait
  · exact h.state _ s
  · exact h.refl s

theorem beginExposing_closed {c : CaptureRecord} {s : State}
    (room : framePoolsHaveRoom (sideCount c.params.sides) s = true) : R s (beginExposing c s) :=
  h.trans (h.parts (grantSlots_changes (sideCount c.params.sides) s) (by decide)) <|
    h.trans (h.armed (p := c.params) (s := grantSlots (sideCount c.params.sides) s) room c.slot) <|
      h.trans (h.state _ _) (examineGate_closed h c none _)

theorem acquire_closed (c : CaptureRecord) (s : State) : R s (acquire c s) :=
  rel_ite (fun _ => rel_ite (fun room => beginExposing_closed h room) fun _ => h.refl s) fun _ =>
    refuseSlots_closed h.toBaseClosed _ s

/-! ## Signals to the capture unit, and its events -/

theorem haltCapture_closed (s : State) : R s (haltCapture s) := by
  unfold haltCapture
  split
  · exact h.refl s
  · exact endCapture_closed h _ _ s
  · exact refuseFire_closed h _ _ s
  · exact abandonFire_closed h _ _ s
  · exact cutStrobe_closed h _ _ _ s

theorem captureArmLeft_closed (s : State) : R s (captureArmLeft s) := by
  unfold captureArmLeft
  split
  · exact h.refl s
  · exact h.refl s
  · exact h.state _ s
  · exact abandonFire_closed h _ _ s
  · exact cutStrobe_closed h _ _ _ s

/-- What the sequencer does, its signal to the capture unit with it. -/
theorem CaptureClosed.turn : TurnClosed R where
  toBaseClosed := h.toBaseClosed
  seq _ := h.seq _ _
  arm := fun a s => by
    have entered : R s (setSeq { s.seq with arm := a, armPhase := .none, platenPhase := .none } s) := h.seq _ s
    exact rel_ite (fun _ => h.trans entered (captureArmLeft_closed h _)) fun _ => entered

theorem handOver_closed (t : Turn) (p : CaptureParams) (s : State) : R s (handOver t p s) :=
  h.trans (h.seq { s.seq with turn := none } s) (h.state _ _)

theorem captureBarFailed_closed (side : Side) (s : State) : R s (captureBarFailed side s) := by
  unfold captureBarFailed
  split
  · exact rel_ite (fun _ => abandonFire_closed h _ _ s) fun _ => h.refl s
  all_goals exact h.refl s

theorem recordTemp_closed (side : Side) (temp : Nat) (s : State) : R s (recordTemp side temp s) := by
  unfold recordTemp
  split
  · exact h.state _ s
  all_goals exact h.refl s

theorem tryAcquire_closed (s : State) : R s (tryAcquire s) := by
  unfold tryAcquire
  split
  · exact acquire_closed h _ s
  all_goals exact h.refl s

theorem gateExamined_closed (s : State) : R s (gateExamined s) := by
  unfold gateExamined
  split
  · exact examineGate_closed h _ _ s
  all_goals exact h.refl s

theorem parkWaitEnds_closed (s : State) : R s (parkWaitEnds s) := by
  unfold parkWaitEnds
  split
  · exact rel_ite (fun _ => rel_ite (fun _ => examineGate_closed h _ _ s) fun _ => refuseFire_closed h _ _ s) fun _ =>
      h.refl s
  all_goals exact h.refl s

theorem strobeRaised_closed (raised : ∀ x s, R s { s with capture := x }) (s : State) : R s (strobeRaised s) := by
  unfold strobeRaised
  split
  · exact rel_ite (fun _ => finalParkCheck_closed h raised _ _ s) fun _ => h.refl s
  all_goals exact h.refl s

theorem strobeElapsed_closed (s : State) : R s (strobeElapsed s) := by
  unfold strobeElapsed
  split
  · exact rel_ite (fun _ => strobeEnds_closed h _ _ _ _ s) fun _ => h.refl s
  all_goals exact h.refl s

theorem strobeWatched_closed (s : State) : R s (strobeWatched s) := by
  unfold strobeWatched
  split
  · split
    · exact cutStrobe_closed h _ _ _ s
    · exact h.refl s
  all_goals exact h.refl s

end

/-! ## The units of the cradle -/

/-- A relation that the sequencer and the capture unit keep, each entered as the commands enter it. -/
structure UnitClosed (R : State → State → Prop) : Prop extends FrameClosed R where
  startTurn : ∀ {s}, s.seq.arm = .idle → ∀ t sw, R s (startTurn t sw s)
  haltSequencer : ∀ s, R s (haltSequencer s)
  resumeSequencer : ∀ sw s, R s (resumeSequencer sw s)
  enterHoming : ∀ {s}, s.seq.turn = none → R s (enterHoming s)
  enterFaulted : ∀ c s, R s (enterFaulted c s)
  engineStep : ∀ e sw s, R s (engineStep e sw s)
  gripExpired : ∀ {s}, s.seq.arm = .gripping → timerExpired .grip s = true → ∀ leaf multi sw,
    R s (gripExpired leaf multi sw s)
  beginGrip : ∀ {s}, s.seq.arm = .gripping → R s (beginGrip s)
  leafRead : ∀ {s}, s.seq.arm = .sweeping → ∀ leaf sw, R s (leafRead leaf sw s)
  releaseExpired : ∀ {s}, s.seq.arm = .releasing → ∀ sw, R s (releaseExpired sw s)
  settleExpired : ∀ {s}, s.seq.arm = .settling → R s (settleExpired s)
  checkSplit : ∀ hd n angle s, R s (checkSplit hd n angle s)
  homingHeads : ∀ sw s, R s (homingHeads sw s)
  hold : ∀ {s}, captureFree s = true → ∀ c, R s (setCapture (.holding c) s)
  haltCapture : ∀ s, R s (haltCapture s)
  captureBarFailed : ∀ side s, R s (captureBarFailed side s)
  recordTemp : ∀ side temp s, R s (recordTemp side temp s)
  tryAcquire : ∀ s, R s (tryAcquire s)
  gateExamined : ∀ s, R s (gateExamined s)
  parkWaitEnds : ∀ s, R s (parkWaitEnds s)
  strobeRaised : ∀ s, R s (strobeRaised s)
  strobeElapsed : ∀ s, R s (strobeElapsed s)
  strobeWatched : ∀ s, R s (strobeWatched s)

/-- The operations within the two units make up the commands' entries to them. -/
theorem CaptureClosed.unit {R : State → State → Prop} (h : CaptureClosed R)
    (raised : ∀ x s, R s { s with capture := x }) : UnitClosed R where
  toFrameClosed := h.toFrameClosed
  startTurn {s} _ t sw := startTurn_closed h.turn t sw s
  haltSequencer := haltSequencer_closed h.turn
  resumeSequencer := resumeSequencer_closed h.turn
  enterHoming {s} _ := enterHoming_closed h.turn s
  enterFaulted := enterFaulted_closed h.turn
  engineStep := engineStep_closed h.turn
  gripExpired {s} _ _ leaf multi sw := gripExpired_closed h.turn leaf multi sw s
  beginGrip {s} _ := beginGrip_closed h.turn s
  leafRead {s} _ leaf sw := leafRead_closed h.turn leaf sw s
  releaseExpired {s} _ sw := releaseExpired_closed h.turn sw s
  settleExpired {s} _ := settleExpired_closed h.turn (handOver_closed h) s
  checkSplit := checkSplit_closed h.turn
  homingHeads := homingHeads_closed h.turn
  hold {s} _ _ := h.state _ s
  haltCapture := haltCapture_closed h
  captureBarFailed := captureBarFailed_closed h
  recordTemp := recordTemp_closed h
  tryAcquire := tryAcquire_closed h
  gateExamined := gateExamined_closed h
  parkWaitEnds := parkWaitEnds_closed h
  strobeRaised := strobeRaised_closed h raised
  strobeElapsed := strobeElapsed_closed h
  strobeWatched := strobeWatched_closed h

section
variable {R : State → State → Prop} (h : UnitClosed R)
include h

/-! ## The lamp unit -/

theorem failBar_closed (side : Side) (k : FailKind) (s : State) : R s (failBar side k s) :=
  rel_ite (fun _ => h.refl s) fun _ => h.bar id

theorem thermalEvents_closed (side : Side) (temp : Nat) (old : BarState) (s : State) :
    R s (thermalEvents side temp old s) :=
  rel_ite (fun _ => rel_ite (fun _ => latch_closed h.toBaseClosed _ _ _ _ s) fun _ =>
    latchWithEvent_closed h.toBaseClosed _ _ _ _ s) fun _ => rel_ite (fun _ => h.hand _ s) fun _ => h.refl s

theorem judgeLamp_closed (side : Side) (w : Half) (s : State) : R s (judgeLamp side w s) := by
  have missed : R s (countMiss side s) :=
    h.trans (h.bar fun _ => Nat.min_le_left _ _) (rel_ite (fun _ => failBar_closed h side _ _) fun _ => h.refl _)
  unfold judgeLamp
  split
  · exact missed
  · exact missed
  · simp only [takeAnswer]
    split
    · exact h.trans (h.bar fun _ => Nat.zero_le _) (failBar_closed h side _ _)
    · exact h.trans (h.bar fun _ => Nat.zero_le _) <|
        h.trans (h.bar (by exact id)) (thermalEvents_closed h side _ _ _)

theorem examineFailed_closed (side : Side) (s : State) : R s (examineFailed side s) := by
  unfold examineFailed
  split
  · exact latch_closed h.toBaseClosed _ _ _ _ s
  all_goals exact h.refl s

theorem placeVerifyPoll_closed (side : Side) (s : State) : R s (placeVerifyPoll side s) :=
  h.parts (placeVerifyPoll_changes side s) (by decide)

theorem verifyLoad_closed (side : Side) (w : Half) (verdict : Verdict) (s : State) :
    R s (verifyLoad side w verdict s) := by
  have compared : R s (compareEcho side w s) :=
    rel_ite (fun _ => h.trans (h.bar (by exact id)) (h.recordTemp side _ _)) fun _ =>
      rel_ite (fun _ => failBar_closed h side _ s) fun _ =>
        h.trans (h.bar (by exact id)) (h.parts (placeLoad_changes side _ _) (by decide))
  exact rel_ite (fun _ => rel_ite (fun _ => compared) fun _ => placeVerifyPoll_closed h side s) fun _ => h.refl s

theorem pollReply_closed (side : Side) (w : Half) (s : State) : R s (pollReply side w s) :=
  h.trans (judgeLamp_closed h side w s) <| h.trans (verifyLoad_closed h side w _ _) <|
    h.trans (examineFailed_closed h side _) (h.captureBarFailed side _)

theorem awaitVerify_closed (side : Side) (s : State) : R s (awaitVerify side s) :=
  rel_ite (fun _ => h.trans (h.bar (by exact id)) (placeVerifyPoll_closed h side _)) fun _ => h.refl s

theorem loadReply_closed (side : Side) (code : Nat) (w : Half) (s : State) : R s (loadReply side code w s) :=
  h.trans (judgeLamp_closed h side w s) <| h.trans (h.bar (by exact id)) <| h.trans (awaitVerify_closed h side _) <|
      h.trans (examineFailed_closed h side _) (h.captureBarFailed side _)

theorem endExchange_closed (s : State) : R s (endExchange s) := h.parts (endExchange_changes s) (by decide)

theorem lampPollEnds_closed (w : Half) (s : State) : R s (lampPollEnds w s) := by
  unfold lampPollEnds
  split
  · exact rel_ite (fun _ => h.trans (endExchange_closed h s) (examineFailed_closed h _ _)) fun _ =>
      h.trans (endExchange_closed h s) (pollReply_closed h _ w _)
  all_goals exact h.refl s

theorem lampLoadEnds_closed (w : Half) (s : State) : R s (lampLoadEnds w s) := by
  unfold lampLoadEnds
  split
  · exact rel_ite (fun _ => h.trans (h.bar (by exact id)) <|
      h.trans (endExchange_closed h _) (examineFailed_closed h _ _)) fun _ =>
      h.trans (endExchange_closed h s) (loadReply_closed h _ _ w _)
  all_goals exact h.refl s

/-! ## The position unit -/

theorem judgeSample_closed (hd : Head) (q : SampleRequest) (w : Half) (s : State) : R s (judgeSample hd q w s) := by
  have good : ∀ {u x}, u.badCount = 0 → u.goodCount = min 3 x → R s (setHead hd u s) := fun bad good =>
    h.head fun _ => ⟨bad ▸ Nat.zero_le _, good ▸ Nat.min_le_left _ _⟩
  have bad : ∀ {u x}, u.badCount = min 255 x → u.goodCount = 0 → R s (setHead hd u s) := fun bad good =>
    h.head fun _ => ⟨bad ▸ Nat.min_le_left _ _, good ▸ Nat.zero_le _⟩
  unfold judgeSample
  split
  · refine rel_ite (fun _ => rel_ite (fun _ => ?_) fun _ => good rfl rfl) fun _ =>
      rel_ite (fun _ => ?_) fun _ => good rfl rfl
    all_goals exact h.trans (good rfl rfl) (h.hand _ _)
  · refine rel_ite (fun _ => rel_ite (fun _ => ?_) fun _ => ?_) fun _ => bad rfl rfl
    · exact h.trans (bad rfl rfl) (h.trans (markSingleHead_closed h.toFrameClosed _) (latchWithEvent_closed h.toBaseClosed _ _ _ _ _))
    · exact h.trans (bad rfl rfl) (latch_closed h.toBaseClosed _ _ _ _ _)

theorem encoderReply_closed (w : Half) (sw : Switches) (s : State) : R s (encoderReply w sw s) := by
  have judged : ∀ hd q x, R x (sampleReply hd q w sw x) := fun hd q x =>
    h.trans (judgeSample_closed h hd q w x) <| h.trans (h.parts (updateFused_changes _) (by decide)) <|
      h.trans (h.checkSplit hd _ _ _) (h.homingHeads sw _)
  unfold encoderReply
  split
  · exact rel_ite (fun _ => endExchange_closed h s) fun _ => h.trans (endExchange_closed h s) (judged _ _ _)
  all_goals exact h.refl s

end

end Sys2Proof.Machine
end

section
/-! SUPPORT. Relations that every operation keeps, continued: tickets, the settings unit, the through-path, and the whole
step. -/
namespace Sys2Proof.Machine

/-- What the settings unit is once LOADING has ended (R176, R187): in service, or in the LOADING of a RESTART. -/
structure ServiceReached (u : SettingsUnit) : Prop where
  working : u.working.isSome
  startup : u.startup ≠ .resetHeld ∧ u.startup ≠ .powerSettling
  loading : u.loading.isSome → ∃ r, u.restart = some r ∧ r.candidate = none
  left : ∀ r, u.restart = some r → r.leftFrom ≠ .resetHeld ∧ r.leftFrom ≠ .powerSettling

/-- ServiceReached is a matter of the working settings, the start-up state, LOADING and the RESTART under way. -/
theorem ServiceReached.kept {u v : SettingsUnit} (working : v.working = u.working) (startup : v.startup = u.startup)
    (loading : v.loading = u.loading) (restart : v.restart = u.restart) : ServiceReached u → ServiceReached v := fun serving =>
  ⟨working ▸ serving.working, startup ▸ serving.startup, by rw [loading, restart]; exact serving.loading,
    by rw [restart]; exact serving.left⟩

/-- The settings unit as it enters service. -/
theorem ServiceReached.entered {u : SettingsUnit} (working : u.working.isSome) (startup : u.startup = .ready ∨ u.startup = .bare)
    (loading : u.loading = none) (left : ∀ r, u.restart = some r → r.leftFrom ≠ .resetHeld ∧ r.leftFrom ≠ .powerSettling) :
    ServiceReached u :=
  ⟨working, by rcases startup with h | h <;> simp [h], by simp [loading], left⟩

theorem reachedState_serves (w : Settings) : reachedState w = .ready ∨ reachedState w = .bare := by
  unfold reachedState
  split
  · exact .inr rfl
  · exact .inl rfl

/-- A relation that the ticket unit's, the return writer's and the through-path's own operations keep. -/
structure MachineClosed (R : State → State → Prop) : Prop extends UnitClosed R where
  request : ∀ {e s}, isTicketRead e = false → R s (placeInternal e s)
  guards : ∀ {l s}, l.length = s.frames.guards.length → (l.countP fun g => g.isSome) ≤ guardsInUse s →
    R s { s with frames := { s.frames with guards := l } }
  tickets : ∀ {q s}, q.outstanding = s.tickets.outstanding → q.queue.length ≤ s.tickets.queue.length →
    R s { s with tickets := q }
  moved : ∀ {r rest s}, s.ret.queue = r :: rest →
    R s (payOverrun (placeReturn r { s with ret := { s.ret with queue := rest } }))
  foreign : ∀ s, R s { s with path := { s.path with foreignWrites := min 65535 (s.path.foreignWrites + 1) } }
  accept : ∀ {s}, s.path.upstream.length < 4 → ∀ t,
    R s { s with path := { s.path with upstream := s.path.upstream ++ [t] } }
  leaveUp : ∀ {s t}, arbiter s = some (.upstream t) → R s (leaveUpstream s)
  leaveIn : ∀ {s e}, arbiter s = some (.internal e) → isTicketRead e = false → R s (leaveInternal s)
  takeRead : ∀ {s e q}, arbiter s = some (.internal e) → isTicketRead e = true →
    q.outstanding = s.tickets.outstanding - 1 → q.queue.length ≤ s.tickets.queue.length + 1 →
    R s { leaveInternal s with tickets := q }
  fetch : ∀ s, R s (issueFetch s)
  restart : ∀ change c s, R s (restartBlocks change c s)
  write : ∀ a ws s, R s (portWrite a ws s)
  settings : ∀ {u s}, (ServiceReached s.settings → ServiceReached u) → R s (setSettings u s)

/-- What a relation makes of the homing that begins where the LOADING of a start-up ends. -/
def HomingAllowed (R : State → State → Prop) (s : State) : Prop :=
  s.settings.loading.isSome → s.settings.restart = none → ∀ x, x.seq = s.seq → R x (enterHoming x)

theorem CaptureClosed.homing {R : State → State → Prop} (h : CaptureClosed R) (s : State) : HomingAllowed R s :=
  fun _ _ x _ => enterHoming_closed h.turn x

/-- What a relation makes of the work on the volume table that command `i` may do. -/
structure TableWork (i : Instr) (R : State → State → Prop) : Prop where
  opened : i = .openVolume → ∀ {slot v s}, freeSlot s = some slot → duplicateOf s v.shelfMark = none →
    v.doseUsed = 0 → v.exceptions = [] → R s (takeEntry slot v s)
  activated : ∀ {a s}, (∀ slot, a = some slot → (volumeAt s slot).isSome) → R s (setActive a s)
  freed : i = .close → ∀ slot s, R s (freeEntry slot s)

/-- The next of a chain of checks has passed. -/
theorem ite_error_eq_ok {ε α : Type} {c : Prop} [Decidable c] {e : ε} {x : Except ε α} {v : α} :
    (if c then .error e else x) = .ok v ↔ ¬ c ∧ x = .ok v := by
  split <;> simp [*]

/-- R12, R13: a volume set up from an OPEN has no dose and no exceptions. -/
theorem openFields_unused {m : MechSettings} {now : Word} {t : Ticket} {v : Volume} (ok : openFields m now t = .ok v) :
    v.doseUsed = 0 ∧ v.exceptions = [] := by
  unfold openFields at ok
  split at ok
  · cases ok
  · simp only [ite_error_eq_ok, Except.ok.injEq] at ok
    obtain ⟨-, -, -, -, -, -, -, rfl⟩ := ok
    exact ⟨rfl, rfl⟩

/-- The table's work is nothing to a relation that lets the volumes be. -/
theorem TableWork.of_changes {R : State → State → Prop} (table : ∀ {s t}, Changes [.volumes] s t → R s t) (i : Instr) :
    TableWork i R where
  opened _ _ _ _ _ _ _ _ := table (takeEntry_changes _ _ _)
  activated _ := table (setActive_changes _ _)
  freed _ _ _ := table (freeEntry_changes _ _)

section
variable {R : State → State → Prop} (h : MachineClosed R)
include h

/-! ## Tickets -/

theorem popHead_closed (s : State) : R s (popHead s) := h.tickets rfl (by simp)

theorem dropBarrier_closed (s : State) : R s (dropBarrier s) := h.tickets rfl (Nat.le_refl _)

theorem dropBarrierFor_closed (k : Nat) (s : State) : R s (dropBarrierFor k s) :=
  rel_ite (fun _ => dropBarrier_closed h s) fun _ => h.refl s

theorem clearBadHeads_closed (n : Nat) (s : State) : R s (clearBadHeads n s) := by
  induction n generalizing s with
  | zero => exact h.refl s
  | succ n ih =>
    unfold clearBadHeads
    split
    · exact h.refl s
    · split
      · exact h.trans (popHead_closed h s) (h.trans (h.hand _ _) (ih _))
      · split
        · exact h.trans (popHead_closed h s) (h.trans (h.hand _ _) (ih _))
        · exact h.refl s
      · exact h.refl s

theorem completeHead_closed (t : Ticket) (o : OutcomeCode) (slot d : Nat) (s : State) :
    R s (completeHead t o slot d s) :=
  h.trans (popHead_closed h s) <| h.trans (h.hand _ _) <|
    h.trans (dropBarrierFor_closed h _ _) (clearBadHeads_closed h _ _)

theorem startHead_closed (s : State) : R s (startHead s) :=
  h.trans (popHead_closed h s) (clearBadHeads_closed h _ _)

theorem examine_closed (k : Kind) {own : Ticket → State} {s : State} (hown : ∀ t, R s (own t)) :
    R s (examine k s own) := by
  unfold examine
  split
  · exact h.refl s
  · refine rel_ite (fun _ => ?_) fun _ => h.refl s
    split
    · exact completeHead_closed h _ _ _ _ s
    · exact rel_ite (fun _ => completeHead_closed h _ _ _ _ s) fun _ => hown _

theorem flushQueue_closed (s : State) : R s (flushQueue s) :=
  h.trans (h.tickets (q := { s.tickets with queue := [] }) rfl (Nat.zero_le _)) <|
    h.foldl (fun _ _ => h.trans (h.hand _ _) (dropBarrierFor_closed h _ _)) _ _

theorem signalHalt_closed (s : State) : R s (signalHalt s) :=
  h.trans (h.haltSequencer s) (h.haltCapture _)

theorem haltAtFetch_closed (tag : Half) (s : State) : R s (haltAtFetch tag s) :=
  h.trans (signalHalt_closed h s) (h.trans (flushQueue_closed h _) (h.hand _ _))

/-- The arrival of a ticket, its read having been served. -/
theorem arrive_closed {s : State} {e : InternalEntry} {i : Half} (chosen : arbiter s = some (.internal e))
    (read : e.purpose = .ticketRead i) (bytes : List Byte) : R s (arrive i bytes (serveInternal e s)) := by
  have ticket : isTicketRead e = true := by simp [isTicketRead, read]
  have kept : (serveInternal e s).tickets = s.tickets := (serveInternal_ticket e i s read).get .tickets (by decide)
  have served : ∀ q : TicketUnit, q.outstanding = s.tickets.outstanding - 1 →
      q.queue.length ≤ s.tickets.queue.length + 1 → R s { serveInternal e s with tickets := q } := by
    intro q outstanding queue
    refine h.trans (h.takeRead chosen ticket outstanding queue) (h.parts (ps := [.memoryPort]) ?_ (by decide))
    simp only [serveInternal, read]
    intro p hp
    cases p <;> simp_all [Part.same, portRead]
  simp only [arrive, kept]
  refine rel_ite (fun _ => served _ rfl (Nat.le_succ _)) fun _ => ?_
  refine rel_ite (fun _ => h.trans (served _ (by exact rfl) (by exact Nat.le_succ _)) (haltAtFetch_closed h _ _)) fun _ => ?_
  refine h.trans ?_ (clearBadHeads_closed h _ _)
  split
  · exact served _ rfl (by simp)
  · exact served _ rfl (by simp)

/-! ## Volume tickets -/

theorem grantSlots_closed (n : Nat) (s : State) : R s (grantSlots n s) := h.parts (grantSlots_changes n s) (by decide)

theorem manualTicket_closed (s : State) (t : Ticket) : R s (manualTicket s t) := by
  refine rel_ite (fun _ => completeHead_closed h _ _ _ _ s) fun _ => ?_
  split
  · exact completeHead_closed h _ _ _ _ s
  · rename_i slot v active
    have held : volumeAt s slot = some v := by
      unfold activeVolume at active
      split at active
      · cases active
      · obtain ⟨_, hv, same⟩ := Option.map_eq_some_iff.1 active
        cases same
        exact hv
    refine rel_ite (fun _ => completeHead_closed h _ _ _ _ s) fun _ =>
      rel_ite (fun _ => completeHead_closed h _ _ _ _ s) fun _ => rel_ite (fun _ => h.refl s) fun _ =>
      rel_ite (fun _ => ?_) fun _ => refuseSlots_closed h.toBaseClosed 1 s
    exact h.trans (grantSlots_closed h 1 s) <|
      h.trans (h.volume (s := grantSlots 1 s) held (by exact .of_eq rfl rfl rfl rfl rfl rfl)) <|
        h.trans (handAccount_closed h.toFrameClosed slot _ _) (completeHead_closed h t _ _ _ _)

theorem skipTicket_closed (s : State) (t : Ticket) : R s (skipTicket s t) := by
  have refused : ∀ o slot d, R s (completeHead t o slot d s) := fun o slot d => completeHead_closed h _ _ _ _ s
  refine rel_ite (fun _ => refused _ _ _) fun _ => rel_ite (fun _ => refused _ _ _) fun _ => ?_
  split
  · exact refused _ _ _
  · split
    · exact refused _ _ _
    · refine rel_ite (fun _ => refused _ _ _) fun _ => rel_ite (fun _ => ?_) fun _ =>
        refuseSlots_closed h.toBaseClosed 1 s
      exact h.trans (grantSlots_closed h 1 s) <|
        h.trans (h.volume (s := grantSlots 1 s) (by assumption) (offerAll_evolves _ _)) <|
          h.trans (handAccount_closed h.toFrameClosed _ _ _) (completeHead_closed h t _ _ _ _)

theorem lightTicket_closed (s : State) (t : Ticket) : R s (lightTicket s t) := by
  unfold lightTicket
  split
  · exact completeHead_closed h _ _ _ _ s
  · split
    · exact completeHead_closed h _ _ _ _ s
    · rename_i slot v active
      have held : volumeAt s slot = some v := by
        unfold activeVolume at active
        split at active
        · cases active
        · obtain ⟨_, hv, same⟩ := Option.map_eq_some_iff.1 active
          cases same
          exact hv
      exact h.trans (h.volume held (by exact .of_eq rfl rfl rfl rfl rfl rfl)) (completeHead_closed h t _ _ _ _)

/-- The tickets that work the volume table, when a change of the table is no matter. -/
theorem openTicket_closed (table : TableWork .openVolume R) (s : State) (t : Ticket) : R s (openTicket s t) := by
  unfold openTicket
  split
  · exact completeHead_closed h _ _ _ _ s
  · rename_i v fields
    split
    · exact completeHead_closed h _ _ _ _ s
    · rename_i unheld
      split
      · exact completeHead_closed h _ _ _ _ s
      · rename_i slot free
        obtain ⟨dose, exceptions⟩ := openFields_unused fields
        refine rel_ite (fun _ => ?_) fun _ => refuseSlots_closed h.toBaseClosed 1 s
        exact h.trans (grantSlots_closed h 1 s) <|
          h.trans (table.opened (s := grantSlots 1 s) rfl free unheld dose exceptions) <|
          h.trans (handAccount_closed h.toFrameClosed _ _ _) (completeHead_closed h _ _ _ _ _)

theorem selectTicket_closed (table : TableWork .select R) (s : State) (t : Ticket) : R s (selectTicket s t) := by
  refine rel_ite (fun _ => completeHead_closed h _ _ _ _ s) fun _ => ?_
  split
  · exact completeHead_closed h _ _ _ _ s
  · rename_i held
    refine rel_ite (fun _ => completeHead_closed h _ _ _ _ s) fun _ => rel_ite (fun _ => h.refl s) fun _ =>
      h.trans (table.activated ?_) (completeHead_closed h _ _ _ _ _)
    rintro slot ⟨⟩
    rw [held]
    rfl

theorem parkTicket_closed (table : TableWork .park R) (s : State) (t : Ticket) : R s (parkTicket s t) := by
  unfold parkTicket
  split
  · exact completeHead_closed h _ _ _ _ s
  · exact rel_ite (fun _ => h.refl s) fun _ =>
      h.trans (table.activated (by simp)) (completeHead_closed h _ _ _ _ _)

theorem handExceptions_closed (slot n i : Nat) (es : List ExceptionEntry) (s : State) :
    R s (handExceptions slot n i es s) := by
  induction es generalizing i s with
  | nil => exact h.refl s
  | cons e es ih => exact h.trans (handAccount_closed h.toFrameClosed _ _ _) (ih _ _)

theorem handClosed_closed (slot n : Nat) (s : State) : R s (handClosed slot n s) := by
  unfold handClosed
  split
  · exact h.refl s
  · exact handAccount_closed h.toFrameClosed _ _ s

theorem closeTicket_closed (table : TableWork .close R) (s : State) (t : Ticket) : R s (closeTicket s t) := by
  refine rel_ite (fun _ => completeHead_closed h _ _ _ _ s) fun _ => ?_
  split
  · exact completeHead_closed h _ _ _ _ s
  · refine rel_ite (fun _ => h.refl s) fun _ => rel_ite (fun _ => ?_) fun _ => refuseSlots_closed h.toBaseClosed _ s
    exact h.trans (grantSlots_closed h _ s) <| h.trans (handExceptions_closed h _ _ _ _ _) <|
      h.trans (handClosed_closed h _ _ _) <| h.trans (table.freed rfl _ _) (completeHead_closed h _ _ _ _ _)

/-! ## Tickets that work the cradle -/

omit h in
theorem arm_idle_of_not_turnHolds {s : State} (free : ¬ turnHolds s = true) : s.seq.arm = .idle := by
  simp only [turnHolds, Bool.or_eq_true, not_or] at free
  simpa using free.1.1.1

omit h in
theorem startHead_idle {s : State} (idle : s.seq.arm = .idle) : (startHead s).seq.arm = .idle := by
  rw [(startHead_changes s).get .seq (by decide)]
  exact idle

theorem turnTicket_closed (sw : Switches) (s : State) (t : Ticket) : R s (turnTicket sw s t) := by
  unfold turnTicket
  split
  · exact completeHead_closed h _ _ _ _ s
  · split
    · exact completeHead_closed h _ _ _ _ s
    · exact rel_ite (fun _ => h.refl s) fun free =>
        h.trans (startHead_closed h s) (h.startTurn (startHead_idle (arm_idle_of_not_turnHolds free)) _ sw)

theorem captureTicket_closed (s : State) (t : Ticket) : R s (captureTicket s t) := by
  unfold captureTicket
  split
  · exact completeHead_closed h _ _ _ _ s
  · split
    · exact completeHead_closed h _ _ _ _ s
    · refine rel_ite (fun _ => h.refl s) fun free => h.trans (startHead_closed h s) (h.hold ?_ _)
      simp only [captureHolds, Bool.or_eq_true, not_or] at free
      rw [captureFree, (startHead_changes s).get .capture (by decide)]
      simpa [captureFree] using free.1.1

theorem advanceTicket_closed (sw : Switches) (s : State) (t : Ticket) : R s (advanceTicket sw s t) := by
  unfold advanceTicket
  split
  · exact completeHead_closed h _ _ _ _ s
  · split
    · exact completeHead_closed h _ _ _ _ s
    · split
      · exact completeHead_closed h _ _ _ _ s
      · refine rel_ite (fun _ => h.refl s) fun free => ?_
        simp only [advanceHolds, Bool.or_eq_true, not_or] at free
        exact h.trans (startHead_closed h s) (h.startTurn (startHead_idle (arm_idle_of_not_turnHolds free.1)) _ sw)

theorem quietTicket_closed (s : State) (t : Ticket) : R s (quietTicket s t) := by
  have silenced : R s { s with ret := { s.ret with tone := .silent } } :=
    h.parts (ps := [.tone]) (fun p hp => by cases p <;> simp_all [Part.same]) (by decide)
  unfold quietTicket
  split
  · exact h.trans silenced (completeHead_closed h _ _ _ _ _)
  all_goals exact completeHead_closed h _ _ _ _ s

theorem clearTicket_closed (s : State) (t : Ticket) : R s (clearTicket s t) :=
  h.trans (h.parts (ps := [.latched]) (t := { s with ret := { s.ret with latched := [] } })
    (fun p hp => by cases p <;> simp_all [Part.same]) (by decide)) (completeHead_closed h _ _ _ _ _)

/-! ## The settings unit -/

/-- Settings that change neither what is in force nor the course of LOADING. -/
theorem keepSettings_closed {u : SettingsUnit} {s : State} (working : u.working = s.settings.working)
    (startup : u.startup = s.settings.startup) (loading : u.loading = s.settings.loading)
    (restart : u.restart = s.settings.restart) : R s (setSettings u s) :=
  h.settings (ServiceReached.kept working startup loading restart)

theorem sendI2c_closed (l : List I2cTransfer) (s : State) : R s (sendI2c l s) :=
  keepSettings_closed h rfl rfl rfl rfl

theorem enterService_closed {st : Startup} {u : SettingsUnit} {s : State}
    (serving : ServiceReached s.settings → ServiceReached { u with startup := st, profileDue := after s.ms 100 }) :
    R s (enterService st (setSettings u s)) := by
  refine h.trans (h.settings serving) <| h.trans (h.bar (side := .v) (b := { s.lamps.v with pollDue := s.ms }) id) <|
    h.trans (h.bar (side := .r) (b := { s.lamps.r with pollDue := s.ms }) id) <|
    h.parts (ps := [.rounds, .nextRound, .buttons])
      (Changes.trans ?_ ((beginSampling_changes _).mono (by decide))) (by decide)
  intro p hp
  cases p <;> simp_all [Part.same, PerSide.set, setBar]

theorem latchLoading_closed (c : Candidate) (s : State) : R s (latchLoading c s) :=
  h.parts (latchLoading_changes c s) (by decide)

theorem homeIfReady_closed {s : State} (home : R s (enterHoming s)) : R s (homeIfReady s) :=
  rel_ite (fun _ => home) fun _ => h.refl s

theorem endLoading_closed (c : Candidate) {s : State} (home : ∀ x, x.seq = s.seq → R x (enterHoming x)) :
    R s (endLoading c s) := by
  refine h.trans (enterService_closed h ?_) <|
    h.trans (latchLoading_closed h c _) <| h.trans (homeIfReady_closed h (home _ ?_)) (h.hand _ _)
  · exact fun serving => .entered rfl (reachedState_serves _) rfl serving.left
  rw [(latchLoading_changes c _).get .seq (by decide), (enterService_changes _ _).get .seq (by decide)]
  rfl

/-- LOADING goes on. -/
theorem reloading_closed {s : State} (loading : s.settings.loading.isSome) {l : Loading} :
    R s (setSettings { s.settings with loading := some l } s) :=
  h.settings fun serving => ⟨serving.working, serving.startup, fun _ => serving.loading loading, serving.left⟩

theorem sectionDone_closed (l : Loading) (bytes : Option (List Byte)) {s : State} (loading : s.settings.loading.isSome)
    (home : s.settings.restart = none → ∀ x, x.seq = s.seq → R x (enterHoming x)) : R s (sectionDone l bytes s) := by
  unfold sectionDone
  split
  · exact h.trans (reloading_closed h loading) (sendI2c_closed h _ _)
  · unfold sectionsRead
    split
    · exact endLoading_closed h _ (home ‹_›)
    · rename_i r restart
      refine h.settings fun serving => ⟨serving.working, serving.startup, nofun, ?_⟩
      rintro _ ⟨⟩
      exact serving.left r restart

theorem attemptCompletes_closed (reply : Option (List Byte)) {s : State} (home : HomingAllowed R s) :
    R s (attemptCompletes reply s) := by
  unfold attemptCompletes
  split
  · exact h.refl s
  · rename_i l loading
    replace home := home (by rw [loading]; rfl)
    refine rel_ite (fun _ => ?_) fun _ => h.refl s
    unfold readAttempt
    split
    · exact sectionDone_closed h _ _ (by rw [loading]; rfl) home
    · exact rel_ite (fun _ => reloading_closed h (by rw [loading]; rfl)) fun _ =>
        sectionDone_closed h _ _ (by rw [loading]; rfl) home

theorem placeImageReads_closed (a n : Nat) (s : State) : R s (placeImageReads a n s) := by
  induction n generalizing s with
  | zero => exact h.refl s
  | succ n ih => exact h.trans (h.request rfl) (ih _)

theorem configureTicket_closed (s : State) (t : Ticket) : R s (configureTicket s t) :=
  rel_ite (fun _ => completeHead_closed h _ _ _ _ s) fun _ => rel_ite (fun _ => h.refl s) fun _ =>
    h.trans (startHead_closed h s) <| h.trans (by exact keepSettings_closed h rfl rfl rfl rfl) (placeImageReads_closed h _ _ _)

theorem endConfigure_closed (o : OutcomeCode) (d : Nat) (s : State) : R s (endConfigure o d s) := by
  unfold endConfigure
  split
  · exact h.refl s
  · exact h.trans (by exact keepSettings_closed h rfl rfl rfl rfl) (h.hand _ _)

theorem storeFrom_closed (c : Configure) (o : Nat) (s : State) : R s (storeFrom c o s) :=
  rel_ite (fun _ => h.trans (by exact keepSettings_closed h rfl rfl rfl rfl) (sendI2c_closed h _ _)) fun _ =>
    h.trans (by exact keepSettings_closed h rfl rfl rfl rfl) (sendI2c_closed h _ _)

theorem deliverImage_closed (bs : List Byte) (s : State) : R s (deliverImage bs s) := by
  unfold deliverImage
  split
  · exact keepSettings_closed h rfl rfl rfl rfl
  · exact h.refl s

theorem byteAcknowledged_closed (s : State) : R s (byteAcknowledged s) := by
  unfold byteAcknowledged
  split
  · exact h.refl s
  · split
    · exact rel_ite (fun _ => storeFrom_closed h _ _ s) fun _ => h.refl s
    all_goals exact h.refl s

theorem retryWaitEnds_closed (s : State) : R s (retryWaitEnds s) := by
  unfold retryWaitEnds
  split
  · exact h.refl s
  · rename_i loading
    split
    · exact h.refl s
    · exact rel_ite (fun _ => h.trans (reloading_closed h (by rw [loading]; rfl)) (sendI2c_closed h _ _)) fun _ =>
        h.refl s

theorem releaseReset_closed (powerOn : Bool) (s : State) : R s (releaseReset powerOn s) :=
  rel_ite (fun held => h.trans
    (h.settings
      (u := { s.settings with
        startup := .powerSettling, cause := if powerOn then .powerOn else .resetn, settleUntil := 20 })
      fun serving => absurd held serving.startup.1)
    (h.parts (ps := [.ms]) (fun p hp => by cases p <;> simp_all [Part.same]) (by decide))) fun _ => h.refl s

theorem powerSettled_closed (profile : Nat) (s : State) : R s (powerSettled profile s) :=
  rel_ite (fun settling => h.trans (h.settings fun serving => absurd settling.1 serving.startup.2)
    (sendI2c_closed h _ _)) fun _ => h.refl s

theorem imageRead_closed (s : State) : R s (imageRead s) := by
  unfold imageRead
  split
  · exact h.refl s
  · split
    · split
      · exact endConfigure_closed h _ _ s
      · exact h.trans (by exact keepSettings_closed h rfl rfl rfl rfl)
          (rel_ite (fun _ => storeFrom_closed h _ _ _) fun _ => endConfigure_closed h _ _ _)
    all_goals exact h.refl s

theorem byteTimedOut_closed (s : State) : R s (byteTimedOut s) := by
  unfold byteTimedOut
  split
  · exact h.refl s
  · split
    · exact rel_ite (fun _ => endConfigure_closed h _ _ s) fun _ => h.refl s
    all_goals exact h.refl s

theorem readbackCompletes_closed (reply : Option (List Byte)) (s : State) : R s (readbackCompletes reply s) := by
  unfold readbackCompletes
  split
  · exact h.refl s
  · split
    · split
      · exact endConfigure_closed h _ _ s
      · split
        · exact endConfigure_closed h _ _ s
        · exact endConfigure_closed h _ _ s
    all_goals exact h.refl s

theorem compareProfile_closed (profile : Nat) (s : State) : R s (compareProfile profile s) :=
  h.trans (by exact keepSettings_closed h rfl rfl rfl rfl) <| rel_ite (fun _ => h.refl _) fun _ =>
    h.trans (by exact keepSettings_closed h rfl rfl rfl rfl) (latch_closed h.toBaseClosed _ _ _ _ _)

/-! ## RESTART -/

theorem takeEffect_closed (tag : Half) (c : Candidate) (s : State) : R s (takeEffect tag c s) := by
  have entered : ∀ x : State, x.settings.restart = none → x.settings.loading = none →
      R x (enterService (reachedState c.settings) x) := fun x restart loading =>
    enterService_closed h (u := x.settings) fun serving =>
      .entered serving.working (reachedState_serves _) loading fun r some => by simp [restart] at some
  refine h.trans (h.restart _ c s) <| h.trans (entered _ rfl rfl) <| h.trans (latchLoading_closed h c _) <|
    h.trans (homeIfReady_closed h (h.enterHoming ?_)) <| h.trans (h.hand _ _) (h.hand _ _)
  rw [(latchLoading_changes c _).get .seq (by decide), (enterService_changes _ _).get .seq (by decide)]
  rfl

theorem restartTicket_closed (profile : Nat) (s : State) (t : Ticket) : R s (restartTicket profile s t) := by
  refine rel_ite (fun _ => completeHead_closed h _ _ _ _ s) fun _ => rel_ite (fun _ => h.refl s) fun _ =>
    rel_ite (fun _ => ?_) fun _ => ?_
  · refine h.trans (startHead_closed h s) <| h.trans (h.settings fun serving => ?_) <| h.trans (sendI2c_closed h _ _)
      (h.parts (discardRequests_changes _) (by decide))
    refine ⟨serving.working, ⟨nofun, nofun⟩, fun _ => ⟨_, rfl, rfl⟩, ?_⟩
    rintro _ ⟨⟩
    exact serving.startup
  · unfold restartHeld
    split
    · exact h.refl s
    · exact rel_ite (fun _ => completeHead_closed h _ _ _ _ s) fun _ =>
        h.trans (popHead_closed h s) (takeEffect_closed h _ _ _)

theorem reloadEnds_closed (s : State) : R s (reloadEnds s) := by
  unfold reloadEnds
  split
  · exact h.refl s
  · split
    · exact h.refl s
    · rename_i r restart _ c candidate
      refine rel_ite (fun _ => ?_) fun _ => takeEffect_closed h _ _ s
      refine h.trans (enterService_closed h fun serving => ?_) <| h.trans (dropBarrier_closed h _) (h.hand _ _)
      refine ⟨serving.working, serving.left r restart, fun loading => ?_, nofun⟩
      obtain ⟨r', restart', none⟩ := serving.loading loading
      cases restart.symm.trans restart'
      rw [candidate] at none
      cases none

/-! ## The through-path -/

theorem portRead_closed (a : Word) (n : Nat) (s : State) : R s (portRead a n s) :=
  h.parts (portRead_changes a n s) (by decide)

theorem mapGuards_closed {f : Option Guard → Option Guard} (hf : ∀ g, (f g).isSome = true → g.isSome = true)
    (s : State) : R s { s with frames := { s.frames with guards := s.frames.guards.map f } } :=
  h.guards (by simp) (by rw [List.countP_map]; exact List.countP_mono_left fun g _ => hf g)

theorem guardWord_closed (i : Nat) (a : Word) (s : State) : R s (guardWord i a s) := by
  unfold guardWord
  split
  · exact h.refl s
  · rename_i g hg
    refine rel_ite (fun _ => h.refl s) fun _ => h.trans (h.guards (by simp) ?_) (h.hand _ _)
    obtain ⟨hi, hget⟩ := List.getElem?_eq_some_iff.1 (Option.join_eq_some_iff.1 hg)
    rw [List.countP_set hi, hget]
    exact Nat.le_of_eq (Nat.sub_add_cancel (List.countP_pos_iff.2 ⟨_, List.getElem_mem hi, by simp [hget]⟩))

theorem takePost_closed (w : BusWord) (s : State) : R s (takePost w s) := by
  refine rel_ite (fun _ => rel_ite (fun _ => h.refl s) fun _ => ?_) fun _ => latch_closed h.toBaseClosed _ _ _ _ s
  split
  · exact h.refl s
  · exact rel_ite (fun _ => h.tickets rfl (Nat.le_refl _)) fun _ => latch_closed h.toBaseClosed _ _ _ _ s

theorem reportWord_closed (a : Word) (w : BusWord) (p : Place) (s : State) : R s (reportWord a w p s) := by
  cases p
  case ownRegion =>
    exact rel_ite (fun _ => h.refl s) fun _ => h.trans (h.foreign s) (latch_closed h.toBaseClosed _ _ _ _ _)
  case guarded i => exact rel_ite (fun _ => h.refl s) fun _ => guardWord_closed h i a s
  case postWord => exact takePost_closed h w s
  case filling i => exact frameWord_closed h.toFrameClosed i a w s
  case plain => exact h.refl s

theorem serveWrite_closed {s : State} {t : Transaction} (chosen : arbiter s = some (.upstream t)) (a : Word)
    (ws : List BusWord) : R s (serveWrite a ws s) :=
  h.trans (h.leaveUp chosen) <| h.trans (h.write _ _ _) <|
    h.foldl (fun x (y : Word × BusWord) => reportWord_closed h y.1 y.2 _ x) _ _

theorem refillReturn_closed (n : Nat) (s : State) : R s (refillReturn n s) := by
  induction n generalizing s with
  | zero => exact h.refl s
  | succ n ih =>
    unfold refillReturn
    split
    · exact h.refl s
    · exact rel_ite (fun _ => h.trans (h.moved ‹_›) (ih _)) fun _ => h.refl s

omit h in
/-- The consumer index and the read marks alone move. -/
theorem advanceReturn_changes_marks (n : Nat) (s : State) :
    Changes [.returnRing, .returnConsumer] s (advanceReturn n s) := by
  induction n generalizing s with
  | zero => exact .refl _ s
  | succ n ih =>
    unfold advanceReturn
    refine Changes.ite (Changes.trans ?_ (ih _)) (.refl _ _)
    intro p hp
    cases p <;> simp_all [Part.same]

theorem reportClosing_closed (c : Closing) (s : State) : R s (reportClosing c s) := by
  cases c
  case account k =>
    refine rel_ite (fun _ => ?_) fun _ => h.refl s
    exact h.trans (h.parts (ps := [.account])
        (t := { s with account := { s.account with readMarks := mark s.account.readMarks k } })
        (fun p hp => by cases p <;> simp_all [Part.same]) (by decide)) <|
      h.trans (mapGuards_closed h (fun g => by cases g <;> simp) _) (h.parts (advanceAccount_changes _ _) (by decide))
  case ret k =>
    refine rel_ite (fun _ => ?_) fun _ => h.refl s
    exact h.trans (h.parts (ps := [.returnRing])
        (t := { s with ret := { s.ret with readMarks := mark s.ret.readMarks k } })
        (fun p hp => by cases p <;> simp_all [Part.same]) (by decide)) <|
      h.trans (h.parts (advanceReturn_changes_marks _ _) (by decide)) (refillReturn_closed h _ _)

theorem serveRead_closed {s : State} {t : Transaction} (chosen : arbiter s = some (.upstream t)) (a : Word) (n : Nat) :
    R s (serveRead a n s) :=
  h.trans (h.leaveUp chosen) <| h.trans (portRead_closed h a n _) <|
    h.trans (h.parts (ps := [.hostData]) (t := { portRead a n (leaveUpstream s) with
        path := { (portRead a n (leaveUpstream s)).path with
          hostData := (portRead a n (leaveUpstream s)).path.hostData ++ [readWords s.memory a n] } })
      (fun p hp => by cases p <;> simp_all [Part.same]) (by decide)) <|
    h.foldl (fun x c => reportClosing_closed h c x) _ _

theorem serveInternal_closed {s : State} {e : InternalEntry} (chosen : arbiter s = some (.internal e))
    (other : isTicketRead e = false) : R s (serveInternal e s) := by
  have left := h.leaveIn chosen other
  unfold serveInternal
  split
  · exact h.trans left (portRead_closed h _ _ _)
  · exact h.trans left (portRead_closed h _ _ _)
  all_goals exact h.trans left (h.write _ _ _)

theorem serveSilent_closed {s t : State} (served : serveSilent s = some t) : R s t := by
  unfold serveSilent at served
  split at served
  · split at served
    · rw [← Option.some.inj served]
      exact serveRead_closed h ‹_› _ _
    · cases served
  · rename_i e chosen
    split at served <;> try cases served
    rename_i part image
    split at served
    · rw [← Option.some.inj served]
      exact h.trans (serveInternal_closed h chosen (by simp [isTicketRead, image])) (deliverImage_closed h _ _)
    · cases served
  · cases served
  · cases served

theorem pump_closed (s : State) : R s (pump s) := by
  unfold pump
  generalize waitingTransactions s = n
  induction n generalizing s with
  | zero => exact h.refl s
  | succ n ih =>
    unfold pumpBy
    split
    · exact h.refl s
    · exact h.trans (serveSilent_closed h ‹_›) (ih _)

theorem placeStatus_closed (s : State) : R s (placeStatus s) := by
  unfold placeStatus
  split
  · exact h.refl s
  · exact h.trans (h.parts (ps := [.statusMarks]) (fun p hp => by cases p <;> simp_all [Part.same]) (by decide))
      (h.place rfl)

/-! ## The services of the through-path -/

theorem upstreamWriteServed_closed (s : State) : R s (upstreamWriteServed s) := by
  unfold upstreamWriteServed
  split
  · exact h.trans (serveWrite_closed h ‹_› _ _) (pump_closed h _)
  all_goals exact h.refl s

theorem postWordServed_closed (s : State) : R s (postWordServed s) := by
  unfold postWordServed
  split
  · exact rel_ite (fun _ => h.trans (serveWrite_closed h ‹_› _ _) (pump_closed h _)) fun _ => h.refl s
  all_goals exact h.refl s

theorem accountClosingServed_closed (s : State) : R s (accountClosingServed s) := by
  unfold accountClosingServed
  split
  · exact rel_ite (fun _ => h.trans (serveRead_closed h ‹_› _ _) (pump_closed h _)) fun _ => h.refl s
  all_goals exact h.refl s

theorem returnClosingServed_closed (s : State) : R s (returnClosingServed s) := by
  unfold returnClosingServed
  split
  · exact rel_ite (fun _ => h.trans (serveRead_closed h ‹_› _ _) (pump_closed h _)) fun _ => h.refl s
  all_goals exact h.refl s

theorem ticketArrives_closed (s : State) : R s (ticketArrives s) := by
  unfold ticketArrives
  split
  · split
    · exact h.trans (arrive_closed h ‹_› ‹_› _) (pump_closed h _)
    all_goals exact h.refl s
  all_goals exact h.refl s

theorem haltArrives_closed (s : State) : R s (haltArrives s) := by
  unfold haltArrives
  split
  · split
    · exact rel_ite (fun _ => h.trans (arrive_closed h ‹_› ‹_› _) (pump_closed h _)) fun _ => h.refl s
    all_goals exact h.refl s
  all_goals exact h.refl s

theorem accountWriteIsServed_closed (s : State) : R s (accountWriteIsServed s) := by
  unfold accountWriteIsServed
  split
  · split
    · rename_i e chosen _ i own
      exact h.trans (serveInternal_closed h chosen (by simp [isTicketRead, own])) <|
        h.trans (h.parts (accountPosted_changes _ _) (by decide)) (pump_closed h _)
    all_goals exact h.refl s
  all_goals exact h.refl s

theorem returnWriteIsServed_closed (s : State) : R s (returnWriteIsServed s) := by
  unfold returnWriteIsServed
  split
  · split
    · rename_i e chosen _ i own
      exact h.trans (serveInternal_closed h chosen (by simp [isTicketRead, own])) <|
        h.trans (h.parts (returnPosted_changes _ _) (by decide)) (pump_closed h _)
    all_goals exact h.refl s
  all_goals exact h.refl s

theorem statusWriteIsServed_closed (s : State) : R s (statusWriteIsServed s) := by
  have served : ∀ x, R x (statusServed x) := fun x =>
    h.trans (h.parts (ps := [.statusMarks]) (t := { x with ret := { x.ret with statusWaiting := false } })
      (fun p hp => by cases p <;> simp_all [Part.same]) (by decide)) <|
      rel_ite (fun _ => placeStatus_closed h _) fun _ => h.refl _
  unfold statusWriteIsServed
  split
  · split
    · rename_i e chosen _ own
      exact h.trans (serveInternal_closed h chosen (by simp [isTicketRead, own])) <|
        h.trans (served _) (pump_closed h _)
    all_goals exact h.refl s
  all_goals exact h.refl s

theorem imageReadServed_closed (s : State) : R s (imageReadServed s) := by
  unfold imageReadServed
  split
  · split
    · rename_i e chosen _ part own
      exact rel_ite (fun _ => h.trans (serveInternal_closed h chosen (by simp [isTicketRead, own])) <|
        h.trans (deliverImage_closed h _ _) <| h.trans (imageRead_closed h _) (pump_closed h _)) fun _ => h.refl s
    all_goals exact h.refl s
  all_goals exact h.refl s

/-! ## The whole step -/

theorem stopPressed_closed (s : State) : R s (stopPressed s) :=
  h.trans (h.parts (ps := [.buttons]) (t := { s with stopLine := 0 })
    (fun p hp => by cases p <;> simp_all [Part.same]) (by decide)) <|
    h.trans (h.hand _ _) <| h.trans (signalHalt_closed h _) (flushQueue_closed h _)

theorem resumePressed_closed (sw : Switches) (s : State) : R s (resumePressed sw s) :=
  h.trans (h.parts (ps := [.buttons]) (t := { s with resumeLine := 0 })
    (fun p hp => by cases p <;> simp_all [Part.same]) (by decide)) <|
    h.trans (h.hand _ _) <| rel_ite (fun _ => h.resumeSequencer sw _) fun _ => h.refl _

/-- A relation that the operations keep is kept by every command but RESETN; those that work the volume table need that
a change of it is no matter. -/
theorem effect_closed {i : Instr} (hi : i ≠ .resetnAssert) (table : TableWork i R) {s : State}
    (home : HomingAllowed R s) : R s (effect i s) := by
  have rest : (∀ p ∈ partsOf i, p ∈ restParts) → R s (effect i s) := h.parts (effect_changes i s)
  cases i with
  | openVolume => exact examine_closed h _ (openTicket_closed h table s)
  | select => exact examine_closed h _ (selectTicket_closed h table s)
  | park => exact examine_closed h _ (parkTicket_closed h table s)
  | close => exact examine_closed h _ (closeTicket_closed h table s)
  | manual => exact examine_closed h _ (manualTicket_closed h s)
  | skip => exact examine_closed h _ (skipTicket_closed h s)
  | turn sw => exact examine_closed h _ (turnTicket_closed h sw s)
  | capture => exact examine_closed h _ (captureTicket_closed h s)
  | advance sw => exact examine_closed h _ (advanceTicket_closed h sw s)
  | light => exact examine_closed h _ (lightTicket_closed h s)
  | halt => exact haltArrives_closed h s
  | quiet => exact examine_closed h _ (quietTicket_closed h s)
  | clear => exact examine_closed h _ (clearTicket_closed h s)
  | configure => exact h.trans (examine_closed h _ (configureTicket_closed h s)) (pump_closed h _)
  | restart prof1 prof0 => exact examine_closed h _ (restartTicket_closed h _ s)
  | postWordWrite => exact postWordServed_closed h s
  | fetch => exact h.fetch s
  | ticketArrival => exact ticketArrives_closed h s
  | stopPress released => exact rel_ite (fun _ => stopPressed_closed h s) fun _ => h.refl s
  | resumePress released sw => exact rel_ite (fun _ => resumePressed_closed h sw s) fun _ => h.refl s
  | moveStep e sw => exact h.engineStep e sw s
  | gripTimer leaf multi sw =>
    exact rel_ite (fun ⟨gripping, expired⟩ => h.gripExpired gripping expired leaf multi sw) fun _ => h.refl s
  | gripReleaseWait => exact rel_ite (fun waiting => h.beginGrip waiting.1) fun _ => h.refl s
  | sweepLeafRead leaf sw => exact rel_ite (fun sweeping => h.leafRead sweeping.1 leaf sw) fun _ => h.refl s
  | releaseTimer sw => exact rel_ite (fun releasing => h.releaseExpired releasing.1 sw) fun _ => h.refl s
  | settleTimer => exact rel_ite (fun settling => h.settleExpired settling.1) fun _ => h.refl s
  | homingLimit => exact rel_ite (fun _ => h.enterFaulted _ s) fun _ => h.refl s
  | encoderSampleReply w sw => exact encoderReply_closed h.toUnitClosed w sw s
  | lampPollReply w => exact lampPollEnds_closed h.toUnitClosed w s
  | lampLoadReply w => exact lampLoadEnds_closed h.toUnitClosed w s
  | captureAcquisition => exact h.tryAcquire s
  | fireGate => exact h.gateExamined s
  | parkWaitExpiry => exact h.parkWaitEnds s
  | strobeRaise => exact h.strobeRaised s
  | strobeEnd => exact h.strobeElapsed s
  | strobeCut => exact h.strobeWatched s
  | upstreamTransaction t =>
    exact h.trans (rel_ite (fun _ => h.refl s) fun room => h.accept (by omega) t) (pump_closed h _)
  | upstreamWrite => exact upstreamWriteServed_closed h s
  | frameTimeout window => exact frameExpired_closed h.toFrameClosed window s
  | accountWriteServed => exact accountWriteIsServed_closed h s
  | accountClosingRead => exact accountClosingServed_closed h s
  | returnClosingRead => exact returnClosingServed_closed h s
  | returnWriteServed => exact returnWriteIsServed_closed h s
  | statusWriteServed => exact statusWriteIsServed_closed h s
  | statusPeriod => exact rel_ite (fun _ => placeStatus_closed h s) fun _ => h.refl s
  | resetnAssert => exact absurd rfl hi
  | eepromReadAttempt reply => exact attemptCompletes_closed h reply home
  | profileCheck prof1 prof0 => exact rel_ite (fun _ => compareProfile_closed h _ s) fun _ => h.refl s
  | configureImageRead => exact imageReadServed_closed h s
  | storeByteTimeout => exact byteTimedOut_closed h s
  | storeReadback reply => exact readbackCompletes_closed h reply s
  | restartTakeEffect => exact reloadEnds_closed h s
  | lampPollDue side =>
    exact rel_ite (fun _ => h.trans (h.bar (by exact id)) (h.parts (placeRoutinePoll_changes _ _) (by decide)))
      fun _ => h.refl s
  | resetnRelease powerOn => exact releaseReset_closed h powerOn s
  | powerSettlingEnd prof1 prof0 => exact powerSettled_closed h _ s
  | eepromRetryWait => exact retryWaitEnds_closed h s
  | storeByteAck => exact byteAcknowledged_closed h s
  | sampleRound | attendTonePeriod | chirpEnd => exact rest (by dsimp only [partsOf]; decide)

theorem settle_closed (before s : State) : R s (settle before s) := by
  refine h.trans (h.parts (roundEdge_changes before s) (by decide)) <|
    h.trans (h.parts (startExchange_changes _) (by decide)) ?_
  refine rel_ite (fun _ => rel_ite (fun _ => ?_) fun _ => placeStatus_closed h _) fun _ => h.refl _
  exact h.parts (ps := [.statusMarks]) (fun p hp => by cases p <;> simp_all [Part.same]) (by decide)

theorem exec_closed {i : Instr} (hi : i ≠ .resetnAssert) (table : TableWork i R) {s t : State}
    (home : HomingAllowed R s) (run : exec i s = .next t) : R s t := by
  rcases exec_next run with ⟨reset, -⟩ | ⟨-, rfl⟩
  · exact absurd reset hi
  · exact h.trans (effect_closed h hi table home) (settle_closed h s _)

theorem tick_closed (s : State) : R s (tick s) :=
  h.trans (pump_closed h s) <| h.trans (h.parts (countMs_changes _) (by decide)) <|
    h.trans (h.parts (roundsFallDue_changes _) (by decide)) (h.parts (ageButtons_changes _) (by decide))

/-- A relation that the operations keep is kept by every step, given what it makes of the volume table's work and of
RESETN. -/
theorem step_closed (table : ∀ i, TableWork i R) (home : ∀ s, HomingAllowed R s)
    (reset : ∀ s, R s (assertReset s)) {s t : State} (run : step s = .next t) : R s t := by
  rcases step_next run with ⟨-, rfl⟩ | ⟨i, rest, -, run⟩
  · exact tick_closed h s
  · refine h.trans (h.parts (ps := [.pending]) (t := { s with pending := rest })
      (fun p hp => by cases p <;> simp_all [Part.same]) (by decide)) ?_
    by_cases hi : i = .resetnAssert
    · subst hi
      rw [← Host.Outcome.next.inj run]
      exact reset _
    · exact exec_closed h hi (table i) (home _) run

end

end Sys2Proof.Machine
end

section
/-! SUPPORT. The laws of the volumes (O25, O26, O28, O30): relations that ask of the volume table alone. -/
namespace Sys2Proof.Machine

/-! ## Reading the volume table -/

theorem volumeAt_setVolume_same {s : State} {slot : Nat} {w : Option Volume} (hlt : slot < s.volumes.entries.length) :
    volumeAt (setVolume slot w s) slot = w := volumeAt_of_entries_set (s := s) hlt rfl

theorem volumeAt_setVolume_other {s : State} {slot other : Nat} (w : Option Volume) (ne : slot ≠ other) :
    volumeAt (setVolume slot w s) other = volumeAt s other := by
  simp [volumeAt, ne]

/-- What stands in an entry after one entry is written: what was written, or what stood there. -/
theorem volumeAt_setVolume_cases {s : State} {slot other : Nat} {w : Option Volume} {v : Volume}
    (hv : volumeAt (setVolume slot w s) other = some v) :
    slot = other ∧ w = some v ∨ slot ≠ other ∧ volumeAt s other = some v := by
  by_cases same : slot = other
  · subst same
    rw [volumeAt_setVolume_same (by simpa using lt_length_of_volumeAt hv)] at hv
    exact .inl ⟨rfl, hv⟩
  · rw [volumeAt_setVolume_other w same] at hv
    exact .inr ⟨same, hv⟩

theorem volumeAt_congr {s t : State} (same : t.volumes = s.volumes) (slot : Nat) : volumeAt t slot = volumeAt s slot := by
  rw [volumeAt, same, volumeAt]

theorem volumeAt_map {s t : State} {f : Volume → Volume}
    (entries : t.volumes.entries = s.volumes.entries.map fun e => e.map f) (slot : Nat) :
    volumeAt t slot = (volumeAt s slot).map f := by
  rw [volumeAt, entries, List.getElem?_map, volumeAt]
  rcases s.volumes.entries[slot]? with - | - | v <;> rfl

theorem freeSlot_spec {s : State} {slot : Nat} (free : freeSlot s = some slot) :
    slot < s.volumes.entries.length ∧ volumeAt s slot = none := by
  obtain ⟨hlt, empty, -⟩ := List.findIdx?_eq_some_iff_getElem.1 free
  exact ⟨hlt, by simpa [volumeAt, hlt] using empty⟩

/-- No entry holds the shelf mark of a volume that is not a duplicate. -/
theorem shelfMark_ne_of_not_duplicate {s : State} {name : List Byte} (unheld : duplicateOf s name = none) {slot : Nat}
    {v : Volume} (hv : volumeAt s slot = some v) : v.shelfMark ≠ name := by
  obtain ⟨hlt, held⟩ := volumeAt_eq_some_iff.1 hv
  have := List.findIdx?_eq_none_iff.1 unheld _ (held ▸ List.getElem_mem hlt)
  simpa using this

theorem volumeAt_takeEntry_same {s : State} {slot : Nat} {v : Volume} (free : freeSlot s = some slot) :
    volumeAt (takeEntry slot v s) slot = some v := by
  refine volumeAt_setVolume_same ?_
  split <;> exact (freeSlot_spec free).1

theorem volumeAt_takeEntry_other {s : State} {slot other : Nat} (v : Volume) (ne : slot ≠ other) :
    volumeAt (takeEntry slot v s) other = volumeAt s other := by
  refine (volumeAt_setVolume_other _ ne).trans ?_
  split <;> rfl

theorem volumeAt_takeEntry_cases {s : State} {slot other : Nat} {v w : Volume} (free : freeSlot s = some slot)
    (hw : volumeAt (takeEntry slot v s) other = some w) :
    slot = other ∧ w = v ∨ slot ≠ other ∧ volumeAt s other = some w := by
  by_cases same : slot = other
  · subst same
    rw [volumeAt_takeEntry_same free] at hw
    exact .inl ⟨rfl, (Option.some.inj hw).symm⟩
  · rw [volumeAt_takeEntry_other v same] at hw
    exact .inr ⟨same, hw⟩

theorem volumeAt_freeEntry {s : State} {slot other : Nat} {v : Volume}
    (hv : volumeAt (freeEntry slot s) other = some v) : slot ≠ other ∧ volumeAt s other = some v := by
  rcases volumeAt_setVolume_cases hv with ⟨-, none⟩ | ⟨ne, hv⟩
  · cases none
  · refine ⟨ne, Eq.trans ?_ hv⟩
    split <;> rfl

theorem volumeAt_freeEntry_other {s : State} {slot other : Nat} (ne : slot ≠ other) :
    volumeAt (freeEntry slot s) other = volumeAt s other := by
  refine (volumeAt_setVolume_other _ ne).trans ?_
  split <;> rfl

/-- The move of a queued return record into the ring. -/
theorem moveReturn_changes (r : ReturnRecord) (rest : List ReturnRecord) (s : State) :
    Changes [.returnRing, .returnQueue, .overruns, .requests] s
      (payOverrun (placeReturn r { s with ret := { s.ret with queue := rest } })) := by
  refine Changes.trans (Changes.trans (t := { s with ret := { s.ret with queue := rest } }) ?_
    ((placeReturn_changes _ _).mono (by decide))) ((payOverrun_changes _).mono (by decide))
  intro p hp
  cases p <;> simp_all [Part.same]

/-! ## Relations on the volume table -/

/-- A preorder on states that asks of the volume table alone and lets each volume take its course. -/
structure VolumeClosed (R : State → State → Prop) : Prop where
  refl : ∀ s, R s s
  trans : ∀ {s t u}, R s t → R t u → R s u
  same : ∀ {s t}, t.volumes = s.volumes → R s t
  volume : ∀ {slot v w s}, volumeAt s slot = some v → Evolves v w → R s (setVolume slot (some w) s)
  clamped : ∀ {s t} m, t.volumes.active = s.volumes.active →
    t.volumes.entries = s.volumes.entries.map (fun e => e.map (clampDrive m)) → R s t

theorem clampDrive_evolves (m : MechSettings) (v : Volume) : Evolves v (clampDrive m v) := .of_eq rfl rfl rfl rfl rfl rfl

theorem VolumeClosed.capture {R : State → State → Prop} (h : VolumeClosed R) : CaptureClosed R where
  refl := h.refl
  trans := h.trans
  rest c := h.same (c.get .volumes (by decide))
  hand r s := h.same ((handReturn_changes r s).get .volumes (by decide))
  volume := h.volume
  bar _ := h.same rfl
  head _ := h.same rfl
  place _ := h.same ((placeInternal_changes _ _).get .volumes (by decide))
  windows _ := h.same rfl
  guarded _ k := h.same rfl
  lost _ := h.same rfl
  seq _ _ := h.same rfl
  state _ _ := h.same rfl
  lines _ := h.same rfl
  givenUp s := h.same ((giveUpWindows_changes s).get .volumes (by decide))
  armed _ slot := h.same ((armWindows_changes slot _ _).get .volumes (by decide))

theorem VolumeClosed.machine {R : State → State → Prop} (h : VolumeClosed R) : MachineClosed R where
  toUnitClosed := h.capture.unit fun _ _ => h.same rfl
  request _ := h.same ((placeInternal_changes _ _).get .volumes (by decide))
  guards _ _ := h.same rfl
  tickets _ _ := h.same rfl
  moved _ := h.same ((moveReturn_changes _ _ _).get .volumes (by decide))
  foreign _ := h.same rfl
  accept _ _ := h.same rfl
  leaveUp _ := h.same ((leaveUpstream_changes _).get .volumes (by decide))
  leaveIn _ _ := h.same ((leaveInternal_changes _).get .volumes (by decide))
  takeRead _ _ _ _ := h.same ((leaveInternal_changes _).get .volumes (by decide))
  fetch s := h.same ((issueFetch_changes s).get .volumes (by decide))
  settings _ := h.same rfl
  write _ _ _ := h.same rfl
  restart change c s := by
    have table : (restartBlocks change c s).volumes = restartVolumes (mechOf s) c.settings.mech s.volumes := rfl
    unfold restartVolumes at table
    split at table
    · exact h.same table
    · exact h.clamped c.settings.mech (by rw [table]) (by rw [table])

/-! ## A property of each volume -/

/-- Every volume of the table has the property. -/
def EachVolume (P : Volume → Prop) (s : State) : Prop := ∀ slot v, volumeAt s slot = some v → P v

theorem eachVolume_closed {P : Volume → Prop} (evolve : ∀ {v w}, Evolves v w → P v → P w) :
    VolumeClosed fun s t => EachVolume P s → EachVolume P t where
  refl _ := id
  trans first second := second ∘ first
  same same each slot v hv := each slot v (volumeAt_congr same slot ▸ hv)
  volume hv course each other u hu := by
    rcases volumeAt_setVolume_cases hu with ⟨-, written⟩ | ⟨-, hu⟩
    · exact Option.some.inj written ▸ evolve course (each _ _ hv)
    · exact each other u hu
  clamped m _ entries each slot w hw := by
    rw [volumeAt_map entries] at hw
    obtain ⟨v, hv, rfl⟩ := Option.map_eq_some_iff.1 hw
    exact evolve (clampDrive_evolves m v) (each slot v hv)

/-- A property of an unused volume that its course keeps is kept of every volume by every step. -/
theorem eachVolume_step {P : Volume → Prop} (evolve : ∀ {v w}, Evolves v w → P v → P w)
    (unused : ∀ {v}, v.doseUsed = 0 → v.exceptions = [] → P v) {s t : State} (each : EachVolume P s)
    (run : step s = .next t) : EachVolume P t := by
  refine step_closed (eachVolume_closed evolve).machine (fun i => ?_) (eachVolume_closed evolve).capture.homing (fun x _ slot v hv => ?_) run each
  · refine ⟨fun _ => fun free _ dose exceptions each other w hw => ?_, fun _ each => each, fun _ => fun slot x each other w hw => ?_⟩
    · rcases volumeAt_takeEntry_cases free hw with ⟨-, rfl⟩ | ⟨-, hw⟩
      · exact unused dose exceptions
      · exact each other w hw
    · exact each other w (volumeAt_freeEntry hw).2
  · rw [show volumeAt (assertReset x) slot = none from volumeAt_reset slot] at hv
    cases hv

/-- Settles O25: a charge is capped to the room of the allowance, and nothing else adds to the dose used. -/
theorem doseNeverExceedsAllowance : Obligations.DoseNeverExceedsAllowance := fun _ _ within =>
  eachVolume_step (P := fun v => v.doseUsed ≤ v.allowance) Evolves.within (fun dose _ => dose ▸ Nat.zero_le _) within

/-- Settles O28: an entry is placed in its order or not at all, and what leaves a list leaves it in order. -/
theorem exceptionListsStayOrdered : Obligations.ExceptionListsStayOrdered := fun _ _ ordered =>
  eachVolume_step (P := fun v => ListOrdered v.exceptions) Evolves.ordered
    (fun _ empty => empty ▸ ⟨Nat.zero_le _, .nil⟩) ordered

/-! ## The table -/

theorem tableSound_closed : VolumeClosed fun s t => TableSound s → TableSound t where
  refl _ := id
  trans first second := second ∘ first
  same {s t} same sound := by
    have at_ := volumeAt_congr same
    obtain ⟨len, active, marks⟩ := sound
    exact ⟨same ▸ len, fun slot ha => at_ slot ▸ active slot (same ▸ ha),
      fun i j v w hv hw => marks i j v w (at_ i ▸ hv) (at_ j ▸ hw)⟩
  volume {slot v w s} hv course sound := by
    obtain ⟨len, active, marks⟩ := sound
    refine ⟨by simpa using len, fun k ha => ?_, fun i j x y hx hy same => ?_⟩
    · by_cases eq : slot = k
      · subst eq
        rw [volumeAt_setVolume_same (lt_length_of_volumeAt hv)]
        rfl
      · rw [volumeAt_setVolume_other _ eq]
        exact active k ha
    · rcases volumeAt_setVolume_cases hx with ⟨rfl, wx⟩ | ⟨-, hx⟩ <;>
        rcases volumeAt_setVolume_cases hy with ⟨rfl, wy⟩ | ⟨-, hy⟩
      · rfl
      · cases wx
        exact marks _ _ _ _ hv hy (course.shelfMark.symm.trans same)
      · cases wy
        exact marks _ _ _ _ hx hv (same.trans course.shelfMark)
      · exact marks _ _ _ _ hx hy same
  clamped {s t} m act entries sound := by
    have at_ := volumeAt_map entries
    obtain ⟨len, active, marks⟩ := sound
    refine ⟨by simpa [entries] using len, fun slot ha => ?_, fun i j x y hx hy same => ?_⟩
    · rw [at_, Option.isSome_map]
      exact active slot (act ▸ ha)
    · rw [at_] at hx hy
      obtain ⟨v, hv, rfl⟩ := Option.map_eq_some_iff.1 hx
      obtain ⟨w, hw, rfl⟩ := Option.map_eq_some_iff.1 hy
      exact marks i j v w hv hw same

theorem takeEntry_tableSound {s : State} {slot : Nat} {v : Volume} (free : freeSlot s = some slot)
    (unheld : duplicateOf s v.shelfMark = none) (sound : TableSound s) : TableSound (takeEntry slot v s) := by
  obtain ⟨len, active, marks⟩ := sound
  refine ⟨?_, fun k ha => ?_, fun i j x y hx hy same => ?_⟩
  · unfold takeEntry
    split <;> simpa using len
  · by_cases eq : slot = k
    · subst eq
      rw [volumeAt_takeEntry_same free]
      rfl
    · rw [volumeAt_takeEntry_other v eq]
      refine active k ?_
      unfold takeEntry at ha
      split at ha
      · exact absurd (Option.some.inj ha) eq
      · exact ha
  · rcases volumeAt_takeEntry_cases free hx with ⟨rfl, rfl⟩ | ⟨-, hx⟩ <;>
      rcases volumeAt_takeEntry_cases free hy with ⟨rfl, rfl⟩ | ⟨-, hy⟩
    · rfl
    · exact absurd same.symm (shelfMark_ne_of_not_duplicate unheld hy)
    · exact absurd same (shelfMark_ne_of_not_duplicate unheld (by assumption))
    · exact marks _ _ _ _ hx hy same

theorem freeEntry_tableSound {s : State} (slot : Nat) (sound : TableSound s) : TableSound (freeEntry slot s) := by
  obtain ⟨len, active, marks⟩ := sound
  refine ⟨by simpa [freeEntry_entries] using len, fun k ha => ?_, fun i j x y hx hy => ?_⟩
  · rw [freeEntry_active] at ha
    split at ha
    · cases ha
    · rename_i other
      rw [volumeAt_freeEntry_other (slot := slot) (by rintro rfl; exact other ha)]
      exact active k ha
  · exact marks i j x y (volumeAt_freeEntry hx).2 (volumeAt_freeEntry hy).2

theorem tableSound_work (i : Instr) : TableWork i fun s t => TableSound s → TableSound t where
  opened _ _ _ _ free unheld _ _ := takeEntry_tableSound free unheld
  activated held := fun ⟨len, _, marks⟩ => ⟨len, held, marks⟩
  freed _ slot _ := freeEntry_tableSound slot

/-- Settles O30. -/
theorem volumeTableStaysSound : Obligations.VolumeTableStaysSound := fun _ _ sound run =>
  step_closed tableSound_closed.machine tableSound_work tableSound_closed.capture.homing (fun _ _ => lawsHoldAtReset.2.2.2.2.1) run sound

/-! ## The course of a volume across a command -/

/-- Each volume stays in its entry and takes its course there, or, where `freed` allows it, its entry is FREE. -/
def VolumesEvolve (freed : Prop) (s t : State) : Prop :=
  ∀ slot, (∀ v, volumeAt s slot = some v → (∃ w, volumeAt t slot = some w ∧ Evolves v w) ∨ (freed ∧ volumeAt t slot = none))
    ∧ (freed → volumeAt s slot = none → volumeAt t slot = none)

theorem volumesEvolve_closed (freed : Prop) : VolumeClosed (VolumesEvolve freed) where
  refl s slot := ⟨fun v hv => .inl ⟨v, hv, .refl v⟩, fun _ => id⟩
  trans {s t u} first second slot := by
    refine ⟨fun v hv => ?_, fun f none => (second slot).2 f ((first slot).2 f none)⟩
    rcases (first slot).1 v hv with ⟨w, hw, course⟩ | ⟨f, none⟩
    · rcases (second slot).1 w hw with ⟨x, hx, course'⟩ | gone
      · exact .inl ⟨x, hx, course.trans course'⟩
      · exact .inr gone
    · exact .inr ⟨f, (second slot).2 f none⟩
  same same slot := by
    rw [volumeAt_congr same]
    exact ⟨fun v hv => .inl ⟨v, hv, .refl v⟩, fun _ => id⟩
  volume {slot v w s} hv course other := by
    by_cases eq : slot = other
    · subst eq
      rw [volumeAt_setVolume_same (lt_length_of_volumeAt hv), hv]
      exact ⟨fun _ same => .inl ⟨w, rfl, Option.some.inj same ▸ course⟩, fun _ none => nomatch none⟩
    · rw [volumeAt_setVolume_other _ eq]
      exact ⟨fun v hv => .inl ⟨v, hv, .refl v⟩, fun _ => id⟩
  clamped m _ entries slot := by
    rw [volumeAt_map entries]
    exact ⟨fun v hv => .inl ⟨clampDrive m v, by rw [hv]; rfl, clampDrive_evolves m v⟩, fun _ none => by rw [none]; rfl⟩

theorem volumesEvolve_work (i : Instr) : TableWork i (VolumesEvolve (i = .close)) where
  opened open_ {slot v s} free _ _ _ other := by
    refine ⟨fun u hu => .inl ⟨u, ?_, .refl u⟩, fun close => by simp [open_] at close⟩
    rw [volumeAt_takeEntry_other v, hu]
    rintro rfl
    rw [(freeSlot_spec free).2] at hu
    cases hu
  activated {a s} _ slot := ⟨fun v hv => .inl ⟨v, hv, .refl v⟩, fun _ => id⟩
  freed close slot s other := by
    refine ⟨fun v hv => ?_, fun _ none => ?_⟩
    · cases h : volumeAt (freeEntry slot s) other with
      | none => exact .inr ⟨close, rfl⟩
      | some w => exact .inl ⟨w, rfl, Option.some.inj (hv.symm.trans (volumeAt_freeEntry h).2) ▸ .refl v⟩
    · cases h : volumeAt (freeEntry slot s) other with
      | none => rfl
      | some w => rw [(volumeAt_freeEntry h).2] at none; cases none

/-- Settles O26: a charge alone adds to the dose used, and CLOSE alone frees an entry. -/
theorem doseUsedNeverFalls : Obligations.DoseUsedNeverFalls := by
  intro i s t slot v run hv alive
  have closed := volumesEvolve_closed (i = .close)
  have course := exec_closed closed.machine alive (volumesEvolve_work i) (closed.capture.homing s) run
  rcases (course slot).1 v hv with ⟨w, hw, evolved⟩ | gone
  · exact .inl ⟨w, hw, evolved.dose, evolved.shelfMark, evolved.leafCount, evolved.allowance, evolved.openedAt⟩
  · exact .inr gone

end Sys2Proof.Machine
end

section
/-! SUPPORT. The laws of the pools and the queues (O29, O31, O32, O33). -/
namespace Sys2Proof.Machine

/-! ## Windows, guards and reservations (O29) -/

theorem guard_set_count (l : List (Option Guard)) (g : Guard) (i : Nat) :
    (l.set i (some g)).countP (fun x => x.isSome) ≤ (l.countP fun x => x.isSome) + 1 := by
  by_cases hi : i < l.length
  · rw [List.countP_set hi]
    simp
  · rw [List.set_eq_of_length_le (by omega)]
    omega

/-- A free entry of a list is filled: one more in use, one fewer free. -/
theorem fillFirst_count {α : Type} {l : List (Option α)} (x : α) (room : 0 < l.countP fun y => y.isNone) :
    (l.set (firstFree l) (some x)).countP (fun y => y.isSome) = (l.countP fun y => y.isSome) + 1
      ∧ (l.set (firstFree l) (some x)).countP (fun y => y.isNone) + 1 = l.countP fun y => y.isNone := by
  have found : firstFree l < l.length := by
    obtain ⟨y, mem, none⟩ := List.countP_pos_iff.1 room
    exact List.findIdx_lt_length_of_exists ⟨y, mem, none⟩
  have empty : l[firstFree l] = none := by
    exact Option.isNone_iff_eq_none.1 (List.findIdx_getElem (xs := l) (p := Option.isNone) (w := found))
  constructor <;> rw [List.countP_set found] <;> simp [empty]
  omega

theorem windowsInUse_pos {s : State} {i : Nat} {w : Window} (hw : windowAt s i = some w) : 0 < windowsInUse s := by
  obtain ⟨hi, held⟩ := windowAt_eq_some hw
  exact List.countP_pos_iff.2 ⟨_, List.getElem_mem hi, by rw [held]; rfl⟩

theorem windowsInUse_set_none {s : State} {i : Nat} {w : Window} (hw : windowAt s i = some w) :
    (s.frames.windows.set i none).countP (fun x => x.isSome) = windowsInUse s - 1 := by
  obtain ⟨hi, held⟩ := windowAt_eq_some hw
  rw [List.countP_set hi, held]
  rfl

theorem giveUp_count (l : List (Option Window)) :
    (l.map fun w => if isArmed w then none else w).countP (fun x => x.isSome) =
      (l.countP fun x => x.isSome) - l.countP isArmed ∧ l.countP isArmed ≤ l.countP fun x => x.isSome := by
  induction l with
  | nil => exact ⟨rfl, Nat.le_refl _⟩
  | cons w l ih =>
    obtain ⟨count, le⟩ := ih
    simp only [List.map_cons, List.countP_cons, count]
    rcases w with - | w
    · simp [isArmed, le]
    · by_cases armed : isArmed (some w) = true
      · simp [armed, le]
      · simp [armed]
        omega

/-- Which entry is the first free one does not depend on what the others hold. -/
theorem firstFree_set_some {α : Type} (l : List (Option α)) (i : Nat) (x y : α) :
    firstFree (l.set i (some x)) = firstFree (l.set i (some y)) := by
  have byMap : ∀ m : List (Option α), firstFree m = (m.map fun z => z.isNone).findIdx id := fun m => by
    rw [List.findIdx_map]
    rfl
  rw [byMap, byMap, List.map_set, List.map_set]
  rfl

/-- The windows that a capture takes are as many as its sides. -/
theorem armWindows_count {slot : Nat} {p : CaptureParams} {s : State}
    (room : sideCount p.sides ≤ s.frames.windows.countP fun w => w.isNone) :
    windowsInUse (armWindows slot p s) = windowsInUse s + sideCount p.sides
      ∧ (armWindows slot p s).frames.windows.length = s.frames.windows.length
      ∧ (armWindows slot p s).frames.guards = s.frames.guards
      ∧ (armWindows slot p s).frames.guardReserved = s.frames.guardReserved := by
  have once : ∀ x : Window, 0 < (s.frames.windows.countP fun w => w.isNone) →
      windowsInUse (setWindow (firstFree s.frames.windows) (some x) s) = windowsInUse s + 1 := fun x some =>
    (fillFirst_count x some).1
  rcases p with ⟨⟨_ | _, _ | _⟩, buffer, stride, width, lines⟩
  · exact ⟨rfl, rfl, rfl, rfl⟩
  · exact ⟨once _ room, List.length_set, rfl, rfl⟩
  · exact ⟨once _ room, List.length_set, rfl, rfl⟩
  · have two : 2 ≤ s.frames.windows.countP fun w => w.isNone := room
    have first := fun x : Window => fillFirst_count x (Nat.lt_of_lt_of_le Nat.zero_lt_two two)
    refine ⟨?_, (List.length_set).trans List.length_set, rfl, rfl⟩
    have second : ∀ x y z : Window,
        (((s.frames.windows.set (firstFree s.frames.windows) (some x)).set
          (firstFree (s.frames.windows.set (firstFree s.frames.windows) (some y))) (some z)).countP fun w => w.isSome) =
            windowsInUse s + 2 := by
      intro x y z
      obtain ⟨used, free⟩ := first x
      rw [firstFree_set_some _ _ y x, (fillFirst_count z (by omega)).1, used]
      rfl
    exact second _ _ _

theorem poolsWithin_of_frames {s t : State} (same : t.frames = s.frames) : PoolsWithin s → PoolsWithin t := by
  unfold PoolsWithin windowsInUse guardsInUse
  rw [same]
  exact id

theorem poolsWithin_capture : CaptureClosed fun s t => PoolsWithin s → PoolsWithin t where
  refl _ := id
  trans first second := second ∘ first
  rest c := poolsWithin_of_frames (c.get .frames (by decide))
  hand r s := poolsWithin_of_frames ((handReturn_changes r s).get .frames (by decide))
  volume _ _ := poolsWithin_of_frames rfl
  bar _ := poolsWithin_of_frames rfl
  head _ := poolsWithin_of_frames rfl
  place _ := poolsWithin_of_frames ((placeInternal_changes _ _).get .frames (by decide))
  windows {l s} kept := fun ⟨windows, guards, reserved, room⟩ => by
    have count : (l.countP fun w => w.isSome) = windowsInUse s := by
      have := congrArg (List.countP id) kept
      rwa [List.countP_map, List.countP_map] at this
    have len : l.length = s.frames.windows.length := by simpa using congrArg List.length kept
    exact ⟨len.trans windows, guards, reserved.trans count.symm, room⟩
  guarded {i w s} hw k := fun ⟨windows, guards, reserved, room⟩ => by
    have used := windowsInUse_pos hw
    have grown := guard_set_count s.frames.guards { base := w.base, length := windowLength w, index := k, hit := false }
      (firstFree s.frames.guards)
    refine ⟨List.length_set.trans windows, List.length_set.trans guards, ?_, ?_⟩
    · exact (congrArg (· - 1) reserved).trans (windowsInUse_set_none hw).symm
    · refine Nat.le_trans (Nat.add_le_add_right grown (s.frames.guardReserved - 1)) ?_
      unfold guardsInUse at room
      omega
  lost {i w s} hw := fun ⟨windows, guards, reserved, room⟩ =>
    ⟨List.length_set.trans windows, guards, (congrArg (· - 1) reserved).trans (windowsInUse_set_none hw).symm,
      Nat.le_trans (Nat.add_le_add_left (Nat.sub_le _ _) _) room⟩
  seq _ _ := poolsWithin_of_frames rfl
  state _ _ := poolsWithin_of_frames rfl
  lines _ := poolsWithin_of_frames rfl
  givenUp s := fun ⟨windows, guards, reserved, room⟩ =>
    ⟨List.length_map _ |>.trans windows, guards,
      (congrArg (· - s.frames.windows.countP isArmed) reserved).trans (giveUp_count _).1.symm,
      Nat.le_trans (Nat.add_le_add_left (Nat.sub_le _ _) _) room⟩
  armed {p s} room slot := fun ⟨windows, guards, reserved, bound⟩ => by
    obtain ⟨free, more⟩ := of_decide_eq_true room
    obtain ⟨used, len, sameGuards, sameReserved⟩ := armWindows_count (slot := slot) (p := p)
      (s := { s with frames := { s.frames with guardReserved := s.frames.guardReserved + sideCount p.sides } }) free
    refine ⟨len.trans windows, by rw [sameGuards]; exact guards, ?_, ?_⟩
    · rw [sameReserved, used]
      exact congrArg (· + sideCount p.sides) reserved
    · rw [guardsInUse, sameGuards, sameReserved]
      exact (Nat.add_assoc _ _ _).symm ▸ more

theorem poolsWithin_closed : MachineClosed fun s t => PoolsWithin s → PoolsWithin t where
  toUnitClosed := poolsWithin_capture.unit fun _ _ => poolsWithin_of_frames rfl
  request _ := poolsWithin_of_frames ((placeInternal_changes _ _).get .frames (by decide))
  guards {l s} len count := fun ⟨windows, guards, reserved, room⟩ =>
    ⟨windows, len.trans guards, reserved, Nat.le_trans (Nat.add_le_add_right count _) room⟩
  tickets _ _ := poolsWithin_of_frames rfl
  moved _ := poolsWithin_of_frames ((moveReturn_changes _ _ _).get .frames (by decide))
  foreign _ := poolsWithin_of_frames rfl
  accept _ _ := poolsWithin_of_frames rfl
  leaveUp _ := poolsWithin_of_frames ((leaveUpstream_changes _).get .frames (by decide))
  leaveIn _ _ := poolsWithin_of_frames ((leaveInternal_changes _).get .frames (by decide))
  takeRead _ _ _ _ := poolsWithin_of_frames ((leaveInternal_changes _).get .frames (by decide))
  fetch s := poolsWithin_of_frames ((issueFetch_changes s).get .frames (by decide))
  settings _ := poolsWithin_of_frames rfl
  write _ _ _ := poolsWithin_of_frames rfl
  restart change c s := fun ⟨windows, guards, reserved, room⟩ => by
    cases change
    · exact ⟨windows, guards, reserved, room⟩
    · refine ⟨windows, rfl, reserved, ?_⟩
      have none : guardsInUse (restartBlocks true c s) = 0 := rfl
      rw [none]
      exact Nat.le_trans (Nat.add_le_add_right (Nat.zero_le _) _) room


/-- Settles O29: a window is armed with its reservation, and leaves with it or leaves it to its guard. -/
theorem framePoolsStayWithinBounds : Obligations.FramePoolsStayWithinBounds := fun _ _ within run =>
  step_closed poolsWithin_closed
    (TableWork.of_changes fun c => poolsWithin_of_frames (c.get .frames (by decide)))
    poolsWithin_capture.homing (fun _ _ => lawsHoldAtReset.2.2.2.1) run within

/-! ## Queues and counts (O32) -/

/-- What the bounds of the queues are about. -/
theorem queuesBounded_of_eq {s t : State} (upstream : t.path.upstream = s.path.upstream)
    (internal : t.path.internal = s.path.internal) (wait : t.path.waitCount = s.path.waitCount)
    (queue : t.ret.queue = s.ret.queue) (overruns : t.ret.overruns = s.ret.overruns)
    (foreign : t.path.foreignWrites = s.path.foreignWrites) : QueuesBounded s → QueuesBounded t := by
  unfold QueuesBounded
  rw [upstream, internal, wait, queue, overruns, foreign]
  exact id

/-- The parts the bounds of the queues are about. -/
def queueParts : List Part := [.upstream, .requests, .waitCount, .returnQueue, .overruns, .foreignWrites]

theorem queuesBounded_of_changes {ps : List Part} {s t : State} (c : Changes ps s t) (apart : ∀ p ∈ queueParts, p ∉ ps) :
    QueuesBounded s → QueuesBounded t :=
  queuesBounded_of_eq (c.get .upstream (apart _ (by decide))) (c.get .requests (apart _ (by decide))).1
    (c.get .waitCount (apart _ (by decide))) (c.get .returnQueue (apart _ (by decide)))
    (c.get .overruns (apart _ (by decide))).1 (c.get .foreignWrites (apart _ (by decide)))

theorem length_append_le {α : Type} {l : List α} {x : α} {n : Nat} (room : l.length < n) : (l ++ [x]).length ≤ n := by
  rw [List.length_append]
  exact room

theorem placeInternal_bounded (e : InternalEntry) (s : State) : QueuesBounded s → QueuesBounded (placeInternal e s) := by
  rintro ⟨upstream, internal, rest⟩
  unfold placeInternal
  split
  · rename_i room
    exact ⟨upstream, length_append_le room.1, rest⟩
  · exact ⟨upstream, internal, rest⟩

theorem placeReturn_bounded (r : ReturnRecord) (s : State) : QueuesBounded s → QueuesBounded (placeReturn r s) := by
  unfold placeReturn
  split
  · exact id
  · intro bounded
    exact placeInternal_bounded _ _ (by exact queuesBounded_of_eq rfl rfl rfl rfl rfl rfl bounded)

theorem handReturn_bounded (r : ReturnRecord) (s : State) : QueuesBounded s → QueuesBounded (handReturn r s) := by
  intro bounded
  obtain ⟨upstream, internal, wait, queue, overruns, foreign⟩ := bounded
  unfold handReturn
  split
  · exact placeReturn_bounded r s ⟨upstream, internal, wait, queue, overruns, foreign⟩
  · split
    · exact ⟨upstream, internal, wait, length_append_le ‹_›, overruns, foreign⟩
    · unfold discardReturn
      split <;> exact ⟨upstream, internal, wait, queue, Nat.min_le_left _ _, foreign⟩

theorem moveReturn_bounded {r : ReturnRecord} {rest : List ReturnRecord} {s : State} (queued : s.ret.queue = r :: rest) :
    QueuesBounded s →
      QueuesBounded (payOverrun (placeReturn r { s with ret := { s.ret with queue := rest } })) := by
  intro bounded
  have room : rest.length + 1 ≤ 16 := by simpa [queued] using bounded.2.2.2.1
  have placed : QueuesBounded (placeReturn r { s with ret := { s.ret with queue := rest } }) := by
    obtain ⟨upstream, internal, wait, -, overruns, foreign⟩ := bounded
    exact placeReturn_bounded r _ ⟨upstream, internal, wait, Nat.le_of_succ_le room, overruns, foreign⟩
  have queue : (placeReturn r { s with ret := { s.ret with queue := rest } }).ret.queue = rest :=
    (placeReturn_changes _ _).get .returnQueue (by decide)
  obtain ⟨upstream, internal, wait, -, overruns, foreign⟩ := placed
  unfold payOverrun
  split
  · exact ⟨upstream, internal, wait, by simpa [queue] using room, overruns, foreign⟩
  · exact ⟨upstream, internal, wait, by rw [queue]; exact Nat.le_of_succ_le room, overruns, foreign⟩

theorem arbiter_internal {s : State} {e : InternalEntry} (chosen : arbiter s = some (.internal e)) :
    ∃ rest, s.path.internal = e :: rest := by
  unfold arbiter at chosen
  split at chosen
  · cases chosen
  · cases chosen
  · cases chosen
    exact ⟨_, ‹_›⟩
  · split at chosen
    · cases chosen
    · cases chosen
      exact ⟨_, ‹_›⟩

/-- R134: an upstream transaction is chosen only before a waiting entry has waited 8 times. -/
theorem arbiter_upstream {s : State} {t : Transaction} (chosen : arbiter s = some (.upstream t)) :
    (∃ rest, s.path.upstream = t :: rest) ∧ (s.path.internal = [] ∨ s.path.waitCount < 8) := by
  unfold arbiter at chosen
  split at chosen
  · cases chosen
  · cases chosen
    exact ⟨⟨_, ‹_›⟩, .inl ‹_›⟩
  · cases chosen
  · split at chosen
    · cases chosen
      exact ⟨⟨_, ‹_›⟩, .inr ‹_›⟩
    · cases chosen

/-- Blocked requests enter one at a time. -/
theorem admitBlocked_internal (s : State) :
    (admitBlocked s).path.internal.length ≤ s.path.internal.length + 1 := by
  have from_ : ∀ o, (admitFrom o s).path.internal.length ≤ s.path.internal.length + 1 := by
    intro o
    unfold admitFrom
    split <;> simp
  unfold admitBlocked
  split
  · exact Nat.le_succ _
  · exact from_ _
  · exact from_ _

theorem leaveInternal_bounded {s : State} {e : InternalEntry} (chosen : arbiter s = some (.internal e)) :
    QueuesBounded s → QueuesBounded (leaveInternal s) := by
  rintro ⟨upstream, internal, wait, queue, overruns, foreign⟩
  have frame := leaveInternal_changes s
  obtain ⟨waiting, waits⟩ := arbiter_internal chosen
  refine ⟨?_, ?_, ?_, ?_, ?_, ?_⟩
  · rw [frame.get .upstream (by decide)]
    exact upstream
  · have grown := admitBlocked_internal { s with path := { s.path with internal := s.path.internal.tail, waitCount := 0 } }
    have short : s.path.internal.tail.length + 1 ≤ 32 := by simpa [waits] using internal
    exact Nat.le_trans grown short
  · have zero : (leaveInternal s).path.waitCount = 0 :=
      (admitBlocked_changes { s with path := { s.path with internal := s.path.internal.tail, waitCount := 0 } }).get
        .waitCount (by decide)
    omega
  · rw [frame.get .returnQueue (by decide)]
    exact queue
  · rw [(frame.get .overruns (by decide)).1]
    exact overruns
  · rw [frame.get .foreignWrites (by decide)]
    exact foreign

theorem leaveUpstream_bounded {s : State} {t : Transaction} (chosen : arbiter s = some (.upstream t)) :
    QueuesBounded s → QueuesBounded (leaveUpstream s) := by
  rintro ⟨upstream, internal, wait, rest⟩
  refine ⟨Nat.le_trans (List.length_tail ▸ Nat.sub_le _ _) upstream, internal, ?_, rest⟩
  show (if s.path.internal = [] then s.path.waitCount else s.path.waitCount + 1) ≤ 8
  rcases (arbiter_upstream chosen).2 with none | early
  · rw [if_pos none]
    exact wait
  · split <;> omega

theorem placeTicketReads_bounded (m : MapSettings) (i : Half) (n : Nat) (s : State) :
    QueuesBounded s → QueuesBounded (placeTicketReads m i n s) := by
  induction n generalizing i s with
  | zero => exact id
  | succ n ih => exact fun bounded => ih _ _ (placeInternal_bounded _ _ bounded)

theorem issueFetch_bounded (s : State) : QueuesBounded s → QueuesBounded (issueFetch s) := by
  intro bounded
  unfold issueFetch
  split
  · exact bounded
  · split
    · exact placeTicketReads_bounded _ _ _ _ (by exact queuesBounded_of_eq rfl rfl rfl rfl rfl rfl bounded)
    · exact bounded

theorem queuesBounded_capture : CaptureClosed fun s t => QueuesBounded s → QueuesBounded t where
  refl _ := id
  trans first second := second ∘ first
  rest c := queuesBounded_of_changes c (by decide)
  hand := handReturn_bounded
  volume _ _ := queuesBounded_of_eq rfl rfl rfl rfl rfl rfl
  bar _ := queuesBounded_of_eq rfl rfl rfl rfl rfl rfl
  head _ := queuesBounded_of_eq rfl rfl rfl rfl rfl rfl
  place _ := placeInternal_bounded _ _
  windows _ := queuesBounded_of_eq rfl rfl rfl rfl rfl rfl
  guarded _ _ := queuesBounded_of_eq rfl rfl rfl rfl rfl rfl
  lost _ := queuesBounded_of_eq rfl rfl rfl rfl rfl rfl
  seq _ _ := queuesBounded_of_eq rfl rfl rfl rfl rfl rfl
  state _ _ := queuesBounded_of_eq rfl rfl rfl rfl rfl rfl
  lines _ := queuesBounded_of_eq rfl rfl rfl rfl rfl rfl
  givenUp s := queuesBounded_of_changes (giveUpWindows_changes s) (by decide)
  armed {p s} _ slot := queuesBounded_of_changes (s := { s with frames := { s.frames with
    guardReserved := s.frames.guardReserved + sideCount p.sides } }) (armWindows_changes slot _ _) (by decide)

theorem queuesBounded_closed : MachineClosed fun s t => QueuesBounded s → QueuesBounded t where
  toUnitClosed := queuesBounded_capture.unit fun _ _ => queuesBounded_of_eq rfl rfl rfl rfl rfl rfl
  request _ := placeInternal_bounded _ _
  guards _ _ := queuesBounded_of_eq rfl rfl rfl rfl rfl rfl
  tickets _ _ := queuesBounded_of_eq rfl rfl rfl rfl rfl rfl
  moved := moveReturn_bounded
  foreign _ := fun ⟨upstream, internal, wait, queue, overruns, _⟩ =>
    ⟨upstream, internal, wait, queue, overruns, Nat.min_le_left _ _⟩
  accept room _ := fun ⟨_, rest⟩ => ⟨length_append_le room, rest⟩
  leaveUp := leaveUpstream_bounded
  leaveIn chosen _ := leaveInternal_bounded chosen
  takeRead chosen _ _ _ := leaveInternal_bounded chosen
  fetch := issueFetch_bounded
  settings _ := queuesBounded_of_eq rfl rfl rfl rfl rfl rfl
  write _ _ _ := queuesBounded_of_eq rfl rfl rfl rfl rfl rfl
  restart change _ s := fun ⟨upstream, internal, _, queue, overruns, foreign⟩ =>
    ⟨upstream, internal, Nat.zero_le _, by cases change <;> exact queue, by cases change <;> exact overruns, foreign⟩

/-- The parts the bounds of the counts are about. -/
theorem countsBounded_of_changes {ps : List Part} {s t : State} (c : Changes ps s t) (bars : Part.bars ∉ ps)
    (heads : Part.heads ∉ ps) : CountsBounded s → CountsBounded t := by
  rintro ⟨misses, samples⟩
  obtain ⟨v, r⟩ := c.get .bars bars
  refine ⟨fun side => ?_, fun hd => ?_⟩
  · cases side
    · exact (congrArg Bar.noReply v : t.lamps.v.lasting.noReply = s.lamps.v.lasting.noReply) ▸ misses .v
    · exact (congrArg Bar.noReply r : t.lamps.r.lasting.noReply = s.lamps.r.lasting.noReply) ▸ misses .r
  · rw [c.get .heads heads]
    exact samples hd

theorem setBar_bounded {side : Side} {b : Bar} {s : State} (bar : BarBounded (s.lamps.get side) → BarBounded b) :
    CountsBounded s → CountsBounded (setBar side b s) := by
  rintro ⟨misses, samples⟩
  have set := bar (misses side)
  refine ⟨fun other => ?_, samples⟩
  cases side <;> cases other
  · exact set
  · exact misses .r
  · exact misses .v
  · exact set

theorem setHead_bounded {hd : Head} {u : HeadUnit} {s : State}
    (head : HeadBounded (s.position.heads.get hd) → HeadBounded u) :
    CountsBounded s → CountsBounded (setHead hd u s) := by
  rintro ⟨misses, samples⟩
  have set := head (samples hd)
  refine ⟨misses, fun other => ?_⟩
  cases hd <;> cases other
  · exact set
  · exact samples .b
  · exact samples .a
  · exact set

theorem countsBounded_capture : CaptureClosed fun s t => CountsBounded s → CountsBounded t where
  refl _ := id
  trans first second := second ∘ first
  rest c := countsBounded_of_changes c (by decide) (by decide)
  hand r s := countsBounded_of_changes (handReturn_changes r s) (by decide) (by decide)
  volume _ _ := id
  bar := setBar_bounded
  head := setHead_bounded
  place _ := countsBounded_of_changes (placeInternal_changes _ _) (by decide) (by decide)
  windows _ := id
  guarded _ _ := id
  lost _ := id
  seq _ _ := id
  state _ _ := id
  lines _ := id
  givenUp s := countsBounded_of_changes (giveUpWindows_changes s) (by decide) (by decide)
  armed {p s} _ slot := countsBounded_of_changes (s := { s with frames := { s.frames with
    guardReserved := s.frames.guardReserved + sideCount p.sides } }) (armWindows_changes slot _ _) (by decide) (by decide)

theorem countsBounded_closed : MachineClosed fun s t => CountsBounded s → CountsBounded t where
  toUnitClosed := countsBounded_capture.unit fun _ _ => id
  request _ := countsBounded_of_changes (placeInternal_changes _ _) (by decide) (by decide)
  guards _ _ := id
  tickets _ _ := id
  moved _ := countsBounded_of_changes (moveReturn_changes _ _ _) (by decide) (by decide)
  foreign _ := id
  accept _ _ := id
  leaveUp _ := countsBounded_of_changes (leaveUpstream_changes _) (by decide) (by decide)
  leaveIn _ _ := countsBounded_of_changes (leaveInternal_changes _) (by decide) (by decide)
  takeRead {s e q} _ _ _ _ := countsBounded_of_changes (t := leaveInternal s) (leaveInternal_changes _) (by decide)
    (by decide)
  fetch s := countsBounded_of_changes (issueFetch_changes s) (by decide) (by decide)
  settings _ := id
  write _ _ _ := id
  restart _ _ _ := fun _ =>
    ⟨fun side => by cases side <;> exact Nat.zero_le _, fun hd => by cases hd <;> exact ⟨Nat.zero_le _, Nat.zero_le _⟩⟩

/-- Settles O32. -/
theorem queuesAndCountsStayBounded : Obligations.QueuesAndCountsStayBounded := by
  intro s t queues counts run
  obtain ⟨-, -, -, -, -, -, queuesReset, countsReset, -⟩ := lawsHoldAtReset
  exact ⟨step_closed queuesBounded_closed (TableWork.of_changes fun c => queuesBounded_of_changes c (by decide))
      queuesBounded_capture.homing (fun _ _ => queuesReset) run queues,
    step_closed countsBounded_closed
      (TableWork.of_changes fun c => countsBounded_of_changes c (by decide) (by decide)) countsBounded_capture.homing
      (fun _ _ => countsReset) run counts⟩

/-! ## Tickets in flight (O31) -/

/-- The waiting reads of tickets. -/
def ticketReads (s : State) : Nat := (waiting s).countP isTicketRead

theorem ticketReads_placeInternal (e : InternalEntry) (s : State) :
    ticketReads (placeInternal e s) = ticketReads s + if isTicketRead e then 1 else 0 := by
  unfold placeInternal ticketReads waiting
  split <;> simp [List.countP_append, List.countP_cons] <;> omega

theorem countP_eraseP_of_find? {α : Type} (p : α → Bool) {q : α → Bool} {l : List α} {a : α}
    (found : l.find? q = some a) : (l.eraseP q).countP p + (if p a then 1 else 0) = l.countP p := by
  induction l with
  | nil => cases found
  | cons b l ih =>
    rw [List.find?_cons] at found
    by_cases first : q b = true
    · rw [first] at found
      cases found
      rw [List.eraseP_cons_of_pos first, List.countP_cons]
    · simp only [Bool.not_eq_true] at first
      rw [first] at found
      rw [List.eraseP_cons_of_neg (by simp [first]), List.countP_cons, List.countP_cons, ← ih found]
      omega

theorem ticketReads_admitFrom (o : Block) (s : State) : ticketReads (admitFrom o s) = ticketReads s := by
  unfold admitFrom
  split
  · rfl
  · rename_i e found
    have moved := countP_eraseP_of_find? isTicketRead found
    simp only [ticketReads, waiting, List.countP_append, List.countP_singleton]
    omega

theorem ticketReads_admitBlocked (s : State) : ticketReads (admitBlocked s) = ticketReads s := by
  unfold admitBlocked
  split
  · rfl
  · exact ticketReads_admitFrom _ _
  · exact ticketReads_admitFrom _ _

theorem ticketReads_leaveInternal {s : State} {e : InternalEntry} (chosen : arbiter s = some (.internal e)) :
    ticketReads (leaveInternal s) + (if isTicketRead e then 1 else 0) = ticketReads s := by
  obtain ⟨rest, waits⟩ := arbiter_internal chosen
  rw [leaveInternal, ticketReads_admitBlocked]
  simp only [ticketReads, waiting, waits, List.tail_cons, List.cons_append, List.countP_cons]

theorem ticketReads_congr {s t : State} (same : t.path.internal = s.path.internal ∧ t.path.blocked = s.path.blocked) :
    ticketReads t = ticketReads s := by
  rw [ticketReads, waiting, same.1, same.2]
  rfl

theorem ticketReads_placeReturn (r : ReturnRecord) (s : State) : ticketReads (placeReturn r s) = ticketReads s := by
  unfold placeReturn
  split
  · rfl
  · exact ticketReads_placeInternal _ _

theorem ticketReads_handReturn (r : ReturnRecord) (s : State) : ticketReads (handReturn r s) = ticketReads s := by
  unfold handReturn discardReturn
  split
  · exact ticketReads_placeReturn r s
  · split
    · rfl
    · split <;> rfl

theorem ticketReads_moveReturn (r : ReturnRecord) (rest : List ReturnRecord) (s : State) :
    ticketReads (payOverrun (placeReturn r { s with ret := { s.ret with queue := rest } })) = ticketReads s :=
  (ticketReads_congr ((payOverrun_changes _).get .requests (by decide))).trans (ticketReads_placeReturn r _)

theorem ticketReads_placeTicketReads (m : MapSettings) (i : Half) (n : Nat) (s : State) :
    ticketReads (placeTicketReads m i n s) = ticketReads s + n := by
  induction n generalizing i s with
  | zero => rfl
  | succ n ih =>
    rw [placeTicketReads, ih, ticketReads_placeInternal]
    show ticketReads s + 1 + n = _
    omega

theorem queueHasRoom_iff {s : State} :
    QueueHasRoom s ↔ s.tickets.outstanding = ticketReads s ∧ s.tickets.queue.length + s.tickets.outstanding ≤ 8 := .rfl

theorem queueHasRoom_of_eq {s t : State} (tickets : t.tickets = s.tickets) (reads : ticketReads t = ticketReads s) :
    QueueHasRoom s → QueueHasRoom t := by
  rw [queueHasRoom_iff, queueHasRoom_iff, tickets, reads]
  exact id

theorem queueHasRoom_of_changes {ps : List Part} {s t : State} (c : Changes ps s t) (tickets : Part.tickets ∉ ps)
    (requests : Part.requests ∉ ps) : QueueHasRoom s → QueueHasRoom t :=
  queueHasRoom_of_eq (c.get .tickets tickets) (ticketReads_congr (c.get .requests requests))

theorem takeRead_hasRoom {s : State} {e : InternalEntry} {q : TicketUnit} (chosen : arbiter s = some (.internal e))
    (read : isTicketRead e = true) (outstanding : q.outstanding = s.tickets.outstanding - 1)
    (queue : q.queue.length ≤ s.tickets.queue.length + 1) :
    QueueHasRoom s → QueueHasRoom { leaveInternal s with tickets := q } := by
  rw [queueHasRoom_iff, queueHasRoom_iff]
  rintro ⟨count, room⟩
  have left := ticketReads_leaveInternal chosen
  rw [if_pos read] at left
  show q.outstanding = ticketReads (leaveInternal s) ∧ q.queue.length + q.outstanding ≤ 8
  omega

/-- R27, R28: a fetch asks for no more than the room of the queue, and only when none is outstanding. -/
theorem issueFetch_hasRoom (s : State) : QueueHasRoom s → QueueHasRoom (issueFetch s) := by
  intro room
  unfold issueFetch
  split
  · exact room
  · rename_i m _
    split
    · rename_i may
      have none : s.tickets.outstanding = 0 := by
        simp only [mayFetch, Bool.and_eq_true, decide_eq_true_eq] at may
        exact may.1.1.1.1
      have count : fetchCount m.nt s ≤ 8 - s.tickets.queue.length :=
        Nat.le_trans (Nat.min_le_left _ _) (Nat.min_le_right _ _)
      rw [queueHasRoom_iff] at room ⊢
      obtain ⟨reads, bound⟩ := room
      dsimp only
      rw [(placeTicketReads_changes _ _ _ _).get .tickets (by decide), ticketReads_placeTicketReads]
      refine ⟨?_, ?_⟩
      · show fetchCount m.nt s = ticketReads s + fetchCount m.nt s
        omega
      · show s.tickets.queue.length + fetchCount m.nt s ≤ 8
        omega
    · exact room

theorem placeInternal_hasRoom {e : InternalEntry} {s : State} (other : isTicketRead e = false) :
    QueueHasRoom s → QueueHasRoom (placeInternal e s) :=
  queueHasRoom_of_eq ((placeInternal_changes e s).get .tickets (by decide)) (by
    rw [ticketReads_placeInternal, other]
    rfl)

theorem queueHasRoom_capture : CaptureClosed fun s t => QueueHasRoom s → QueueHasRoom t where
  refl _ := id
  trans first second := second ∘ first
  rest c := queueHasRoom_of_changes c (by decide) (by decide)
  hand r s := queueHasRoom_of_eq ((handReturn_changes r s).get .tickets (by decide)) (ticketReads_handReturn r s)
  volume _ _ := id
  bar _ := id
  head _ := id
  place own := placeInternal_hasRoom (isTicketRead_of_isOwnWrite own)
  windows _ := id
  guarded _ _ := id
  lost _ := id
  seq _ _ := id
  state _ _ := id
  lines _ := id
  givenUp s := queueHasRoom_of_changes (giveUpWindows_changes s) (by decide) (by decide)
  armed {p s} _ slot := queueHasRoom_of_changes (s := { s with frames := { s.frames with
    guardReserved := s.frames.guardReserved + sideCount p.sides } }) (armWindows_changes slot _ _) (by decide) (by decide)

theorem queueHasRoom_closed : MachineClosed fun s t => QueueHasRoom s → QueueHasRoom t where
  toUnitClosed := queueHasRoom_capture.unit fun _ _ => id
  request other := placeInternal_hasRoom other
  guards _ _ := id
  tickets outstanding queue := fun ⟨count, room⟩ =>
    ⟨outstanding.trans count, Nat.le_trans (Nat.add_le_add queue (Nat.le_of_eq outstanding)) room⟩
  moved _ := queueHasRoom_of_eq ((moveReturn_changes _ _ _).get .tickets (by decide)) (ticketReads_moveReturn _ _ _)
  foreign _ := id
  accept _ _ := id
  leaveUp _ := id
  leaveIn chosen other := queueHasRoom_of_eq ((leaveInternal_changes _).get .tickets (by decide)) (by
    have left := ticketReads_leaveInternal chosen
    rwa [other] at left)
  takeRead := takeRead_hasRoom
  fetch := issueFetch_hasRoom
  settings _ := id
  write _ _ _ := id
  restart change c s := fun ⟨count, room⟩ => by
    refine ⟨by cases change <;> exact count, Nat.le_trans ?_ room⟩
    cases change <;> exact Nat.add_le_add_right (Nat.zero_le _) _

/-- Settles O31: a fetch asks for no more than there is room for, and a read leaves the path as its ticket is taken. -/
theorem fetchedQueueKeepsRoom : Obligations.FetchedQueueKeepsRoom := by
  intro s t room run
  obtain ⟨-, -, -, -, -, reset, -⟩ := lawsHoldAtReset
  exact step_closed queueHasRoom_closed
    (TableWork.of_changes fun c => queueHasRoom_of_changes c (by decide) (by decide)) queueHasRoom_capture.homing
    (fun _ _ => reset) run room

/-! ## Frame memory (O33) -/

theorem memoryWf_of_changes {ps : List Part} {s t : State} (c : Changes ps s t) (apart : Part.memory ∉ ps) :
    Memory.wf s.memory → Memory.wf t.memory := by
  rw [c.get .memory apart]
  exact id

theorem memoryWf_capture : CaptureClosed fun s t => Memory.wf s.memory → Memory.wf t.memory where
  refl _ := id
  trans first second := second ∘ first
  rest c := memoryWf_of_changes c (by decide)
  hand r s := memoryWf_of_changes (handReturn_changes r s) (by decide)
  volume _ _ := id
  bar _ := id
  head _ := id
  place _ := memoryWf_of_changes (placeInternal_changes _ _) (by decide)
  windows _ := id
  guarded _ _ := id
  lost _ := id
  seq _ _ := id
  state _ _ := id
  lines _ := id
  givenUp _ := id
  armed {p s} _ slot := memoryWf_of_changes (s := { s with frames := { s.frames with
    guardReserved := s.frames.guardReserved + sideCount p.sides } }) (armWindows_changes slot _ _) (by decide)

theorem memoryWf_closed : MachineClosed fun s t => Memory.wf s.memory → Memory.wf t.memory where
  toUnitClosed := memoryWf_capture.unit fun _ _ => id
  request _ := memoryWf_of_changes (placeInternal_changes _ _) (by decide)
  guards _ _ := id
  tickets _ _ := id
  moved _ := memoryWf_of_changes (moveReturn_changes _ _ _) (by decide)
  foreign _ := id
  accept _ _ := id
  leaveUp _ := id
  leaveIn _ _ := memoryWf_of_changes (leaveInternal_changes _) (by decide)
  takeRead {s _ _} _ _ _ _ := memoryWf_of_changes (t := leaveInternal s) (leaveInternal_changes _) (by decide)
  fetch s := memoryWf_of_changes (issueFetch_changes s) (by decide)
  settings _ := id
  write := portWrite_wf
  restart _ _ _ := id

/-- Settles O33: memory is written a byte at a time, and a byte is written in its place. -/
theorem memoryStaysCanonical : Obligations.MemoryStaysCanonical := fun _ _ canonical run =>
  step_closed memoryWf_closed (TableWork.of_changes fun c => memoryWf_of_changes c (by decide)) memoryWf_capture.homing
    (fun _ => id) run canonical

end Sys2Proof.Machine
end

section
/-! SUPPORT. The law of the strobe and trigger lines (O27). -/
namespace Sys2Proof.Machine

/-! ## Lines that are low stay low -/

/-- No strobe line and no trigger line is raised. -/
def LinesLow (s : State) : Prop :=
  s.capture.strobe = { v := false, r := false } ∧ s.capture.trig = { v := false, r := false }

theorem linesLow_of_capture {s t : State} (same : t.capture = s.capture) : LinesLow s → LinesLow t := by
  unfold LinesLow
  rw [same]
  exact id

theorem StrobeSafe.of_low {s : State} : LinesLow s → StrobeSafe s := fun ⟨strobe, trig⟩ =>
  ⟨strobe.trans trig.symm, fun raised => absurd strobe raised⟩

/-- What a state with a line raised is like. -/
theorem StrobeSafe.raised {s : State} (safe : StrobeSafe s) (raised : ¬ LinesLow s) :
    s.seq.arm = .idle ∧ ∃ c f raisedAt, s.capture.state = .exposing c (.strobe f raisedAt) := by
  obtain ⟨same, strobing⟩ := safe
  exact strobing fun low => raised ⟨low, same.symm.trans low⟩

theorem linesLow_lowerLines (s : State) : LinesLow (lowerLines s) := ⟨rfl, rfl⟩

/-- What the two units do, all but the raising of a strobe, raises no line. -/
theorem linesLow_capture : CaptureClosed fun s t => LinesLow s → LinesLow t where
  refl _ := id
  trans first second := second ∘ first
  rest c := linesLow_of_capture (c.get .capture (by decide))
  hand r s := linesLow_of_capture ((handReturn_changes r s).get .capture (by decide))
  volume _ _ := id
  bar _ := id
  head _ := id
  place _ := linesLow_of_capture ((placeInternal_changes _ _).get .capture (by decide))
  windows _ := id
  guarded _ _ := id
  lost _ := id
  seq _ _ := id
  state _ _ := id
  lines s := fun _ => linesLow_lowerLines s
  givenUp _ := id
  armed {p s} _ slot := linesLow_of_capture (s := { s with frames := { s.frames with
    guardReserved := s.frames.guardReserved + sideCount p.sides } })
    ((armWindows_changes slot _ _).get .capture (by decide))

/-! ## The end of a strobe lowers the lines -/

theorem strobeEnds_low (f : FireRecord) (e : Nat) (isCut : Bool) (o : OutcomeCode) (s : State) :
    LinesLow (strobeEnds f e isCut o s) :=
  endCapture_closed linesLow_capture _ _ _ <|
    completeFullWindows_closed linesLow_capture.toFrameClosed _ <|
    giveStrobeEnd_closed linesLow_capture.toFrameClosed e isCut _ (linesLow_lowerLines s)

theorem cutStrobe_low (f : FireRecord) (raisedAt : Word) (o : OutcomeCode) (s : State) :
    LinesLow (cutStrobe f raisedAt o s) := by
  unfold cutStrobe
  split
  · exact strobeEnds_low _ _ _ _ s
  · exact strobeEnds_low _ _ _ _ s

/-! ## What the units make of a raised strobe -/

theorem strobeSafe_of_same {s t : State} (seq : t.seq.arm = s.seq.arm) (capture : t.capture = s.capture) :
    StrobeSafe s → StrobeSafe t := by
  unfold StrobeSafe
  rw [seq, capture]
  exact id

theorem strobeSafe_of_changes {ps : List Part} {s t : State} (c : Changes ps s t) (seq : Part.seq ∉ ps)
    (capture : Part.capture ∉ ps) : StrobeSafe s → StrobeSafe t :=
  strobeSafe_of_same (congrArg Sequencer.arm (c.get .seq seq)) (c.get .capture capture)

/-- An operation that leaves low lines low is safe if it is so where a strobe is raised. -/
theorem strobeSafe_of_raised {s t : State} (low : LinesLow s → LinesLow t)
    (raised : s.seq.arm = .idle → ∀ c f raisedAt, s.capture.state = .exposing c (.strobe f raisedAt) → StrobeSafe s →
      StrobeSafe t) (safe : StrobeSafe s) : StrobeSafe t := by
  by_cases lines : LinesLow s
  · exact .of_low (low lines)
  · obtain ⟨idle, c, f, raisedAt, strobing⟩ := safe.raised lines
    exact raised idle c f raisedAt strobing safe

theorem setArm_strobeSafe (a : ArmState) (s : State) : StrobeSafe s → StrobeSafe (setArm a s) := by
  refine strobeSafe_of_raised (linesLow_capture.turn.arm a s) fun idle c f raisedAt strobing safe => ?_
  by_cases stays : a = .idle
  · subst stays
    exact strobeSafe_of_same (s := s) (by simp [setArm, idle, setSeq]) (by simp [setArm, setSeq]) safe
  · have cut : setArm a s =
        cutStrobe f raisedAt .armFault (setSeq { s.seq with arm := a, armPhase := .none, platenPhase := .none } s) := by
      simp only [setArm, idle, stays, ne_eq, not_false_eq_true, and_self, if_true, captureArmLeft, setSeq, strobing]
    rw [cut]
    exact .of_low (cutStrobe_low _ _ _ _)

theorem strobeSafe_turn : TurnClosed fun s t => StrobeSafe s → StrobeSafe t where
  refl _ := id
  trans first second := second ∘ first
  rest c := strobeSafe_of_changes c (by decide) (by decide)
  hand r s := strobeSafe_of_changes (handReturn_changes r s) (by decide) (by decide)
  volume _ _ := id
  bar _ := id
  head _ := id
  seq {_ _} same := strobeSafe_of_same same rfl
  arm := setArm_strobeSafe

/-- R95: a strobe is raised with the arm IDLE. -/
theorem finalParkCheck_strobeSafe (c : CaptureRecord) (f : FireRecord) {s : State} (low : LinesLow s) :
    StrobeSafe (finalParkCheck c f s) := by
  have abandoned : ∀ o d, StrobeSafe (abandonFire o d s) := fun o d =>
    .of_low (abandonFire_closed linesLow_capture o d s low)
  unfold finalParkCheck
  split
  · exact abandoned _ _
  · rename_i idle
    split
    · exact ⟨rfl, fun _ => ⟨Classical.not_not.1 idle, c, f, s.ms, rfl⟩⟩
    all_goals exact abandoned _ _

theorem strobeSafe_unit : UnitClosed fun s t => StrobeSafe s → StrobeSafe t where
  toBaseClosed := strobeSafe_turn.toBaseClosed
  place _ := strobeSafe_of_changes (placeInternal_changes _ _) (by decide) (by decide)
  windows _ := id
  guarded _ _ := id
  lost _ := id
  startTurn {s} _ t sw := startTurn_closed strobeSafe_turn t sw s
  haltSequencer := haltSequencer_closed strobeSafe_turn
  resumeSequencer := resumeSequencer_closed strobeSafe_turn
  enterHoming {s} _ := enterHoming_closed strobeSafe_turn s
  enterFaulted := enterFaulted_closed strobeSafe_turn
  engineStep := engineStep_closed strobeSafe_turn
  gripExpired {s} _ _ leaf multi sw := gripExpired_closed strobeSafe_turn leaf multi sw s
  beginGrip {s} _ := beginGrip_closed strobeSafe_turn s
  leafRead {s} _ leaf sw := leafRead_closed strobeSafe_turn leaf sw s
  releaseExpired {s} _ sw := releaseExpired_closed strobeSafe_turn sw s
  settleExpired {s} settling :=
    strobeSafe_of_raised (settleExpired_closed linesLow_capture.turn (handOver_closed linesLow_capture) s)
      fun idle => by rw [settling] at idle; cases idle
  checkSplit := checkSplit_closed strobeSafe_turn
  homingHeads := homingHeads_closed strobeSafe_turn
  hold {s} free c := strobeSafe_of_raised id fun _ c f raisedAt strobing => by
    rw [captureFree, strobing] at free
    cases of_decide_eq_true free
  haltCapture s := strobeSafe_of_raised (haltCapture_closed linesLow_capture s) fun _ c f raisedAt strobing _ => by
    rw [haltCapture, strobing]
    exact .of_low (cutStrobe_low _ _ _ _)
  captureBarFailed side s := strobeSafe_of_raised (captureBarFailed_closed linesLow_capture side s)
    fun _ c f raisedAt strobing safe => by
      rw [captureBarFailed, strobing]
      exact safe
  recordTemp side temp s := strobeSafe_of_raised (recordTemp_closed linesLow_capture side temp s)
    fun _ c f raisedAt strobing safe => by
      rw [recordTemp, strobing]
      exact safe
  tryAcquire s := strobeSafe_of_raised (tryAcquire_closed linesLow_capture s) fun _ c f raisedAt strobing safe => by
    rw [tryAcquire, strobing]
    exact safe
  gateExamined s := strobeSafe_of_raised (gateExamined_closed linesLow_capture s)
    fun _ c f raisedAt strobing safe => by
      rw [gateExamined, strobing]
      exact safe
  parkWaitEnds s := strobeSafe_of_raised (parkWaitEnds_closed linesLow_capture s)
    fun _ c f raisedAt strobing safe => by
      rw [parkWaitEnds, strobing]
      exact safe
  strobeRaised s := fun safe => by
    by_cases low : LinesLow s
    · unfold strobeRaised
      split
      · split
        · exact finalParkCheck_strobeSafe _ _ low
        · exact safe
      all_goals exact safe
    · obtain ⟨-, c, f, raisedAt, strobing⟩ := safe.raised low
      rw [strobeRaised, strobing]
      exact safe
  strobeElapsed s := strobeSafe_of_raised (strobeElapsed_closed linesLow_capture s)
    fun _ c f raisedAt strobing safe => by
      simp only [strobeElapsed, strobing]
      split
      · exact .of_low (strobeEnds_low _ _ _ _ s)
      · exact safe
  strobeWatched s := strobeSafe_of_raised (strobeWatched_closed linesLow_capture s)
    fun _ c f raisedAt strobing safe => by
      simp only [strobeWatched, strobing]
      split
      · exact .of_low (cutStrobe_low _ _ _ s)
      · exact safe

theorem strobeSafe_closed : MachineClosed fun s t => StrobeSafe s → StrobeSafe t where
  toUnitClosed := strobeSafe_unit
  request _ := strobeSafe_of_changes (placeInternal_changes _ _) (by decide) (by decide)
  guards _ _ := id
  tickets _ _ := id
  moved _ := strobeSafe_of_changes (moveReturn_changes _ _ _) (by decide) (by decide)
  foreign _ := id
  accept _ _ := id
  leaveUp _ := id
  leaveIn _ _ := strobeSafe_of_changes (leaveInternal_changes _) (by decide) (by decide)
  takeRead {s _ _} _ _ _ _ := strobeSafe_of_changes (t := leaveInternal s) (leaveInternal_changes _) (by decide)
    (by decide)
  fetch s := strobeSafe_of_changes (issueFetch_changes s) (by decide) (by decide)
  settings _ := id
  write _ _ _ := id
  restart _ _ _ := fun _ => .of_low ⟨rfl, rfl⟩

/-- Settles O27: the lines are raised by the final park check alone, and whatever leaves IDLE or ends the fire lowers
them. -/
theorem strobeOnlyWhileExposingAndIdle : Obligations.StrobeOnlyWhileExposingAndIdle := fun _ _ safe run =>
  step_closed strobeSafe_closed (TableWork.of_changes fun c => strobeSafe_of_changes c (by decide) (by decide))
    (fun s _ _ x _ => enterHoming_closed strobeSafe_turn x) (fun _ _ => .of_low ⟨rfl, rfl⟩) run safe

end Sys2Proof.Machine
end

section
/-! SUPPORT. The laws of the arm states (O35). -/
namespace Sys2Proof.Machine

/-! ## The laws of one sequencer -/

/-- The laws of Table 4-1, which ask of the sequencer alone. -/
def SeqSound (q : Sequencer) : Prop :=
  (match q.arm with
    | .idle | .homing | .lowering | .reaching | .releasing | .returning | .raising | .settling => q.vacuum = false
    | .sweeping => q.vacuum = true
    | .gripping => ∀ t, q.timer = some t → t.kind = .grip → q.vacuum = true
    | .halted | .faulted => True)
    ∧ (q.turn.isSome →
        q.arm ∈ [ArmState.lowering, .reaching, .gripping, .sweeping, .releasing, .returning, .raising, .settling])
    ∧ (q.platenPhase ≠ .none → q.arm ∈ [ArmState.lowering, .raising, .homing])

theorem armLaws_iff {s : State} : ArmLaws s ↔ SeqSound s.seq := .rfl

theorem SeqSound.turn_none {q : Sequencer} (sound : SeqSound q)
    (out : q.arm = .idle ∨ q.arm = .homing ∨ q.arm = .halted ∨ q.arm = .faulted) : q.turn = none := by
  obtain ⟨-, turn, -⟩ := sound
  rcases h : q.turn with - | t
  · rfl
  · rw [h] at turn
    have := turn rfl
    rcases out with out | out | out | out <;> simp [out] at this

theorem SeqSound.vacuum_off {q : Sequencer} (sound : SeqSound q)
    (out : q.arm ∈ [ArmState.idle, .homing, .lowering, .reaching, .releasing, .returning, .raising, .settling]) :
    q.vacuum = false := by
  obtain ⟨vacuum, -, -⟩ := sound
  simp only [List.mem_cons, List.not_mem_nil, or_false] at out
  rcases out with h | h | h | h | h | h | h | h <;> rwa [h] at vacuum

/-- A state of a turn in which the vacuum is off and no platen move is awaited. -/
theorem SeqSound.of_turning {q : Sequencer}
    (arm : q.arm ∈ [ArmState.lowering, .reaching, .releasing, .returning, .raising, .settling])
    (vacuum : q.vacuum = false) (phase : q.platenPhase = .none) : SeqSound q := by
  refine ⟨?_, fun _ => ?_, fun awaited => absurd phase awaited⟩
  all_goals
    simp only [List.mem_cons, List.not_mem_nil, or_false] at arm
    rcases arm with h | h | h | h | h | h <;> simp [h, vacuum]

theorem seqSound_of_changes {ps : List Part} {s t : State} (c : Changes ps s t) (seq : Part.seq ∉ ps) :
    SeqSound s.seq → SeqSound t.seq := by
  rw [c.get .seq seq]
  exact id

/-! ## What the small operations leave of the sequencer -/

theorem setArm_seq (a : ArmState) (s : State) :
    (setArm a s).seq = { s.seq with arm := a, armPhase := .none, platenPhase := .none } := by
  simp only [setArm]
  split
  · exact (captureArmLeft_changes _).get .seq (by decide)
  · rfl

theorem endTurn_seq (o : OutcomeCode) (d : Nat) (s : State) : (endTurn o d s).seq = { s.seq with turn := none } := by
  unfold endTurn
  split
  · rename_i none
    rw [← none]
  · exact (complete_changes _ _ _ _ _ _).get .seq (by decide)

theorem attendArises_seq (s : State) : (attendArises s).seq = { s.seq with attend := true } := rfl

theorem attendClears_seq (s : State) : (attendClears s).seq = { s.seq with attend := false } := by
  unfold attendClears
  split <;> rfl

/-! ## Faults and halts -/

theorem enterFaulted_sound (c : FaultCause) {s : State} (sound : SeqSound s.seq) : SeqSound (enterFaulted c s).seq := by
  simp only [enterFaulted]
  split
  · exact sound
  · rw [endTurn_seq, attendArises_seq, setArm_seq]
    exact ⟨trivial, nofun, fun awaited => absurd rfl awaited⟩

theorem haltSequencer_sound {s : State} (sound : SeqSound s.seq) : SeqSound (haltSequencer s).seq := by
  unfold haltSequencer
  split
  iterate 3 exact sound
  all_goals
    rw [endTurn_seq, attendArises_seq, setArm_seq]
    exact ⟨trivial, nofun, fun awaited => absurd rfl awaited⟩

/-! ## Moves of the platen upwards -/

theorem afterRaise_sound {s : State} (sound : SeqSound s.seq) (raising : s.seq.arm = .raising ∨ s.seq.arm = .homing) :
    SeqSound (afterRaise s).seq := by
  have vacuum : s.seq.vacuum = false := sound.vacuum_off (by rcases raising with h | h <;> simp [h])
  unfold afterRaise
  split
  · rename_i homing
    rw [setArm_seq]
    refine ⟨vacuum, fun turn => ?_, fun awaited => absurd rfl awaited⟩
    rw [show _ = none from sound.turn_none (.inr (.inl homing))] at turn
    cases turn
  · refine SeqSound.of_turning ?_ ?_ ?_ <;> simp [enterSettling, startTimer, setArm_seq, vacuum]

theorem raiseEnded_sound (k : EndKind) (sw : Switches) {s : State} (sound : SeqSound s.seq)
    (raising : s.seq.arm = .raising ∨ s.seq.arm = .homing) : SeqSound (raiseEnded k sw s).seq := by
  have flagged : (raisedFlag sw s).seq = s.seq := (raisedFlag_changes sw s).get .seq (by decide)
  cases k
  case limit => exact afterRaise_sound (flagged ▸ sound) (flagged ▸ raising)
  case max => exact enterFaulted_sound .platen sound
  all_goals exact sound

theorem beginRaise_sound (sw : Switches) {s : State} (sound : SeqSound s.seq)
    (raising : s.seq.arm = .raising ∨ s.seq.arm = .homing) : SeqSound (beginRaise sw s).seq := by
  have awaiting : ∀ phase, SeqSound { s.seq with platenPhase := phase } := fun phase =>
    ⟨sound.1, sound.2.1, fun _ => by rcases raising with h | h <;> simp [h]⟩
  unfold beginRaise
  split
  · exact awaiting .owed
  · split
    · exact raiseEnded_sound .limit sw (s := endPlaten .limit 0 (sampleSwitches sw s)) sound raising
    · rw [(takePlatenMove_changes _ _).get .seq (by decide)]
      exact awaiting .offered

/-! ## Moves of the arm -/

theorem enterGripping_sound (s : State) : SeqSound (enterGripping s).seq := by
  simp only [enterGripping, beginGrip, startTimer, setVacuum, setSeq_seq, setArm_seq]
  exact ⟨fun _ _ _ => rfl, fun _ => by simp, fun awaited => absurd rfl awaited⟩

theorem armReached_sound (sw : Switches) {s : State} (sound : SeqSound s.seq) : SeqSound (armReached sw s).seq := by
  unfold armReached
  split
  case h_1 => exact enterGripping_sound s
  case h_2 => refine SeqSound.of_turning ?_ ?_ ?_ <;> simp [enterReleasing, startTimer, setVacuum, setArm_seq]
  case h_3 returning =>
    refine beginRaise_sound sw ?_ (.inl (by rw [setArm_seq]))
    rw [setArm_seq]
    exact .of_turning (by simp) (sound.vacuum_off (by simp [returning])) rfl
  case h_4 homing => exact beginRaise_sound sw (s := setSeq _ s) sound (.inr homing)
  all_goals exact sound

theorem offerArm_sound (angle steps top : Nat) {s : State} (sound : SeqSound s.seq) :
    SeqSound (offerArm angle steps top s).seq := by
  rw [offerArm, (takeArmMove_changes _ _ _ _).get .seq (by decide)]
  exact sound

theorem slipCheck_sound (sw : Switches) {s : State} (sound : SeqSound s.seq) : SeqSound (slipCheck sw s).seq := by
  simp only [slipCheck]
  split
  · exact enterFaulted_sound _ sound
  · split
    · exact armReached_sound sw sound
    · split
      · split
        · exact enterFaulted_sound _ (s := setSeq _ s) sound
        · exact offerArm_sound _ _ _ (s := setSeq _ s) sound
      · exact enterFaulted_sound _ sound

theorem makeArmMove_sound (sw : Switches) {s : State} (sound : SeqSound s.seq) : SeqSound (makeArmMove sw s).seq := by
  simp only [makeArmMove]
  split
  · exact enterFaulted_sound _ sound
  · split
    · exact slipCheck_sound sw (s := setSeq _ s) sound
    · exact offerArm_sound _ _ _ (s := setSeq _ s) sound

theorem beginArm_sound (target top : Nat) (sw : Switches) {s : State} (sound : SeqSound s.seq) :
    SeqSound (beginArm target top sw s).seq := by
  simp only [beginArm]
  split
  · exact sound
  · exact makeArmMove_sound sw (s := setSeq _ s) sound

theorem enterReaching_sound (sw : Switches) {s : State} (vacuum : s.seq.vacuum = false) :
    SeqSound (enterReaching sw s).seq :=
  beginArm_sound _ _ sw (by rw [setArm_seq]; exact .of_turning (by simp) vacuum rfl)

theorem enterReturning_sound (top : Nat) (sw : Switches) {s : State} (vacuum : s.seq.vacuum = false) :
    SeqSound (enterReturning top sw s).seq :=
  beginArm_sound _ _ sw (by rw [setArm_seq]; exact .of_turning (by simp) vacuum rfl)

theorem enterSweeping_sound (sw : Switches) {s : State} (vacuum : s.seq.vacuum = true) :
    SeqSound (enterSweeping sw s).seq := by
  refine beginArm_sound _ _ sw ?_
  rw [setSeq_seq, setArm_seq]
  exact ⟨vacuum, fun _ => by simp, fun awaited => absurd rfl awaited⟩

/-! ## Moves of the platen downwards -/

theorem lowerEnded_sound (k : EndKind) (sw : Switches) {s : State} (sound : SeqSound s.seq)
    (lowering : s.seq.arm = .lowering ∨ s.seq.arm = .homing) : SeqSound (lowerEnded k sw s).seq := by
  obtain ⟨vacuum, turn, -⟩ := id sound
  cases k
  case limit =>
    simp only [lowerEnded]
    split
    · exact beginArm_sound _ _ sw (s := setSeq _ s) ⟨vacuum, turn, fun awaited => absurd rfl awaited⟩
    · exact enterReaching_sound sw (sound.vacuum_off (by rcases lowering with h | h <;> simp [h]))
  case max => exact enterFaulted_sound .platen sound
  all_goals exact sound

theorem beginLower_sound (sw : Switches) {s : State} (sound : SeqSound s.seq)
    (lowering : s.seq.arm = .lowering ∨ s.seq.arm = .homing) : SeqSound (beginLower sw s).seq := by
  have awaiting : ∀ phase, SeqSound { s.seq with platenPhase := phase } := fun phase =>
    ⟨sound.1, sound.2.1, fun _ => by rcases lowering with h | h <;> simp [h]⟩
  unfold beginLower
  split
  · exact awaiting .owed
  · split
    · exact lowerEnded_sound .limit sw (s := endPlaten .limit 0 (sampleSwitches sw s)) sound lowering
    · rw [(takePlatenMove_changes _ _).get .seq (by decide)]
      exact awaiting .offered

/-! ## Ends of moves -/

/-- A platen move that is awaited and lowers nothing raises the platen. -/
theorem raises_of_not_lowersPlaten {s : State} (sound : SeqSound s.seq) (awaited : s.seq.platenPhase ≠ .none)
    (up : ¬ lowersPlaten s = true) : s.seq.arm = .raising ∨ s.seq.arm = .homing := by
  obtain ⟨-, -, phase⟩ := sound
  have arm := phase awaited
  simp only [lowersPlaten, decide_eq_true_eq, not_or] at up
  simp only [List.mem_cons, List.not_mem_nil, or_false] at arm
  exact arm.resolve_left up.1

theorem lowers_of_lowersPlaten {s : State} (down : lowersPlaten s = true) :
    s.seq.arm = .lowering ∨ s.seq.arm = .homing := by
  simp only [lowersPlaten, decide_eq_true_eq] at down
  exact down.imp_right And.left

theorem platenReport_sound (r : PlatenEnd) (sw : Switches) {s : State} (sound : SeqSound s.seq) :
    SeqSound (platenReport r sw s).seq := by
  obtain ⟨vacuum, turn, -⟩ := id sound
  have taken : SeqSound { s.seq with platenPhase := .none } := ⟨vacuum, turn, fun awaited => absurd rfl awaited⟩
  simp only [platenReport]
  split
  · exact sound
  · rename_i phase
    split
    · exact beginLower_sound sw (s := setSeq _ s) taken (lowers_of_lowersPlaten ‹_›)
    · exact beginRaise_sound sw (s := setSeq _ s) taken (raises_of_not_lowersPlaten (s := s) sound (by simp [phase]) ‹_›)
  · rename_i phase
    split
    · exact lowerEnded_sound _ sw (s := setSeq _ s) taken (lowers_of_lowersPlaten ‹_›)
    · exact raiseEnded_sound _ _ (s := setSeq _ s) taken (raises_of_not_lowersPlaten (s := s) sound (by simp [phase]) ‹_›)

theorem armReport_sound (r : ArmEnd) (sw : Switches) {s : State} (sound : SeqSound s.seq) :
    SeqSound (armReport r sw s).seq := by
  simp only [armReport]
  split
  · exact sound
  · exact makeArmMove_sound sw (s := setSeq _ s) sound
  · split
    · exact slipCheck_sound sw (s := setSeq _ s) sound
    all_goals exact sound

theorem engineStep_sound (e : Engine) (sw : Switches) {s : State} (sound : SeqSound s.seq) :
    SeqSound (engineStep e sw s).seq := by
  cases e
  case arm =>
    simp only [engineStep, armStep]
    split
    · exact sound
    · split
      · exact armReport_sound _ sw (s := endArm _ _ s) sound
      · split
        · exact armReport_sound _ sw (s := endArm _ _ s) sound
        · exact sound
  case platen =>
    have ended : ∀ k n x, x.seq = s.seq → SeqSound (platenEnds k n sw x).seq := fun k n x same =>
      platenReport_sound _ sw (s := endPlaten k n x) (by rw [endPlaten_seq, same]; exact sound)
    simp only [engineStep, platenStep]
    split
    · exact sound
    · split
      · exact ended _ _ s rfl
      · split
        · exact ended _ _ _ rfl
        · split
          · exact ended _ _ _ rfl
          · exact sound

/-! ## Homing, recovery, and the course of a turn -/

theorem homingHeads_sound (sw : Switches) {s : State} (sound : SeqSound s.seq) : SeqSound (homingHeads sw s).seq := by
  unfold homingHeads
  split
  · rename_i cond
    obtain ⟨homing, -, -⟩ := cond
    obtain ⟨-, turn, phase⟩ := id sound
    refine beginLower_sound sw (s := setSeq _ s) ⟨?_, turn, phase⟩ (.inr homing)
    simp only [setSeq_seq, homing]
    exact sound.vacuum_off (by simp [homing])
  · exact sound

theorem enterHoming_sound {s : State} (turn : s.seq.turn = none) : SeqSound (enterHoming s).seq := by
  simp only [enterHoming, startTimer, setVacuum, setSeq_seq, setArm_seq]
  exact ⟨rfl, fun flying => by simp [turn] at flying, fun awaited => absurd rfl awaited⟩

theorem resumeSequencer_sound (sw : Switches) {s : State} (sound : SeqSound s.seq) :
    SeqSound (resumeSequencer sw s).seq := by
  unfold resumeSequencer
  split
  · exact enterReturning_sound 2 sw (by rw [attendClears_seq]; rfl)
  · rename_i faulted
    exact homingHeads_sound sw (enterHoming_sound (by
      rw [attendClears_seq]
      exact sound.turn_none (.inr (.inr (.inr faulted)))))
  all_goals exact sound

theorem startTurn_sound (t : Turn) (sw : Switches) {s : State} (sound : SeqSound s.seq) (idle : s.seq.arm = .idle) :
    SeqSound (startTurn t sw s).seq := by
  refine beginLower_sound sw ?_ (.inl ?_) <;> rw [setSeq_seq, setArm_seq]
  exact .of_turning (by simp) (sound.vacuum_off (by simp [idle])) rfl

theorem beginGrip_sound {s : State} (sound : SeqSound s.seq) (gripping : s.seq.arm = .gripping) :
    SeqSound (beginGrip s).seq := by
  obtain ⟨-, turn, phase⟩ := sound
  refine ⟨?_, turn, phase⟩
  simp only [beginGrip, startTimer, setVacuum, setSeq_seq, gripping]
  exact fun _ _ _ => trivial

theorem gripExpired_sound (leaf multi : Bool) (sw : Switches) {s : State} (sound : SeqSound s.seq)
    (gripping : s.seq.arm = .gripping) (expired : timerExpired .grip s = true) :
    SeqSound (gripExpired leaf multi sw s).seq := by
  obtain ⟨vacuum, turn, phase⟩ := sound
  unfold gripExpired
  split
  · refine enterSweeping_sound sw ?_
    rw [gripping] at vacuum
    unfold timerExpired at expired
    split at expired
    · rename_i timer
      simp only [Bool.and_eq_true, decide_eq_true_eq] at expired
      exact vacuum _ timer expired.1
    · cases expired
  · split
    · refine ⟨?_, turn, phase⟩
      simp only [startTimer, setSeq_seq, gripping]
      rintro _ ⟨⟩ ⟨⟩
    · exact enterReturning_sound 7 sw rfl

theorem leafRead_sound (leaf : Bool) (sw : Switches) {s : State} (sound : SeqSound s.seq) :
    SeqSound (leafRead leaf sw s).seq :=
  rel_ite (R := fun s t => SeqSound s.seq → SeqSound t.seq) (s := s)
    (fun _ _ => enterReturning_sound 7 sw (by exact rfl)) (fun _ => id) sound

theorem releaseExpired_sound (sw : Switches) {s : State} (sound : SeqSound s.seq) (releasing : s.seq.arm = .releasing) :
    SeqSound (releaseExpired sw s).seq := by
  have vacuum : s.seq.vacuum = false := sound.vacuum_off (by simp [releasing])
  simp only [releaseExpired]
  split
  · exact enterReturning_sound 7 sw vacuum
  · refine enterReturning_sound 7 sw ?_
    rw [(modifyVolume_changes _ _ _).get .seq (by decide)]
    exact vacuum

theorem finishTurn_seq (t : Turn) (s : State) :
    (finishTurn t s).seq.arm = s.seq.arm ∧ (finishTurn t s).seq.vacuum = s.seq.vacuum
      ∧ (finishTurn t s).seq.turn = none ∧ (finishTurn t s).seq.platenPhase = s.seq.platenPhase := by
  have cleared := attendClears_seq s
  unfold finishTurn
  split
  · split
    · simp [handOver, cleared]
    · rw [endTurn_seq, cleared]
      exact ⟨rfl, rfl, rfl, rfl⟩
  all_goals
    rw [attendArises_seq, endTurn_seq]
    exact ⟨rfl, rfl, rfl, rfl⟩

theorem settleExpired_sound {s : State} (sound : SeqSound s.seq) (settling : s.seq.arm = .settling) :
    SeqSound (settleExpired s).seq := by
  have vacuum : s.seq.vacuum = false := sound.vacuum_off (by simp [settling])
  have idle : ∀ q : Sequencer, q.arm = .idle → q.vacuum = false → q.turn = none → q.platenPhase = .none → SeqSound q :=
    fun q arm off turn phase => ⟨by simp [arm, off], fun flying => by simp [turn] at flying, fun awaited => absurd phase awaited⟩
  simp only [settleExpired]
  split
  · rename_i none
    exact idle _ (by rw [setArm_seq]) (by rw [setArm_seq]; exact vacuum) none (by rw [setArm_seq])
  · obtain ⟨arm, off, turn, phase⟩ := finishTurn_seq ‹Turn› (setArm .idle (stopTimer s))
    rw [setArm_seq] at arm off phase
    exact idle _ arm (off.trans vacuum) turn phase

theorem checkSplit_sound (hd : Head) (n : Nat) (angle : Option Nat) {s : State} (sound : SeqSound s.seq) :
    SeqSound (checkSplit hd n angle s).seq := by
  have compared : ∀ a b x, SeqSound x.seq → SeqSound (compareAngles a b x).seq := by
    intro a b x sound
    simp only [compareAngles]
    split
    · exact enterFaulted_sound _ (seqSound_of_changes (latch_changes _ _ _ _ _) (by decide) sound)
    · exact sound
  unfold checkSplit
  split
  · exact sound
  · exact sound
  · split
    · dsimp only
      split
      · exact compared _ _ _ sound
      · exact sound
    · exact sound

/-! ## The law -/

theorem armLaws_unit : UnitClosed fun s t => SeqSound s.seq → SeqSound t.seq where
  refl _ := id
  trans first second := second ∘ first
  rest c := seqSound_of_changes c (by decide)
  hand r s := seqSound_of_changes (handReturn_changes r s) (by decide)
  volume _ _ := id
  bar _ := id
  head _ := id
  place _ := seqSound_of_changes (placeInternal_changes _ _) (by decide)
  windows _ := id
  guarded _ _ := id
  lost _ := id
  startTurn idle t sw sound := startTurn_sound t sw sound idle
  haltSequencer _ := haltSequencer_sound
  resumeSequencer sw _ := resumeSequencer_sound sw
  enterHoming turn _ := enterHoming_sound turn
  enterFaulted c _ := enterFaulted_sound c
  engineStep e sw _ := engineStep_sound e sw
  gripExpired gripping expired leaf multi sw sound := gripExpired_sound leaf multi sw sound gripping expired
  beginGrip gripping sound := beginGrip_sound sound gripping
  leafRead _ leaf sw := leafRead_sound leaf sw
  releaseExpired releasing sw sound := releaseExpired_sound sw sound releasing
  settleExpired settling sound := settleExpired_sound sound settling
  checkSplit hd n angle _ := checkSplit_sound hd n angle
  homingHeads sw _ := homingHeads_sound sw
  hold _ _ := id
  haltCapture s := seqSound_of_changes (haltCapture_changes s) (by decide)
  captureBarFailed side s := seqSound_of_changes (captureBarFailed_changes side s) (by decide)
  recordTemp side temp s := seqSound_of_changes (recordTemp_changes side temp s) (by decide)
  tryAcquire s := seqSound_of_changes (tryAcquire_changes s) (by decide)
  gateExamined s := seqSound_of_changes (gateExamined_changes s) (by decide)
  parkWaitEnds s := seqSound_of_changes (parkWaitEnds_changes s) (by decide)
  strobeRaised s := seqSound_of_changes (strobeRaised_changes s) (by decide)
  strobeElapsed s := seqSound_of_changes (strobeElapsed_changes s) (by decide)
  strobeWatched s := seqSound_of_changes (strobeWatched_changes s) (by decide)

theorem seqSound_fullReset : SeqSound Sequencer.fullReset := ⟨trivial, nofun, fun awaited => absurd rfl awaited⟩

theorem armLaws_closed : MachineClosed fun s t => SeqSound s.seq → SeqSound t.seq where
  toUnitClosed := armLaws_unit
  request _ := seqSound_of_changes (placeInternal_changes _ _) (by decide)
  guards _ _ := id
  tickets _ _ := id
  moved _ := seqSound_of_changes (moveReturn_changes _ _ _) (by decide)
  foreign _ := id
  accept _ _ := id
  leaveUp _ := id
  leaveIn _ _ := seqSound_of_changes (leaveInternal_changes _) (by decide)
  takeRead {s _ _} _ _ _ _ := seqSound_of_changes (t := leaveInternal s) (leaveInternal_changes _) (by decide)
  fetch s := seqSound_of_changes (issueFetch_changes s) (by decide)
  settings _ := id
  write _ _ _ := id
  restart _ _ _ := fun _ => seqSound_fullReset

/-- R177: where the LOADING of a start-up ends no turn is in flight, every block being as RESETN left it. -/
theorem turn_none_of_startLaws {s : State} (laws : StartLaws s) (loading : s.settings.loading.isSome)
    (start : s.settings.restart = none) : s.seq.turn = none := by
  obtain ⟨-, untouched, working, -⟩ := laws
  cases h : s.settings.working with
  | none =>
    rw [(untouched h).1]
    rfl
  | some w =>
    obtain ⟨r, restart, -⟩ := (working (by rw [h]; rfl)).2 loading
    rw [start] at restart
    cases restart

/-- Settles O35. -/
theorem vacuumAndTurnMatchArmState : Obligations.VacuumAndTurnMatchArmState := by
  intro s t arm start run
  have table : ∀ i, TableWork i fun s t => SeqSound s.seq → SeqSound t.seq :=
    TableWork.of_changes fun c => seqSound_of_changes c (by decide)
  rcases step_next run with ⟨-, rfl⟩ | ⟨i, rest, -, run⟩
  · exact tick_closed armLaws_closed s arm
  · by_cases hi : i = .resetnAssert
    · subst hi
      rw [← Host.Outcome.next.inj run]
      exact seqSound_fullReset
    · exact exec_closed (s := { s with pending := rest }) armLaws_closed hi (table i) (fun loading start' x same _ =>
        enterHoming_sound (same ▸ turn_none_of_startLaws (s := s) start loading start')) run arm

end Sys2Proof.Machine
end

section
/-! SUPPORT. The laws of start-up (O34). -/
namespace Sys2Proof.Machine

/-! ## In service -/

theorem serving_of_changes {ps : List Part} {s t : State} (c : Changes ps s t) (settings : Part.settings ∉ ps) :
    ServiceReached s.settings → ServiceReached t.settings := by
  rw [c.get .settings settings]
  exact id

theorem serving_capture : CaptureClosed fun s t => ServiceReached s.settings → ServiceReached t.settings where
  refl _ := id
  trans first second := second ∘ first
  rest c := serving_of_changes c (by decide)
  hand r s := serving_of_changes (handReturn_changes r s) (by decide)
  volume _ _ := id
  bar _ := id
  head _ := id
  place _ := serving_of_changes (placeInternal_changes _ _) (by decide)
  windows _ := id
  guarded _ _ := id
  lost _ := id
  seq _ _ := id
  state _ _ := id
  lines _ := id
  givenUp _ := id
  armed {p s} _ slot := serving_of_changes (s := { s with frames := { s.frames with
    guardReserved := s.frames.guardReserved + sideCount p.sides } }) (armWindows_changes slot _ _) (by decide)

theorem serving_closed : MachineClosed fun s t => ServiceReached s.settings → ServiceReached t.settings where
  toUnitClosed := serving_capture.unit fun _ _ => id
  request _ := serving_of_changes (placeInternal_changes _ _) (by decide)
  guards _ _ := id
  tickets _ _ := id
  moved _ := serving_of_changes (moveReturn_changes _ _ _) (by decide)
  foreign _ := id
  accept _ _ := id
  leaveUp _ := id
  leaveIn _ _ := serving_of_changes (leaveInternal_changes _) (by decide)
  takeRead {s _ _} _ _ _ _ := serving_of_changes (t := leaveInternal s) (leaveInternal_changes _) (by decide)
  fetch s := serving_of_changes (issueFetch_changes s) (by decide)
  settings change := change
  write _ _ _ := id
  restart _ _ _ := fun serving => ⟨rfl, serving.startup, nofun, nofun⟩

theorem serving_exec {i : Instr} (hi : i ≠ .resetnAssert) {s t : State} (serving : ServiceReached s.settings)
    (run : exec i s = .next t) : ServiceReached t.settings :=
  exec_closed serving_closed hi (TableWork.of_changes (fun c => serving_of_changes c (by decide)) i)
    (serving_capture.homing s) run serving

theorem startLaws_of_serving {s : State} (serving : ServiceReached s.settings) : StartLaws s := by
  refine ⟨fun held => absurd held serving.startup.1, fun none => ?_, fun _ => ⟨serving.startup.2, serving.loading⟩,
    serving.left⟩
  have working := serving.working
  rw [none] at working
  cases working

theorem serving_of_startLaws {s : State} (laws : StartLaws s) (working : s.settings.working.isSome) :
    ServiceReached s.settings := by
  obtain ⟨held, -, served, left⟩ := laws
  refine ⟨working, ⟨fun reset => ?_, (served working).1⟩, (served working).2, left⟩
  rw [held reset] at working
  cases working

/-! ## Before service -/

/-- What moves before LOADING first ends (R177): part of the settings unit, the counter, host transactions, frame memory,
and the model's own. -/
structure Early where
  startup : Startup
  cause : ResetCause
  profile : Nat
  settleUntil : Word
  loading : Option Loading
  i2c : List I2cTransfer
  ms : Word
  upstream : List Transaction
  memoryPort : List Transaction
  hostData : List (List Word)
  memory : Memory
  stopLine : Nat
  resumeLine : Nat
  freeChoices : Nat
  pending : List Instr

/-- The state in which no more than that has moved. -/
def Early.state (e : Early) : State :=
  { State.reset with
    settings := { State.reset.settings with
      startup := e.startup, cause := e.cause, profile := e.profile, settleUntil := e.settleUntil, loading := e.loading,
      i2c := e.i2c }
    ms := e.ms
    path := { State.reset.path with upstream := e.upstream, memoryPort := e.memoryPort, hostData := e.hostData }
    memory := e.memory, stopLine := e.stopLine, resumeLine := e.resumeLine, freeChoices := e.freeChoices
    pending := e.pending }

theorem blocksUntouched_iff {s : State} : BlocksUntouched s ↔ ∃ e : Early, s = e.state := by
  refine ⟨fun untouched => ⟨⟨s.settings.startup, s.settings.cause, s.settings.profile, s.settings.settleUntil,
    s.settings.loading, s.settings.i2c, s.ms, s.path.upstream, s.path.memoryPort, s.path.hostData, s.memory, s.stopLine,
    s.resumeLine, s.freeChoices, s.pending⟩, untouched⟩, ?_⟩
  rintro ⟨e, rfl⟩
  rfl

/-- What start-up asks of such a state: it is not in service, and in RESET_HELD it is as RESETN left it. -/
structure Early.Lawful (e : Early) : Prop where
  outOfService : e.startup ≠ .ready ∧ e.startup ≠ .bare
  held : e.startup = .resetHeld → e.state = { State.reset with
    memory := e.memory, stopLine := e.stopLine, resumeLine := e.resumeLine, freeChoices := e.freeChoices
    pending := e.pending }

theorem startLaws_of_early {e : Early} (lawful : e.Lawful) : StartLaws e.state :=
  ⟨lawful.held, fun _ => ⟨blocksUntouched_iff.2 ⟨e, rfl⟩, lawful.outOfService⟩, nofun, nofun⟩

theorem early_of_startLaws {s : State} (laws : StartLaws s) (working : s.settings.working = none) :
    ∃ e : Early, e.Lawful ∧ s = e.state := by
  obtain ⟨held, untouched, -, -⟩ := laws
  obtain ⟨blocks, out⟩ := untouched working
  obtain ⟨e, rfl⟩ := blocksUntouched_iff.1 blocks
  exact ⟨e, ⟨out, held⟩, rfl⟩

/-- Outside RESET_HELD nothing but the start-up state is asked. -/
theorem Early.Lawful.of_running {e : Early} (running : e.startup = .powerSettling ∨ e.startup = .loading) : e.Lawful := by
  refine ⟨?_, fun held => ?_⟩ <;> rcases running with h | h <;> simp_all

theorem Early.Lawful.running {e : Early} (lawful : e.Lawful) (released : e.startup ≠ .resetHeld) :
    e.startup = .powerSettling ∨ e.startup = .loading := by
  obtain ⟨⟨ready, bare⟩, -⟩ := lawful
  cases h : e.startup <;> simp_all

/-- In RESET_HELD no host transaction waits and no section is read. -/
theorem Early.Lawful.held_idle {e : Early} (lawful : e.Lawful) (held : e.startup = .resetHeld) :
    e.upstream = [] ∧ e.loading = none :=
  ⟨congrArg (fun s : State => s.path.upstream) (lawful.held held),
    congrArg (fun s : State => s.settings.loading) (lawful.held held)⟩

theorem Early.Lawful.inService {e : Early} (lawful : e.Lawful) : inService e.state = false := by
  obtain ⟨⟨ready, bare⟩, -⟩ := lawful
  exact decide_eq_false (fun h => h.elim ready bare)

theorem Early.Lawful.unwritten {e : Early} (lawful : e.Lawful) : statusWritten e.state = false := by
  have none : e.state.settings.working = none := rfl
  simp [statusWritten, lawful.inService, none]

/-- The end of a step does nothing before service. -/
theorem settle_early (before : State) {e : Early} (lawful : e.Lawful) : settle before e.state = e.state := by
  simp [settle, roundEdge, startExchange, statusChange, lawful.inService, lawful.unwritten]

/-! ## The path before service -/

theorem serveSilent_early (e : Early) :
    serveSilent e.state = none ∨
      ∃ t rest port data, e.upstream = t :: rest ∧
        serveSilent e.state = some { e with upstream := rest, memoryPort := port, hostData := data : Early }.state := by
  rcases e with ⟨st, ca, pr, su, lo, i2c, ms, up, mp, hd, mem, sl, rl, fc, pe⟩
  rcases up with - | ⟨t, rest⟩
  · exact .inl rfl
  · rcases t with ⟨a, n⟩ | ⟨a, ws⟩
    · exact .inr ⟨_, rest, _, _, rfl, rfl⟩
    · exact .inl rfl

theorem arbiter_early (e : Early) : arbiter e.state = none ∨ ∃ t, arbiter e.state = some (.upstream t) := by
  rcases e with ⟨st, ca, pr, su, lo, i2c, ms, up, mp, hd, mem, sl, rl, fc, pe⟩
  rcases up with - | ⟨t, rest⟩
  · exact .inl rfl
  · exact .inr ⟨t, rfl⟩

/-- Without settings no address is that of a closing word, and every one is plain memory. -/
theorem closings_early (e : Early) (a : Word) (n : Nat) : closings e.state a n = [] := rfl

theorem placeOf_early (e : Early) (a : Nat) : placeOf e.state a = .plain := rfl

theorem pump_early (e : Early) :
    ∃ x : Early, x.startup = e.startup ∧ pump e.state = x.state := by
  unfold pump
  generalize waitingTransactions e.state = n
  induction n generalizing e with
  | zero => exact ⟨e, rfl, rfl⟩
  | succ n ih =>
    unfold pumpBy
    rcases serveSilent_early e with none | ⟨t, rest, port, data, -, served⟩
    · rw [none]
      exact ⟨e, rfl, rfl⟩
    · rw [served]
      exact ih { e with upstream := rest, memoryPort := port, hostData := data }

theorem pump_early_idle {e : Early} (idle : e.upstream = []) : pump e.state = e.state := by
  rcases e with ⟨st, ca, pr, su, lo, i2c, ms, up, mp, hd, mem, sl, rl, fc, pe⟩
  cases idle
  rfl

/-- Without settings every address is plain memory. -/
theorem serveWrite_early (a : Word) (ws : List BusWord) (e : Early) :
    ∃ port mem, serveWrite a ws e.state = { e with upstream := e.upstream.tail, memoryPort := port, memory := mem : Early }.state := by
  have plain : ∀ (l : List (Word × BusWord)) (x : State),
      l.foldl (fun x y => reportWord y.1 y.2 (placeOf e.state y.1.toNat) x) x = x := by
    intro l x
    induction l generalizing x with
    | nil => rfl
    | cons y l ih => exact ih x
  unfold serveWrite
  rw [plain]
  exact ⟨_, _, rfl⟩

/-! ## Commands before service -/

/-- What a command leaves before service: such a state still, or the end of LOADING. -/
def EarlyOrServing (t : State) : Prop := (∃ e : Early, e.Lawful ∧ t = e.state) ∨ ServiceReached t.settings

theorem EarlyOrServing.same {e : Early} (lawful : e.Lawful) : EarlyOrServing e.state := .inl ⟨e, lawful, rfl⟩

/-- What the through-path moves is no matter outside RESET_HELD, and in it no transaction waits. -/
theorem EarlyOrServing.pumped {e : Early} (lawful : e.Lawful) : EarlyOrServing (pump e.state) := by
  by_cases held : e.startup = .resetHeld
  · rw [pump_early_idle (lawful.held_idle held).1]
    exact .same lawful
  · obtain ⟨x, startup, pumped⟩ := pump_early e
    rw [pumped]
    exact .same (.of_running (startup ▸ lawful.running held))

theorem accepted_early (t : Transaction) {e : Early} (lawful : e.Lawful) : EarlyOrServing (pump (acceptUpstream t e.state)) := by
  unfold acceptUpstream
  split
  · exact .pumped lawful
  · rename_i free
    simp only [not_or] at free
    exact .pumped (e := { e with upstream := e.upstream ++ [t] }) (.of_running (lawful.running free.1))

theorem written_early {e : Early} (lawful : e.Lawful) : EarlyOrServing (upstreamWriteServed e.state) := by
  rcases h : e.upstream with - | ⟨t, rest⟩
  · have idle : arbiter e.state = none := by
      simp [arbiter, Early.state, h, State.reset, ThroughPath.fullReset]
    rw [upstreamWriteServed, idle]
    exact .same lawful
  · have chosen : arbiter e.state = some (.upstream t) := by
      simp [arbiter, Early.state, h, State.reset, ThroughPath.fullReset]
    have released : e.startup ≠ .resetHeld := fun held => by simp [(lawful.held_idle held).1] at h
    rw [upstreamWriteServed, chosen]
    rcases t with ⟨a, n⟩ | ⟨a, ws⟩
    · exact .same lawful
    · obtain ⟨port, mem, served⟩ := serveWrite_early a ws e
      dsimp only
      rw [served]
      exact .pumped (.of_running (lawful.running released))

theorem released_early (powerOn : Bool) {e : Early} (lawful : e.Lawful) : EarlyOrServing (releaseReset powerOn e.state) := by
  unfold releaseReset
  split
  · exact .same (e := { e with
      ms := 0, startup := .powerSettling, cause := if powerOn then .powerOn else .resetn, settleUntil := 20 })
      (.of_running (.inl rfl))
  · exact .same lawful

theorem settled_early (profile : Nat) {e : Early} (lawful : e.Lawful) : EarlyOrServing (powerSettled profile e.state) := by
  unfold powerSettled
  split
  · exact .inl ⟨{ e with startup := .loading, profile := profile, loading := some beginLoading, i2c := _ },
      .of_running (.inr rfl), rfl⟩
  · exact .same lawful

theorem retried_early {e : Early} (lawful : e.Lawful) : EarlyOrServing (retryWaitEnds e.state) := by
  unfold retryWaitEnds
  split
  · exact .same lawful
  · rename_i l loading
    have released : e.startup ≠ .resetHeld := fun held => by
      rw [show e.state.settings.loading = e.loading from rfl, (lawful.held_idle held).2] at loading
      cases loading
    split
    · exact .same lawful
    · split
      · exact .inl ⟨{ e with loading := some { l with retryAt := none }, i2c := _ }, .of_running (lawful.running released),
          rfl⟩
      · exact .same lawful

/-- The end of LOADING enters service. -/
theorem endLoading_serving (c : Candidate) (e : Early) : ServiceReached (endLoading c e.state).settings := by
  have entered : ServiceReached
      (enterService (reachedState c.settings)
        (setSettings { e.state.settings with working := some c.settings, loading := none } e.state)).settings :=
    .entered rfl (reachedState_serves _) rfl nofun
  exact serving_closed.hand _ _ <| homeIfReady_closed serving_closed (enterHoming_closed serving_capture.turn _) <|
    latchLoading_closed serving_closed c _ entered

theorem sectionDone_early (l : Loading) (bytes : Option (List Byte)) {e : Early} (running : e.startup = .loading) :
    EarlyOrServing (sectionDone l bytes e.state) := by
  unfold sectionDone
  split
  · exact .inl ⟨{ e with loading := some _, i2c := _ }, .of_running (.inr running), rfl⟩
  · exact .inr (endLoading_serving _ e)

theorem attempted_early (reply : Option (List Byte)) {e : Early} (lawful : e.Lawful) :
    EarlyOrServing (attemptCompletes reply e.state) := by
  unfold attemptCompletes
  split
  · exact .same lawful
  · rename_i l _
    split
    · rename_i due
      unfold readAttempt
      split
      · exact sectionDone_early l _ due.1
      · split
        · exact .inl ⟨{ e with loading := some _ }, .of_running (.inr due.1), rfl⟩
        · exact sectionDone_early l none due.1
    · exact .same lawful

theorem windowAt_reset (i : Nat) : windowAt State.reset i = none := by
  rw [windowAt, Option.join_eq_none_iff]
  cases h : State.reset.frames.windows[i]? with
  | none => exact .inl rfl
  | some w =>
    have := List.mem_of_getElem? h
    simp [State.reset, FrameTracker.fullReset] at this
    exact .inr (congrArg some this)

theorem effect_early {i : Instr} (hi : i ≠ .resetnAssert) {e : Early} (lawful : e.Lawful) :
    EarlyOrServing (effect i e.state) := by
  have out := lawful.inService
  have same : effect i e.state = e.state → EarlyOrServing (effect i e.state) := fun h => by
    rw [h]
    exact .same lawful
  cases i with
  | resetnAssert => exact absurd rfl hi
  | configure => exact .pumped lawful
  | upstreamTransaction t => exact accepted_early t lawful
  | upstreamWrite => exact written_early lawful
  | resetnRelease powerOn => exact released_early powerOn lawful
  | powerSettlingEnd prof1 prof0 => exact settled_early _ lawful
  | eepromReadAttempt reply => exact attempted_early reply lawful
  | eepromRetryWait => exact retried_early lawful
  | stopPress released | resumePress released sw | sampleRound | lampPollDue side | profileCheck prof1 prof0 =>
    exact same (by simp [effect, pressTaken, out])
  | moveStep engine sw => cases engine <;> exact same rfl
  | frameTimeout window =>
    have none : windowAt e.state window = none := windowAt_reset window
    exact same (by simp only [effect, frameExpired, none])
  | halt | ticketArrival | accountWriteServed | returnWriteServed | statusWriteServed | configureImageRead =>
    rcases arbiter_early e with none | ⟨t, chosen⟩
    · exact same (by
        simp only [effect, haltArrives, ticketArrives, accountWriteIsServed, returnWriteIsServed, statusWriteIsServed,
          imageReadServed, none])
    · exact same (by
        simp only [effect, haltArrives, ticketArrives, accountWriteIsServed, returnWriteIsServed, statusWriteIsServed,
          imageReadServed, chosen])
  | accountClosingRead | returnClosingRead | postWordWrite =>
    rcases arbiter_early e with none | ⟨t, chosen⟩
    · exact same (by simp only [effect, accountClosingServed, returnClosingServed, postWordServed, none])
    · rcases t with ⟨a, n⟩ | ⟨a, ws⟩
      · exact same (by
          simp [effect, accountClosingServed, returnClosingServed, postWordServed, chosen, closings_early])
      · exact same (by
          simp [effect, accountClosingServed, returnClosingServed, postWordServed, chosen, coversPostWord, placeOf_early])
  | statusPeriod =>
    exact same (by simp [effect, periodPasses, lawful.unwritten])
  | _ => exact same rfl

theorem EarlyOrServing.settle {t : State} (before : State) (left : EarlyOrServing t) : StartLaws (settle before t) := by
  rcases left with ⟨e, lawful, rfl⟩ | serving
  · rw [settle_early before lawful]
    exact startLaws_of_early lawful
  · exact startLaws_of_serving (settle_closed serving_closed before t serving)

theorem tick_early {e : Early} (lawful : e.Lawful) : StartLaws (tick e.state) := by
  have aged : ∀ {x : Early}, x.Lawful → StartLaws (ageButtons (roundsFallDue x.state)) := by
    intro x lawful
    rw [roundsFallDue, if_neg (by simp [lawful.inService])]
    refine startLaws_of_early (e := { x with
      stopLine := min 40 (x.stopLine + 1), resumeLine := min 40 (x.resumeLine + 1) }) ⟨lawful.outOfService, fun held => ?_⟩
    exact congrArg ageButtons (lawful.held held)
  unfold tick
  by_cases held : e.startup = .resetHeld
  · rw [pump_early_idle (lawful.held_idle held).1, countMs, if_pos (show e.state.settings.startup = _ from held)]
    exact aged lawful
  · obtain ⟨x, startup, pumped⟩ := pump_early e
    rw [pumped, countMs, if_neg (show ¬ x.state.settings.startup = _ from fun h => held (startup.symm.trans h))]
    exact aged (x := { x with ms := x.ms + 1 }) (.of_running (startup ▸ lawful.running held))

theorem assertReset_startLaws (s : State) : StartLaws (assertReset s) :=
  startLaws_of_early (e := ⟨.resetHeld, State.reset.settings.cause, State.reset.settings.profile, State.reset.settings.settleUntil,
    none, [], 0, [], [], [], s.memory, 0, 0, s.freeChoices, s.pending⟩) ⟨⟨nofun, nofun⟩, fun _ => rfl⟩

/-- Settles O34: before LOADING first ends the commands find every block but the settings unit as RESETN left it, and
afterwards the settings unit serves until RESETN. -/
theorem nothingWorksBeforeService : Obligations.NothingWorksBeforeService := by
  intro s t laws run
  cases working : s.settings.working with
  | some w =>
    have serving := serving_of_startLaws laws (by rw [working]; rfl)
    rcases step_next run with ⟨-, rfl⟩ | ⟨i, rest, -, run⟩
    · exact startLaws_of_serving (tick_closed serving_closed s serving)
    · by_cases hi : i = .resetnAssert
      · subst hi
        rw [← Host.Outcome.next.inj run]
        exact assertReset_startLaws _
      · exact startLaws_of_serving (serving_exec (s := { s with pending := rest }) hi serving run)
  | none =>
    obtain ⟨e, lawful, rfl⟩ := early_of_startLaws laws working
    rcases step_next run with ⟨-, rfl⟩ | ⟨i, rest, -, run⟩
    · exact tick_early lawful
    · have begun : Early.Lawful { e with pending := rest } :=
        ⟨lawful.outOfService, fun held => congrArg (fun s : State => { s with pending := rest }) (lawful.held held)⟩
      rcases exec_next run with ⟨rfl, rfl⟩ | ⟨hi, rfl⟩
      · exact assertReset_startLaws _
      · exact (effect_early hi begun).settle _

end Sys2Proof.Machine
end

section
/-! SUPPORT. Chains of field checks (12.1), and the fields of an OPEN (R12). -/
namespace Sys2Proof.Machine

/-! ## Chains of checks -/

/-- A chain of checks gives `r` when all hold, and otherwise the number of the first that fails. -/
structure Checked {α : Type} (checks : List (Nat × Prop)) (x : Except Nat α) (r : α) : Prop where
  passes : AllHold checks → x = .ok r
  fails : ∀ n, FirstFailing checks n → x = .error n

theorem Checked.nil {α : Type} (r : α) : Checked [] (.ok r) r := ⟨fun _ => rfl, nofun⟩

/-- One more check in front of a chain. -/
theorem Checked.cons {α : Type} {k : Nat} {p c : Prop} [Decidable c] {rest : List (Nat × Prop)} {x : Except Nat α}
    {r : α} (check : c ↔ ¬ p) (h : Checked rest x r) : Checked ((k, p) :: rest) (if c then .error k else x) r := by
  refine ⟨fun all => ?_, fun n first => ?_⟩
  · obtain ⟨holds, all⟩ := List.forall_mem_cons.1 all
    rw [if_neg fun h => check.1 h holds]
    exact h.passes all
  · rcases first with ⟨failing, rfl⟩ | ⟨holds, first⟩
    · exact if_pos (check.2 failing)
    · rw [if_neg fun h => check.1 h holds]
      exact h.fails n first

theorem firstFailing_append {checks more : List (Nat × Prop)} {n : Nat} (first : FirstFailing (checks ++ more) n) :
    FirstFailing checks n ∨ AllHold checks ∧ FirstFailing more n := by
  induction checks with
  | nil => exact .inr ⟨nofun, first⟩
  | cons c checks ih =>
    rcases first with failing | ⟨holds, first⟩
    · exact .inl (.inl failing)
    · rcases ih first with first | ⟨all, later⟩
      · exact .inl (.inr ⟨holds, first⟩)
      · exact .inr ⟨List.forall_mem_cons.2 ⟨holds, all⟩, later⟩

/-- A chain that goes on with what a first part of it gave. -/
theorem Checked.append {α β : Type} {checks more : List (Nat × Prop)} {x : Except Nat α} {y : Except Nat β} {r : α}
    {z : β} (h : Checked checks x r) (error : ∀ n, x = .error n → y = .error n) (ok : x = .ok r → Checked more y z) :
    Checked (checks ++ more) y z := by
  refine ⟨fun all => ?_, fun n first => ?_⟩
  · obtain ⟨all, later⟩ := List.forall_mem_append.1 all
    exact (ok (h.passes all)).passes later
  · rcases firstFailing_append first with first | ⟨all, later⟩
    · exact error n (h.fails n first)
    · exact (ok (h.passes all)).fails n later

theorem allHold_or_firstFailing (checks : List (Nat × Prop)) : AllHold checks ∨ ∃ n, FirstFailing checks n := by
  induction checks with
  | nil => exact .inl nofun
  | cons c checks ih =>
    by_cases holds : c.2
    · rcases ih with all | ⟨n, first⟩
      · exact .inl (List.forall_mem_cons.2 ⟨holds, all⟩)
      · exact .inr ⟨n, .inr ⟨holds, first⟩⟩
    · exact .inr ⟨c.1, .inl ⟨holds, rfl⟩⟩

section
variable {α : Type} {checks : List (Nat × Prop)} {x : Except Nat α} {r : α} (h : Checked checks x r)
include h

theorem Checked.of_ok {v : α} (ok : x = .ok v) : v = r ∧ AllHold checks := by
  rcases allHold_or_firstFailing checks with all | ⟨n, first⟩
  · exact ⟨Except.ok.inj (ok.symm.trans (h.passes all)), all⟩
  · exact nomatch ok.symm.trans (h.fails n first)

theorem Checked.of_error {n : Nat} (error : x = .error n) : FirstFailing checks n := by
  rcases allHold_or_firstFailing checks with all | ⟨k, first⟩
  · exact nomatch error.symm.trans (h.passes all)
  · exact Except.error.inj (error.symm.trans (h.fails k first)) ▸ first

end

/-! ## The fields of an OPEN -/

/-- The shelf mark is the first two checks of an OPEN (R11). -/
theorem shelfMarkOf_checked (t : Ticket) :
    Checked
      [(5, 1 ≤ byteAt t.bytes 8 ∧ byteAt t.bytes 8 ≤ 32),
        (6, ((t.bytes.drop 9).take (byteAt t.bytes 8)).length = byteAt t.bytes 8
          ∧ ∀ c ∈ (t.bytes.drop 9).take (byteAt t.bytes 8), 0x20 ≤ c.toNat ∧ c.toNat ≤ 0x7E)]
      (shelfMarkOf t) ((t.bytes.drop 9).take (byteAt t.bytes 8)) := by
  simp only [shelfMarkOf, List.all_eq_true, decide_eq_true_eq]
  refine .cons .rfl ?_
  rw [← ite_not]
  exact .cons .rfl (.nil _)

theorem not_codeAllowed_iff (m : MechSettings) (code : Nat) :
    ¬ codeAllowed m code = true ↔ ¬ (code = 0 ∨ (m.dMin ≤ code ∧ code ≤ m.dMax)) := by
  rw [codeAllowed, decide_eq_true_eq]

theorem openFields_checked (m : MechSettings) (now : Word) (t : Ticket) :
    Checked (openChecks m t) (openFields m now t)
      { shelfMark := (t.bytes.drop 9).take (byteAt t.bytes 8)
        leafCount := if le16At t.bytes 42 = 0 then none else some (le16At t.bytes 42)
        opening := le16At t.bytes 44, take := 0, nextSequence := 0, chain := BitVec.ofNat 32 (le32At t.bytes 60)
        allowance := 1000 * le32At t.bytes 48, doseUsed := 0, target := le16At t.bytes 52
        exposure := le16At t.bytes 54
        drive := { v := startCode m (le16At t.bytes 56), r := startCode m (le16At t.bytes 58) }
        regulation := true, unpressed := false, captureCount := 0, exceptions := [], overfull := false
        openedAt := now } := by
  have highest : highestOpening (if le16At t.bytes 42 = 0 then none else some (le16At t.bytes 42)) =
      if le16At t.bytes 42 = 0 then 65534 else le16At t.bytes 42 - 2 := by
    split <;> rfl
  refine (shelfMarkOf_checked t).append (fun n bad => by simp only [openFields, bad]) fun good => ?_
  simp only [openFields, good]
  refine .cons Classical.not_not.symm <| .cons ?_ <| .cons .rfl <| .cons .rfl <| .cons .rfl <|
    .cons (not_codeAllowed_iff m _) <| .cons (not_codeAllowed_iff m _) <| .nil _
  rw [highest]
  exact Nat.not_le.symm

/-- Settles O1: the fields are one chain of checks, and a chain of checks answers exactly one way. -/
theorem openFieldsChecked : Obligations.OpenFieldsChecked := by
  intro m now t start taken
  have checked := openFields_checked m now t
  exact ⟨checked.passes, fun _ => checked.of_ok, checked.fails, fun _ => checked.of_error⟩

end Sys2Proof.Machine
end

section
/-! SUPPORT. OPEN (R13), MANUAL (R19) and SKIP (R20): the one record each hands over, and their examinations case by
case. -/
namespace Sys2Proof.Machine

/-! ## One record -/

/-- What a ticket that writes one record does to the volume table and the account before it completes: entry `slot`
holds `w` as the record numbers and chains it. -/
structure Noted (slot : Nat) (w : Volume) (c : AccountContent) (active : Option Nat) (s x : State) : Prop where
  own : OwnEffect s x
  entries : x.volumes.entries = s.volumes.entries.set slot (some (afterRecords slot s.ms w [c]))
  active : x.volumes.active = active
  producer : x.account.producer = s.account.producer + 1
  reserved : x.account.reserved = s.account.reserved
  recorded : Recorded x s.account.producer (recordsBytes slot s.ms w [c])

/-- A record handed over once its slot is granted and its entry is written. -/
theorem handAccount_noted {s y : State} {slot : Nat} {w : Volume} (c : AccountContent) (own : OwnEffect s y)
    (entries : y.volumes.entries = s.volumes.entries.set slot (some w)) (account : y.account = (grantSlots 1 s).account)
    (hlt : slot < s.volumes.entries.length) (free : 1 ≤ accountFree s) :
    Noted slot w c y.volumes.active s (handAccount slot c y) := by
  obtain ⟨m, hm⟩ := exists_mapOf_of_accountFree free
  have map : mapOf y = some m := by rwa [mapOf, own.changes.get .settings (by decide)]
  have ms : y.ms = s.ms := own.changes.get .ms (by decide)
  have handed := handAccount_handed (volumeAt_of_entries_set hlt entries) map c
  exact {
    own := own.trans handed.own
    entries := by rw [handed.entries, entries, List.set_set, ms]
    active := handed.active
    producer := by rw [handed.producer, account]; rfl
    reserved := by rw [handed.reserved, account]; rfl
    recorded := by
      have recorded := handed.recorded
      rwa [account, ms] at recorded }

/-- Writing the volume of an entry is an effect on the volume table alone. -/
theorem setVolume_ownEffect (slot : Nat) (w : Option Volume) (s : State) : OwnEffect s (setVolume slot w s) :=
  ⟨(setVolume_changes slot w s).mono (by decide), fun _ he => he⟩

/-- MANUAL and SKIP: the slot granted, the entry written, the NOTE handed over. -/
theorem handAccount_setVolume_noted {s : State} {slot : Nat} {v : Volume} (hv : volumeAt s slot = some v) (w : Volume)
    (c : AccountContent) (free : 1 ≤ accountFree s) :
    Noted slot w c s.volumes.active s (handAccount slot c (setVolume slot (some w) (grantSlots 1 s))) :=
  handAccount_noted (y := setVolume slot (some w) (grantSlots 1 s)) c
    ((grantSlots_ownEffect 1 s).trans (setVolume_ownEffect slot (some w) _)) rfl rfl (lt_length_of_volumeAt hv) free

/-- What the end of a step that writes one record and completes the head leaves. -/
structure NotedAndDone (slot : Nat) (w : Volume) (c : AccountContent) (active : Option Nat) (r : ReturnRecord)
    (s u : State) : Prop where
  entries : u.volumes.entries = s.volumes.entries.set slot (some (afterRecords slot s.ms w [c]))
  active : u.volumes.active = active
  producer : u.account.producer = s.account.producer + 1
  reserved : u.account.reserved = s.account.reserved
  recorded : Recorded u s.account.producer (recordsBytes slot s.ms w [c])
  tickets : u.tickets = withoutHead s.tickets
  handed : Handed [r] s u

theorem Noted.settle_completeHead {k : Kind} {t : Ticket} {s x : State} {slot : Nat} {w : Volume} {c : AccountContent}
    {active : Option Nat} (noted : Noted slot w c active s x) (h : Examined k t s) (hk : k ≠ .restart) (hw : TailWaits s)
    (o : OutcomeCode) (at_ d : Nat) :
    NotedAndDone slot w c active (completionOf t o at_ d s.ms) s (settle s (completeHead t o at_ d x)) := by
  obtain ⟨tickets, handed, volumes, account, settings, waits⟩ :=
    Machine.settle_completeHead h hk hw noted.own o at_ d
  exact {
    entries := by rw [volumes, noted.entries]
    active := by rw [volumes, noted.active]
    producer := by rw [account, noted.producer]
    reserved := by rw [account, noted.reserved]
    recorded := noted.recorded.mono settings waits
    tickets := tickets
    handed := handed }

/-! ## The search of the volume table (R13) -/

section
variable {s : State}

/-- The first entry that holds a shelf mark is the one found. -/
theorem duplicateOf_eq_some {slot : Nat} {w : Volume} {name : List Byte} (hw : volumeAt s slot = some w)
    (same : w.shelfMark = name) (first : ∀ j < slot, ∀ x, volumeAt s j = some x → x.shelfMark ≠ name) :
    duplicateOf s name = some slot := by
  obtain ⟨hlt, held⟩ := volumeAt_eq_some_iff.1 hw
  refine List.findIdx?_eq_some_iff_getElem.2 ⟨hlt, by simp [held, same], fun j hj => ?_⟩
  cases hx : s.volumes.entries[j] with
  | none => simp
  | some x => simpa using first j hj x (volumeAt_eq_some_iff.2 ⟨Nat.lt_trans hj hlt, hx⟩)

theorem duplicateOf_eq_none {name : List Byte} (unheld : ∀ i w, volumeAt s i = some w → w.shelfMark ≠ name) :
    duplicateOf s name = none := by
  refine List.findIdx?_eq_none_iff.2 fun e he => ?_
  obtain ⟨i, hlt, hi⟩ := List.mem_iff_getElem.1 he
  cases e with
  | none => rfl
  | some w => simpa using unheld i w (volumeAt_eq_some_iff.2 ⟨hlt, hi⟩)

theorem volumeAt_eq_getElem {slot : Nat} (hlt : slot < s.volumes.entries.length) :
    volumeAt s slot = s.volumes.entries[slot] := by
  simp [volumeAt, hlt]

/-- The lowest FREE entry is the one found. -/
theorem freeSlot_eq_some {slot : Nat} (hlt : slot < s.volumes.entries.length) (free : volumeAt s slot = none)
    (lowest : ∀ j < slot, (volumeAt s j).isSome) : freeSlot s = some slot := by
  refine List.findIdx?_eq_some_iff_getElem.2 ⟨hlt, by simp [← volumeAt_eq_getElem, free], fun j hj => ?_⟩
  have held := lowest j hj
  rw [volumeAt_eq_getElem (Nat.lt_trans hj hlt)] at held
  simpa [Option.isSome_iff_ne_none] using held

theorem freeSlot_eq_none (held : ∀ i < s.volumes.entries.length, (volumeAt s i).isSome) : freeSlot s = none := by
  refine List.findIdx?_eq_none_iff.2 fun e he => ?_
  obtain ⟨i, hlt, rfl⟩ := List.mem_iff_getElem.1 he
  have held := held i hlt
  rw [volumeAt_eq_getElem hlt] at held
  simpa [Option.isSome_iff_ne_none] using held

theorem exists_freeSlot {slot : Nat} (hlt : slot < s.volumes.entries.length) (free : volumeAt s slot = none) :
    ∃ i, freeSlot s = some i := by
  cases h : freeSlot s with
  | some i => exact ⟨i, rfl⟩
  | none =>
    have held := List.findIdx?_eq_none_iff.1 h _ (List.getElem_mem hlt)
    rw [← volumeAt_eq_getElem hlt, free] at held
    cases held

end

/-! ## OPEN (R13) -/

theorem takeEntry_ownEffect (slot : Nat) (v : Volume) (s : State) : OwnEffect s (takeEntry slot v s) :=
  ⟨(takeEntry_changes slot v s).mono (by decide), fun e he => by unfold takeEntry; split <;> exact he⟩

theorem takeEntry_entries (slot : Nat) (v : Volume) (s : State) :
    (takeEntry slot v s).volumes.entries = s.volumes.entries.set slot (some v) := by
  unfold takeEntry
  split <;> rfl

theorem takeEntry_active (slot : Nat) (v : Volume) (s : State) :
    (takeEntry slot v s).volumes.active = if s.volumes.active = none then some slot else s.volumes.active := by
  unfold takeEntry
  split <;> rfl

/-- The OPENED record on the entry taken. -/
theorem openedNoted {s : State} {slot : Nat} (v : Volume) (hlt : slot < s.volumes.entries.length)
    (free : 1 ≤ accountFree s) :
    Noted slot v (openedContent v) (if s.volumes.active = none then some slot else s.volumes.active) s
      (handAccount slot (openedContent v) (takeEntry slot v (grantSlots 1 s))) := by
  have own := (grantSlots_ownEffect 1 s).trans (takeEntry_ownEffect slot v _)
  have noted := handAccount_noted (openedContent v) own (takeEntry_entries slot v _)
    ((takeEntry_changes slot v _).get .account (by decide)) hlt free
  rwa [takeEntry_active] at noted

section
variable {s : State} {t : Ticket}

theorem exec_openVolume (h : Examined .openVolume t s) :
    exec .openVolume s = .next (settle s (openTicket s t)) :=
  congrArg (fun x => Host.Outcome.next (settle s x)) (examine_own h (openTicket s))

theorem openTicket_error {n : Nat} (h : openFields (mechOf s) s.ms t = .error n) :
    openTicket s t = completeHead t .badField 255 n s := by
  rw [openTicket, h]

section
variable {v : Volume} (h : openFields (mechOf s) s.ms t = .ok v)
include h

theorem openTicket_duplicate {slot : Nat} (held : duplicateOf s v.shelfMark = some slot) :
    openTicket s t = completeHead t .duplicate 255 slot s := by
  simp only [openTicket, h, held]

theorem openTicket_full (unheld : duplicateOf s v.shelfMark = none) (full : freeSlot s = none) :
    openTicket s t = completeHead t .tableFull 255 0 s := by
  simp only [openTicket, h, unheld, full]

theorem openTicket_room {slot : Nat} (unheld : duplicateOf s v.shelfMark = none) (free : freeSlot s = some slot) :
    openTicket s t = if 1 ≤ accountFree s then openEffect t slot v s else refuseSlots 1 s := by
  simp only [openTicket, h, unheld, free]

end

end

/-- Settles O2: the entry taken carries its OPENED record, and the ticket completes. -/
theorem openTakesLowestFreeEntry : Obligations.OpenTakesLowestFreeEntry := by
  intro s t v slot hx hw fields unheld hlt free lowest room
  have run := exec_openVolume hx
  have only : Only (partsOf .openVolume) s (settle s (openTicket s t)) := (openTicket_changes s t).settle_only
  rw [openTicket_room fields (duplicateOf_eq_none unheld) (freeSlot_eq_some hlt free lowest), if_pos room,
    openEffect] at run only
  have done := (openedNoted v hlt room).settle_completeHead hx (by decide) hw .done slot
    (if s.volumes.active = none then 0 else 1)
  exact ⟨_, run, done.entries, rfl, done.active, done.producer, done.reserved, done.recorded, done.tickets, done.handed,
    only⟩

/-- Settles O3: the refusals in the order of the examination, and the hold for want of a slot. -/
theorem openRefusedOrHeld : Obligations.OpenRefusedOrHeld := by
  intro s t hx hw
  have run := exec_openVolume hx
  refine ⟨fun n error => ?_, fun v fields => ⟨fun slot w held same first => ?_,
    fun unheld => ⟨fun full => ?_, fun ⟨slot, hlt, free⟩ short => ?_⟩⟩⟩
  · rw [openTicket_error error] at run
    exact exec_completes_only hx (by decide) hw run
  · rw [openTicket_duplicate fields (duplicateOf_eq_some held same first)] at run
    exact exec_completes_only hx (by decide) hw run
  · rw [openTicket_full fields (duplicateOf_eq_none unheld) (freeSlot_eq_none full)] at run
    exact exec_completes_only hx (by decide) hw run
  · obtain ⟨i, found⟩ := exists_freeSlot hlt free
    rw [openTicket_room fields (duplicateOf_eq_none unheld) found, if_neg (by omega)] at run
    exact exec_heldForSlots run

/-! ## MANUAL (R19) -/

section
variable {s : State} {t : Ticket}

theorem exec_manual (h : Examined .manual t s) : exec .manual s = .next (settle s (manualTicket s t)) :=
  congrArg (fun x => Host.Outcome.next (settle s x)) (examine_own h (manualTicket s))

theorem manualTicket_badField (h : manualCount t = 0 ∨ manualCount t = -32768) :
    manualTicket s t = completeHead t .badField (activeSlotNumber s) 5 s := if_pos h

theorem manualTicket_noVolume (nonzero : manualCount t ≠ 0) (negatable : manualCount t ≠ -32768)
    (inactive : s.volumes.active = none) : manualTicket s t = completeHead t .noVolume 255 0 s := by
  simp [manualTicket, nonzero, negatable, activeVolume, inactive]

/-- A MANUAL of a count in its range on the ACTIVE volume. -/
theorem manualTicket_active (nonzero : manualCount t ≠ 0) (negatable : manualCount t ≠ -32768) {slot : Nat} {v : Volume}
    (active : s.volumes.active = some slot) (hv : volumeAt s slot = some v) :
    manualTicket s t =
      if (highestOpening v.leafCount : Int) < v.opening + manualCount t then completeHead t .atEnd slot 0 s
      else if (v.opening : Int) + manualCount t < 0 then completeHead t .atStart slot 0 s
      else if s.seq.arm ≠ .idle ∨ ¬ captureFree s then s
      else if 1 ≤ accountFree s then manualEffect t slot v ((v.opening : Int) + manualCount t).toNat s
      else refuseSlots 1 s := by
  simp only [manualTicket, nonzero, negatable, or_self, if_false, activeVolume_eq_some active hv]

theorem captureFree_iff (s : State) : captureFree s = true ↔ s.capture.state = .free := by
  cases h : s.capture.state <;> simp [captureFree, h]

/-- A MANUAL to an opening of the volume. -/
theorem manualTicket_inRange (nonzero : manualCount t ≠ 0) (negatable : manualCount t ≠ -32768) {slot o : Nat}
    {v : Volume} (active : s.volumes.active = some slot) (hv : volumeAt s slot = some v)
    (opening : (o : Int) = v.opening + manualCount t) (range : o ≤ highestOpening v.leafCount) :
    manualTicket s t =
      if s.seq.arm ≠ .idle ∨ s.capture.state ≠ .free then s
      else if 1 ≤ accountFree s then manualEffect t slot v o s
      else refuseSlots 1 s := by
  have low : ¬ (o : Int) < 0 := Int.not_lt.2 (Int.natCast_nonneg o)
  have high : ¬ (highestOpening v.leafCount : Int) < o := by omega
  simp only [manualTicket_active nonzero negatable active hv, ← opening, high, low, if_false, captureFree_iff,
    Int.toNat_natCast]

end

/-- Settles O6: the checks in the order of the examination, and the NOTE of the opening moved. -/
theorem manualMovesOpening : Obligations.ManualMovesOpening := by
  intro s t hx hw
  have run := exec_manual hx
  have only : Only (partsOf .manual) s (settle s (manualTicket s t)) := (manualTicket_changes s t).settle_only
  refine ⟨fun bad => ?_, fun nonzero negatable inactive => ?_, fun nonzero negatable slot v active hv =>
    ⟨fun beyond => ?_, fun before => ?_, fun o opening range =>
      ⟨fun busy => ?_, fun idle free short => ?_, fun idle free room => ?_⟩⟩⟩
  · rw [manualTicket_badField bad] at run
    exact exec_completes_only hx (by decide) hw run
  · rw [manualTicket_noVolume nonzero negatable inactive] at run
    exact exec_completes_only hx (by decide) hw run
  · rw [manualTicket_active nonzero negatable active hv, if_pos beyond] at run
    exact exec_completes_only hx (by decide) hw run
  · rw [manualTicket_active nonzero negatable active hv, if_neg (by omega), if_pos before] at run
    exact exec_completes_only hx (by decide) hw run
  all_goals rw [manualTicket_inRange nonzero negatable active hv opening range] at run only
  · rw [if_pos busy] at run
    exact exec_holds run
  · rw [if_neg (by simp [idle, free]), if_neg (by omega)] at run
    exact exec_heldForSlots run
  · rw [if_neg (by simp [idle, free]), if_pos room, manualEffect] at run only
    have done := (handAccount_setVolume_noted hv { v with opening := o, take := 0 } (.noteManual v.opening o)
      room).settle_completeHead hx (by decide) hw .done slot o
    exact ⟨_, run, done.active, done.entries, done.producer, done.reserved, done.recorded, done.tickets, done.handed,
      only⟩

/-! ## SKIP (R20) -/

/-- The sides a byte selects, 1 V, 2 R and 3 both. -/
def writtenSides (n : Nat) : PerSide Bool := { v := decide (n = 1 ∨ n = 3), r := decide (n = 2 ∨ n = 3) }

theorem sidesOf_eq_some {n : Nat} (h : n = 1 ∨ n = 2 ∨ n = 3) : sidesOf n = some (writtenSides n) := by
  rcases h with rfl | rfl | rfl <;> rfl

theorem sidesOf_eq_none {n : Nat} (h1 : n ≠ 1) (h2 : n ≠ 2) (h3 : n ≠ 3) : sidesOf n = none := by
  unfold sidesOf
  split <;> simp_all

theorem sidesNumber_writtenSides {n : Nat} (h : n = 1 ∨ n = 2 ∨ n = 3) : sidesNumber (writtenSides n) = n := by
  rcases h with rfl | rfl | rfl <;> rfl

theorem length_selectedSides (p : PerSide Bool) : (selectedSides p).length = overSides p fun _ => 1 := by
  obtain ⟨v, r⟩ := p
  cases v <;> cases r <;> rfl

theorem length_skipEntries (first count : Nat) (p : PerSide Bool) :
    (skipEntries first count p).length = (overSides p fun _ => 1) * count := by
  simp only [skipEntries, List.length_flatMap, List.length_map, length_selectedSides, List.map_const', List.length_range,
    List.sum_replicate_nat, Nat.mul_comm]

/-- No more entries are placed than are offered. -/
theorem offerAll_placed_le (es : List ExceptionEntry) (v : Volume) : (offerAll es v).2 ≤ es.length := by
  induction es generalizing v with
  | nil => exact Nat.le_refl 0
  | cons e es ih =>
    have rest := ih (offerException e v)
    rw [offerAll, List.length_cons]
    split <;> omega

section
variable {first count placed : Nat} {p : PerSide Bool} {v w : Volume}
  (offered : offerAll (skipEntries first count p) v = (w, placed))
include offered

theorem placed_le_of_offerAll : placed ≤ (overSides p fun _ => 1) * count := by
  have le := offerAll_placed_le (skipEntries first count p) v
  rwa [offered, length_skipEntries] at le

/-- R20: the NOTE counts the entries placed and not inserted. -/
theorem skipEffect_eq {missed : Nat} (sum : (overSides p fun _ => 1) * count = placed + missed) (t : Ticket) (slot : Nat)
    (s : State) :
    skipEffect t slot first count p v s =
      completeHead t .done slot missed
        (handAccount slot (.noteSkip first count (sidesNumber p) placed missed)
          (setVolume slot (some w) (grantSlots 1 s))) := by
  rw [skipEffect, offered, length_skipEntries, sum, Nat.add_sub_cancel_left]

end

section
variable {s : State} {t : Ticket}

theorem exec_skip (h : Examined .skip t s) : exec .skip s = .next (settle s (skipTicket s t)) :=
  congrArg (fun x => Host.Outcome.next (settle s x)) (examine_own h (skipTicket s))

theorem skipTicket_above (h : 7 < slotField t) : skipTicket s t = completeHead t .badField 255 5 s := if_pos h

section
variable (slot : slotField t ≤ 7)
include slot

theorem skipTicket_count (h : ¬ (1 ≤ byteAt t.bytes 12 ∧ byteAt t.bytes 12 ≤ 16)) :
    skipTicket s t = completeHead t .badField (slotField t) 7 s := by
  rw [skipTicket, if_neg (Nat.not_lt.2 slot), if_pos h]

section
variable (count : 1 ≤ byteAt t.bytes 12 ∧ byteAt t.bytes 12 ≤ 16)
include count

theorem skipTicket_sides (h : sidesOf (byteAt t.bytes 13) = none) :
    skipTicket s t = completeHead t .badField (slotField t) 8 s := by
  rw [skipTicket, if_neg (Nat.not_lt.2 slot), if_neg (Classical.not_not.2 count), h]

section
variable {p : PerSide Bool} (sides : sidesOf (byteAt t.bytes 13) = some p)
include sides

theorem skipTicket_free (hv : volumeAt s (slotField t) = none) :
    skipTicket s t = completeHead t .noVolume (slotField t) 0 s := by
  rw [skipTicket, if_neg (Nat.not_lt.2 slot), if_neg (Classical.not_not.2 count), sides, hv]

/-- A SKIP of a slot that holds a volume. -/
theorem skipTicket_held {v : Volume} (hv : volumeAt s (slotField t) = some v) :
    skipTicket s t =
      if lastLeaf v.leafCount < le16At t.bytes 10 + byteAt t.bytes 12 - 1 then
        completeHead t .badField (slotField t) 6 s
      else if 1 ≤ accountFree s then skipEffect t (slotField t) (le16At t.bytes 10) (byteAt t.bytes 12) p v s
      else refuseSlots 1 s := by
  rw [skipTicket, if_neg (Nat.not_lt.2 slot), if_neg (Classical.not_not.2 count), sides, hv]

end
end
end
end

/-- Settles O7: the checks in the order of the examination, and the NOTE of the entries offered. -/
theorem skipOffersEntries : Obligations.SkipOffersEntries := by
  intro s t hx hw
  have run := exec_skip hx
  have only : Only (partsOf .skip) s (settle s (skipTicket s t)) := (skipTicket_changes s t).settle_only
  refine ⟨fun above => ?_, fun slot bad => ?_, fun slot low high => ⟨fun h1 h2 h3 => ?_, fun written =>
    ⟨fun free => ?_, fun v hv => ⟨fun beyond => ?_, fun inRange short => ?_, fun inRange room => ?_⟩⟩⟩⟩
  · rw [skipTicket_above above] at run
    exact exec_completes_only hx (by decide) hw run
  · rw [skipTicket_count slot bad] at run
    exact exec_completes_only hx (by decide) hw run
  · rw [skipTicket_sides slot ⟨low, high⟩ (sidesOf_eq_none h1 h2 h3)] at run
    exact exec_completes_only hx (by decide) hw run
  · rw [skipTicket_free slot ⟨low, high⟩ (sidesOf_eq_some written) free] at run
    exact exec_completes_only hx (by decide) hw run
  all_goals rw [skipTicket_held slot ⟨low, high⟩ (sidesOf_eq_some written) hv] at run only
  · rw [if_pos beyond] at run
    exact exec_completes_only hx (by decide) hw run
  · rw [if_neg (Nat.not_lt.2 inRange), if_neg (by omega)] at run
    exact exec_heldForSlots run
  · rw [if_neg (Nat.not_lt.2 inRange), if_pos room] at run only
    obtain ⟨w, placed, offered⟩ : ∃ w placed, offerAll (skipEntries (le16At t.bytes 10) (byteAt t.bytes 12)
        (writtenSides (byteAt t.bytes 13))) v = (w, placed) := ⟨_, _, rfl⟩
    obtain ⟨missed, sum⟩ := Nat.exists_eq_add_of_le (placed_le_of_offerAll offered)
    rw [skipEffect_eq offered sum, sidesNumber_writtenSides written] at run only
    have done := (handAccount_setVolume_noted hv w
      (.noteSkip (le16At t.bytes 10) (byteAt t.bytes 12) (byteAt t.bytes 13) placed missed) room).settle_completeHead
      hx (by decide) hw .done (slotField t) missed
    exact ⟨_, w, placed, missed, run, offered, sum.symm, done.active, done.entries, done.producer, done.reserved,
      done.recorded, done.tickets, done.handed, only⟩

end Sys2Proof.Machine
end

section
/-! SUPPORT. LIGHT (R128), CLEAR (R165), and the checks made on every ticket under examination (R33 to R36). -/
namespace Sys2Proof.Machine

/-! ## The records handed over -/

/-- From `s` to `x` these records are handed over and the return writer does nothing else, its tone output aside. -/
structure HandsOver (rs : List ReturnRecord) (s x : State) : Prop where
  ret : x.ret = { (handAll rs s).ret with tone := x.ret.tone }
  settings : x.settings = s.settings
  waits : ∀ e ∈ waiting (handAll rs s), e ∈ waiting x

theorem HandsOver.unhanded {s x : State} (ret : x.ret = { s.ret with tone := x.ret.tone })
    (settings : x.settings = s.settings) (waits : ∀ e ∈ waiting s, e ∈ waiting x) : HandsOver [] s x :=
  ⟨ret, settings, waits⟩

theorem handAll_settings (rs : List ReturnRecord) (s : State) : (handAll rs s).settings = s.settings := by
  induction rs generalizing s with
  | nil => rfl
  | cons r rs ih => exact (ih _).trans (handReturn_settings r s)

theorem HandsOver.hand (r : ReturnRecord) (s : State) : HandsOver [r] s (handReturn r s) :=
  ⟨rfl, handReturn_settings r s, fun _ he => he⟩

theorem HandsOver.trans {rs rs' : List ReturnRecord} {s x y : State} (h : HandsOver rs s x) (k : HandsOver rs' x y) :
    HandsOver (rs ++ rs') s y := by
  have settings : x.settings = (withTone x.ret.tone (handAll rs s)).settings :=
    h.settings.trans (handAll_settings rs s).symm
  have both : handAll (rs ++ rs') s = handAll rs' (handAll rs s) := List.foldl_append ..
  have moved := handAll_withTone rs' x.ret.tone (handAll rs s)
  refine ⟨?_, k.settings.trans h.settings, fun e he => k.waits e ?_⟩
  · rw [k.ret, handAll_ret rs' (y := withTone x.ret.tone (handAll rs s)) h.ret settings, moved, both]
    rfl
  · refine mem_handAll rs' (y := withTone x.ret.tone (handAll rs s)) h.ret settings h.waits e ?_
    rw [moved]
    rwa [both] at he

/-- The end of the step leaves the records where they are. -/
theorem HandsOver.settle {rs : List ReturnRecord} {s x : State} (h : HandsOver rs s x) (b : State) :
    Handed rs s (Machine.settle b x) := by
  have ring := settle_get b x .returnRing (by decide)
  have overruns := settle_get b x .overruns (by decide)
  exact ⟨ring.1.trans (by rw [h.ret]), (settle_get b x .returnQueue (by decide)).trans (by rw [h.ret]),
    overruns.1.trans (by rw [h.ret]), overruns.2.trans (by rw [h.ret]),
    (settle_get b x .latched (by decide)).trans (by rw [h.ret]), fun e he => mem_settle b x e (h.waits e he)⟩

/-! ## LIGHT (R127, R128) -/

/-- A first failing field as the error of a chain of checks. -/
def fieldError : Option Nat → Except Nat Unit
  | some n => .error n
  | none => .ok ()

theorem fieldError_eq_ok {x : Option Nat} (h : fieldError x = .ok ()) : x = none := by
  cases x with
  | none => rfl
  | some n => cases h

theorem fieldError_eq_error {x : Option Nat} {n : Nat} (h : fieldError x = .error n) : x = some n := by
  cases x with
  | none => cases h
  | some k => exact congrArg some (Except.error.inj h)

theorem fieldError_ite {c : Prop} [Decidable c] (n : Nat) (x : Option Nat) :
    fieldError (if c then some n else x) = if c then .error n else fieldError x := apply_ite fieldError c _ _

theorem lightField_checked (m : MechSettings) (t : Ticket) :
    Checked (lightChecks m t) (fieldError (lightField m t)) () := by
  simp only [lightField, fieldError_ite]
  refine .cons ?_ (.cons ?_ (.cons Classical.not_imp.symm (.cons Classical.not_imp.symm (.nil ()))))
  all_goals rw [not_codeAllowed_iff, Classical.not_imp]

section
variable {s : State} {t : Ticket}

theorem exec_light (h : Examined .light t s) : exec .light s = .next (settle s (lightTicket s t)) :=
  congrArg (fun x => Host.Outcome.next (settle s x)) (examine_own h (lightTicket s))

theorem lightTicket_badField {n : Nat} (first : FirstFailing (lightChecks (mechOf s) t) n) :
    lightTicket s t = completeHead t .badField (activeSlotNumber s) n s := by
  rw [lightTicket, fieldError_eq_error ((lightField_checked _ t).fails n first)]

theorem lightTicket_noVolume (all : AllHold (lightChecks (mechOf s) t)) (inactive : s.volumes.active = none) :
    lightTicket s t = completeHead t .noVolume 255 0 s := by
  simp only [lightTicket, fieldError_eq_ok ((lightField_checked _ t).passes all), activeVolume, inactive]

theorem lightTicket_active (all : AllHold (lightChecks (mechOf s) t)) {slot : Nat} {v : Volume}
    (active : s.volumes.active = some slot) (hv : volumeAt s slot = some v) :
    lightTicket s t =
      completeHead t .done slot (bitOf (lightVolume t v).regulation 1) (setVolume slot (some (lightVolume t v)) s) := by
  simp only [lightTicket, fieldError_eq_ok ((lightField_checked _ t).passes all), activeVolume_eq_some active hv]

/-- R128: regulation is on under AUTO, off under CODES alone, and else as it was. -/
theorem lightVolume_regulation (t : Ticket) (v : Volume) :
    (ticketFlag t 1 = true → (lightVolume t v).regulation = true)
      ∧ (ticketFlag t 1 = false → ticketFlag t 0 = true → (lightVolume t v).regulation = false)
      ∧ (ticketFlag t 1 = false → ticketFlag t 0 = false → (lightVolume t v).regulation = v.regulation) :=
  ⟨fun auto => by simp [lightVolume, auto], fun hand codes => by simp [lightVolume, hand, codes],
    fun hand codes => by simp [lightVolume, hand, codes]⟩

end

/-- Settles O9: the flagged fields in their order, and the volume as the flags write it. -/
theorem lightWritesActiveVolume : Obligations.LightWritesActiveVolume := by
  intro s t hx hw
  have run := exec_light hx
  have only : Only (partsOf .light) s (settle s (lightTicket s t)) := (lightTicket_changes s t).settle_only
  refine ⟨fun n first => ?_, fun all inactive => ?_, fun slot v all active hv => ?_⟩
  · rw [lightTicket_badField first] at run
    exact exec_completes_only hx (by decide) hw run
  · rw [lightTicket_noVolume all inactive] at run
    exact exec_completes_only hx (by decide) hw run
  · rw [lightTicket_active all active hv] at run only
    obtain ⟨tickets, handed, volumes, -⟩ := settle_completeHead hx (by decide) hw
      (setVolume_ownEffect slot (some (lightVolume t v)) s) .done slot (bitOf (lightVolume t v).regulation 1)
    obtain ⟨auto, codes, kept⟩ := lightVolume_regulation t v
    exact ⟨_, lightVolume t v, run, by rw [volumes]; rfl, by rw [volumes]; rfl, rfl, rfl, rfl, auto, codes, kept, rfl, rfl, tickets, handed, only⟩

/-! ## CLEAR (R165) -/

/-- A head that writes the return writer's own fields and completes leaves the queue and hands over its completion
alone. -/
theorem settle_completeHead_withRet {k : Kind} {t : Ticket} {s : State} (h : Examined k t s) (hk : k ≠ .restart)
    (hw : TailWaits s) (r : ReturnUnit) (o : OutcomeCode) (slot d : Nat) :
    let u := settle s (completeHead t o slot d { s with ret := r })
    u.tickets = withoutHead s.tickets ∧ Handed [completionOf t o slot d s.ms] { s with ret := r } u := by
  have eq : completeHead t o slot d { s with ret := r } =
      handAll [completionOf t o slot d s.ms] (popHead { s with ret := r }) :=
    completeHead_eq_handAll (s := { s with ret := r }) (h.kind_ne_15 hk) hw o slot d
  have frame := handReturn_changes (completionOf t o slot d s.ms) (popHead { s with ret := r })
  rw [eq]
  exact ⟨(settle_get s _ .tickets (by decide)).trans (frame.get .tickets (by decide)),
    Handed.settle s rfl rfl fun _ he => he⟩

/-- R145: a record for which the ring or the queue has room leaves the faults and the overruns as they are. -/
theorem handReturn_latched_of_room (r : ReturnRecord) {s : State} (room : s.ret.queue.length < 16) :
    (handReturn r s).ret.latched = s.ret.latched ∧ (handReturn r s).ret.overruns = s.ret.overruns := by
  have frame := placeReturn_changes r s
  unfold handReturn
  split
  · exact ⟨frame.get .latched (by decide), (frame.get .overruns (by decide)).1⟩
  · exact ⟨rfl, rfl⟩

theorem exec_clear {s : State} {t : Ticket} (h : Examined .clear t s) :
    exec .clear s = .next (settle s (clearTicket s t)) :=
  congrArg (fun x => Host.Outcome.next (settle s x)) (examine_own h (clearTicket s))

/-- Settles O11: the completion is handed over once the latched set is empty. -/
theorem clearEmptiesFaults : Obligations.ClearEmptiesFaults := by
  intro s t hx hw
  have run := exec_clear hx
  have only : Only headParts s (settle s (clearTicket s t)) := (clearTicket_changes s t).settle_only
  rw [clearTicket] at run only
  obtain ⟨tickets, handed⟩ := settle_completeHead_withRet hx (by decide) hw { s.ret with latched := [] } .done 255
    s.ret.latched.length
  refine ⟨_, run, tickets, handed, fun room => ?_, only⟩
  obtain ⟨kept, count⟩ := handReturn_latched_of_room (completionOf t .done 255 s.ret.latched.length s.ms)
    (s := { s with ret := { s.ret with latched := [] } }) room
  obtain ⟨-, -, overruns, -, latched, -⟩ := handed
  rw [latched, overruns]
  exact ⟨kept, count⟩

/-! ## What the memory port does not serve of itself -/

/-- R134: which side of the arbiter is served, and that it is the oldest there. -/
theorem arbiter_eq (s : State) :
    arbiter s =
      if s.path.upstream = [] ∨ (s.path.internal ≠ [] ∧ 8 ≤ s.path.waitCount) then
        s.path.internal.head?.map Grant.internal
      else s.path.upstream.head?.map Grant.upstream := by
  unfold arbiter
  split
  · simp [*]
  · simp [*]
  · simp [*]
  · split <;> simp [*]

/-- What the memory port serves without a command: a read of no closing word, and an image read before the last. -/
def servedSilently (s : State) : Grant → Prop
  | .upstream (.read a n) => closings s a n = []
  | .upstream (.write _ _) => False
  | .internal e => ∃ k < 3, e.purpose = .imageRead k

theorem serveSilent_eq_none_iff (s : State) :
    serveSilent s = none ↔ ∀ g, arbiter s = some g → ¬ servedSilently s g := by
  unfold serveSilent
  cases arbiter s with
  | none => simp
  | some g =>
    rcases g with t | e
    · cases t <;> simp [servedSilently]
    · cases purpose : e.purpose <;> simp [servedSilently, purpose]

theorem pump_eq_self {s : State} (h : serveSilent s = none) : pump s = s := by
  unfold pump
  cases waitingTransactions s with
  | zero => rfl
  | succ n => rw [pumpBy, h]

theorem closings_congr {s x : State} (working : x.settings.working = s.settings.working)
    (startup : x.settings.startup = s.settings.startup) (a : Word) (n : Nat) : closings x a n = closings s a n := by
  unfold closings mapOf inService
  rw [working, startup]

theorem servedSilently_congr {s x : State} (working : x.settings.working = s.settings.working)
    (startup : x.settings.startup = s.settings.startup) (g : Grant) : servedSilently x g ↔ servedSilently s g := by
  rcases g with t | e
  · cases t <;> simp [servedSilently, closings_congr working startup]
  · rfl

/-- Entries added behind the waiting ones are chosen only when nothing waited. -/
theorem arbiter_of_grown {s x : State} {es : List InternalEntry} (upstream : x.path.upstream = s.path.upstream)
    (wait : x.path.waitCount = s.path.waitCount) (internal : x.path.internal = s.path.internal ++ es) :
    arbiter x = arbiter s ∨ ∃ e ∈ es, arbiter x = some (.internal e) := by
  rw [arbiter_eq x, arbiter_eq s, upstream, wait, internal]
  cases s.path.internal with
  | cons e rest => exact .inl (by simp)
  | nil =>
    cases es with
    | nil => exact .inl rfl
    | cons e es =>
      by_cases chosen : s.path.upstream = [] ∨ 8 ≤ s.path.waitCount
      · exact .inr ⟨e, List.mem_cons_self, by simp [chosen]⟩
      · exact .inl (by simp [not_or.1 chosen])

/-- Entries that are no image reads, added behind the waiting ones, are not served of themselves. -/
theorem serveSilent_none_of_grown {s x : State} {es : List InternalEntry} (quiet : serveSilent s = none)
    (settings : x.settings = s.settings) (upstream : x.path.upstream = s.path.upstream)
    (wait : x.path.waitCount = s.path.waitCount) (internal : x.path.internal = s.path.internal ++ es)
    (images : ∀ e ∈ es, ∀ k, e.purpose ≠ .imageRead k) : serveSilent x = none := by
  rw [serveSilent_eq_none_iff] at quiet ⊢
  intro g chosen
  rw [servedSilently_congr (s := s) (by rw [settings]) (by rw [settings])]
  rcases arbiter_of_grown upstream wait internal with same | ⟨e, he, added⟩
  · exact quiet g (same ▸ chosen)
  · rw [added] at chosen
    cases chosen
    exact fun ⟨k, _, image⟩ => images e he k image

theorem placeInternal_internal (e : InternalEntry) (s : State) :
    ∃ es, (placeInternal e s).path.internal = s.path.internal ++ es ∧ ∀ x ∈ es, x = e := by
  unfold placeInternal
  split
  · exact ⟨[e], rfl, fun x hx => List.mem_singleton.1 hx⟩
  · exact ⟨[], (List.append_nil _).symm, nofun⟩

/-- A record handed over adds at most its own write behind the waiting requests. -/
theorem handReturn_internal (r : ReturnRecord) (s : State) :
    ∃ es, (handReturn r s).path.internal = s.path.internal ++ es ∧ ∀ e ∈ es, ∀ k, e.purpose ≠ .imageRead k := by
  unfold handReturn
  split
  · unfold placeReturn
    split
    · exact ⟨[], by simp, nofun⟩
    · refine (placeInternal_internal _ _).imp fun es ⟨internal, only⟩ => ⟨internal, fun e he k => ?_⟩
      rw [only e he]
      exact nofun
  · split
    · exact ⟨[], by simp, nofun⟩
    · unfold discardReturn
      split <;> exact ⟨[], by simp, nofun⟩

/-- R131: after a record handed over the port serves nothing of itself when it did not before. -/
theorem handReturn_serveSilent {s x : State} (quiet : serveSilent s = none) (settings : x.settings = s.settings)
    (path : x.path = s.path) (r : ReturnRecord) : serveSilent (handReturn r x) = none := by
  have frame := handReturn_changes r x
  obtain ⟨es, internal, images⟩ := handReturn_internal r x
  refine serveSilent_none_of_grown quiet ?_ ?_ ?_ (by rw [internal, path]) images
  · exact (frame.get .settings (by decide)).trans settings
  · exact (frame.get .upstream (by decide)).trans (by rw [path])
  · exact (frame.get .waitCount (by decide)).trans (by rw [path])

/-! ## The header (R34, R35) and BARE (R36) -/

/-- The barrier falls for a RESTART that completes and stands for any other ticket. -/
def headDone (k : Kind) (q : TicketUnit) : TicketUnit :=
  { withoutHead q with barrier := decide (k ≠ .restart) && q.barrier }

theorem ticketKind_eq_15_iff {n : Nat} {k : Kind} (h : kindOf n = some k) : n = 15 ↔ k = .restart := by
  unfold kindOf at h
  split at h <;> simp_all <;> rw [← h] <;> simp

theorem dropBarrierFor_eq {k : Kind} {t : Ticket} (kind : kindOf (ticketKind t) = some k) (s : State) :
    (dropBarrierFor (ticketKind t) s) = { s with tickets :=
      { s.tickets with barrier := decide (k ≠ .restart) && s.tickets.barrier } } := by
  by_cases restart : k = .restart
  · rw [dropBarrierFor, if_pos ((ticketKind_eq_15_iff kind).2 restart)]
    simp [restart, dropBarrier]
  · rw [dropBarrierFor, if_neg (mt (ticketKind_eq_15_iff kind).1 restart)]
    simp [restart]

/-- The head of any kind leaves the queue as its completion is handed over. -/
theorem completeHead_eq {k : Kind} {t : Ticket} {s : State} (kind : kindOf (ticketKind t) = some k) (hw : TailWaits s)
    (o : OutcomeCode) (slot d : Nat) :
    completeHead t o slot d s =
      { handReturn (completionOf t o slot d s.ms) (popHead s) with tickets := headDone k s.tickets } := by
  have tickets := (handReturn_changes (completionOf t o slot d s.ms) (popHead s)).get .tickets (by decide)
  have handed : complete (ticketKind t) (ticketTag t) o slot d (popHead s) =
    handReturn (completionOf t o slot d s.ms) (popHead s) := rfl
  rw [completeHead_waits t o slot d s hw, dropBarrierFor_eq kind, handed, show _ = _ from tickets]
  rfl

theorem completeHead_handsOver {k : Kind} {t : Ticket} {s : State} (kind : kindOf (ticketKind t) = some k)
    (hw : TailWaits s) (o : OutcomeCode) (slot d : Nat) :
    HandsOver [completionOf t o slot d s.ms] s (completeHead t o slot d s) := by
  rw [completeHead_eq kind hw]
  have popped : HandsOver [] s (popHead s) := .unhanded rfl rfl fun _ he => he
  exact (popped.trans (.hand _ _)).trans (.unhanded rfl rfl fun _ he => he)

/-- The end of a step that completes the head, of any kind, and does nothing else. -/
theorem settle_completeHead_only {k : Kind} {t : Ticket} {s : State} (kind : kindOf (ticketKind t) = some k)
    (hw : TailWaits s) (o : OutcomeCode) (slot d : Nat) :
    let u := settle s (completeHead t o slot d s)
    u.tickets = headDone k s.tickets ∧ Handed [completionOf t o slot d s.ms] s u ∧ Only headParts s u := by
  refine ⟨?_, (completeHead_handsOver kind hw o slot d).settle s, (completeHead_changes t o slot d s).settle_only⟩
  rw [completeHead_eq kind hw]
  exact settle_get s _ .tickets (by decide)

/-- The memory port serves nothing of itself because of a completion. -/
theorem completeHead_serveSilent {k : Kind} {t : Ticket} {s : State} (kind : kindOf (ticketKind t) = some k)
    (hw : TailWaits s) (quiet : serveSilent s = none) (o : OutcomeCode) (slot d : Nat) :
    serveSilent (completeHead t o slot d s) = none := by
  have handed := handReturn_serveSilent (x := popHead s) quiet rfl rfl (completionOf t o slot d s.ms)
  rw [completeHead_eq kind hw]
  exact serveSilent_none_of_grown (es := []) handed rfl rfl rfl (List.append_nil _).symm nofun

/-- What the commands of an examination have in common: CONFIGURE alone goes on to the port's own services. -/
theorem exec_examined {i : Instr} {k : Kind} (h : examinedKind i = some k) (s : State) :
    ∃ own, exec i s = .next (settle s (if k = .configure then pump (examine k s own) else examine k s own)) := by
  cases i <;> cases h <;> exact ⟨_, rfl⟩

theorem flagLimit_eq (k : Kind) :
    flagLimit k = if k = .light then 16 else if k = .configure ∨ k = .restart then 2 else 1 := by
  cases k <;> rfl

section
variable {k : Kind} {t : Ticket} {s : State} (head : s.tickets.queue.head? = some t)
  (kind : kindOf (ticketKind t) = some k)
include head kind

theorem examine_headerFault {d : Nat} (fault : headerFault k t = some d) (own : Ticket → State) :
    examine k s own = completeHead t .badField 255 d s := by
  obtain ⟨rest, queue⟩ := List.head?_eq_some_iff.1 head
  simp only [examine, queue, kind, if_true, fault]

theorem examine_bare (passes : headerFault k t = none) (bare : s.settings.startup = .bare)
    (other : acceptedInBare k = false) (own : Ticket → State) : examine k s own = completeHead t .notReady 255 0 s := by
  obtain ⟨rest, queue⟩ := List.head?_eq_some_iff.1 head
  simp [examine, queue, kind, passes, bare, other]

end

/-- R33: an examination that completes the head at once does nothing else. -/
theorem exec_refuses_head {i : Instr} {k : Kind} {t : Ticket} {s : State} (hi : examinedKind i = some k)
    (kind : kindOf (ticketKind t) = some k) (hw : TailWaits s) (quiet : k = .configure → serveSilent s = none)
    {o : OutcomeCode} {d : Nat} (refused : ∀ own, examine k s own = completeHead t o 255 d s) :
    ∃ u, exec i s = .next u ∧ u.tickets = headDone k s.tickets ∧ Handed [completionOf t o 255 d s.ms] s u
      ∧ Only headParts s u := by
  obtain ⟨own, run⟩ := exec_examined hi s
  have rests : (if k = .configure then pump (examine k s own) else examine k s own) = completeHead t o 255 d s := by
    rw [refused own]
    split
    · exact pump_eq_self (completeHead_serveSilent kind hw (quiet ‹_›) o 255 d)
    · rfl
  rw [rests] at run
  exact ⟨_, run, settle_completeHead_only kind hw o 255 d⟩

/-- Settles O24: the steps of R33 in their order, the same for every kind. -/
theorem headerChecksComplete : Obligations.HeaderChecksComplete := by
  intro i k s t hi head kind hw quiet
  have refuses := fun {o d} => exec_refuses_head (o := o) (d := d) hi kind hw quiet
  refine ⟨fun index => refuses (examine_headerFault head kind (if_pos index)), fun index undefined => ?_,
    fun index defined bare configure restart clear quiet => ?_⟩
  · rw [← flagLimit_eq, Nat.not_lt] at undefined
    refine refuses (examine_headerFault head kind ?_)
    rw [headerFault, if_neg (Classical.not_not.2 index), if_pos undefined]
  · rw [← flagLimit_eq, ← Nat.not_le] at defined
    refine refuses (examine_bare head kind ?_ bare ?_)
    · rw [headerFault, if_neg (Classical.not_not.2 index), if_neg defined]
    · cases k <;> simp_all [acceptedInBare]

end Sys2Proof.Machine
end

section
/-! SUPPORT. The OVERLAP refusal (R101), and TURN, ADVANCE and CAPTURE (R79, R80, R102, R103): their refusals in order,
their holds and their starts. -/
namespace Sys2Proof.Machine

/-! ## Extents that share a byte (R101) -/

/-- Extents of at least one byte are disjoint exactly when they share none. -/
theorem not_disjoint_iff {a b : Extent} (ha : 0 < a.2) (hb : 0 < b.2) :
    (!disjoint a b) = true ↔ ∃ x, (a.1 ≤ x ∧ x < a.1 + a.2) ∧ b.1 ≤ x ∧ x < b.1 + b.2 := by
  simp only [disjoint, Bool.not_eq_true', decide_eq_false_iff_not]
  constructor
  · intro h
    exact ⟨max a.1 b.1, by omega, by omega⟩
  · rintro ⟨x, hx⟩
    omega

/-- R101: what the check of one side of a request finds. -/
theorem overlaps_iff {s : State} {p : CaptureParams} (length : 0 < frameLength p)
    (extents : ∀ e ∈ protectedExtents s, 0 < e.2) (side other : Side) :
    overlaps s p side other = true ↔
      p.sides.get side = true ∧ ∃ a, (p.buffer.get side ≤ a ∧ a < p.buffer.get side + frameLength p)
        ∧ ((∃ e ∈ protectedExtents s, e.1 ≤ a ∧ a < e.1 + e.2)
          ∨ (p.sides.get other = true ∧ p.buffer.get other ≤ a ∧ a < p.buffer.get other + frameLength p)) := by
  have found : (protectedExtents s).any (fun e => !disjoint (bufferExtent p side) e) = true ↔
      ∃ a, (p.buffer.get side ≤ a ∧ a < p.buffer.get side + frameLength p)
        ∧ ∃ e ∈ protectedExtents s, e.1 ≤ a ∧ a < e.1 + e.2 := by
    simp only [List.any_eq_true]
    constructor
    · rintro ⟨e, he, shared⟩
      obtain ⟨a, inside, ins⟩ := (not_disjoint_iff (a := bufferExtent p side) length (extents e he)).1 shared
      exact ⟨a, inside, e, he, ins⟩
    · rintro ⟨a, inside, e, he, ins⟩
      exact ⟨e, he, (not_disjoint_iff (a := bufferExtent p side) length (extents e he)).2 ⟨a, inside, ins⟩⟩
  have buffers := not_disjoint_iff (a := bufferExtent p side) (b := bufferExtent p other) length length
  simp only [overlaps, Bool.and_eq_true, Bool.or_eq_true, found, buffers]
  refine and_congr_right fun _ => ?_
  simp only [and_or_left, exists_or]
  refine or_congr_right ?_
  constructor
  · rintro ⟨on, a, inside, ins⟩
    exact ⟨a, inside, on, ins⟩
  · rintro ⟨a, inside, on, ins⟩
    exact ⟨on, a, inside, ins⟩

/-- Settles O14: the check of each side finds exactly a shared byte, and V is checked first. -/
theorem overlapMeansSharedByte : Obligations.OverlapMeansSharedByte := by
  intro s p length extents
  have v := overlaps_iff length extents .v .r
  have r := overlaps_iff length extents .r .v
  dsimp only
  rw [← v, ← r, overlapRefusal]
  cases overlaps s p .v .r <;> cases overlaps s p .r .v <;> simp

/-! ## The written fields (12.1) -/

theorem forwardOf_written {n : Nat} {forward : Bool} (h : n = if forward then 1 else 2) : forwardOf n = some forward := by
  cases forward <;> rw [h] <;> rfl

theorem forwardOf_eq_none {n : Nat} (h1 : n ≠ 1) (h2 : n ≠ 2) : forwardOf n = none := by
  unfold forwardOf
  split <;> simp_all

theorem Checked.cons_of_holds {α : Type} {k : Nat} {p : Prop} {rest : List (Nat × Prop)} {x : Except Nat α} {r : α}
    (holds : p) (h : Checked rest x r) : Checked ((k, p) :: rest) x r := by
  refine ⟨fun all => h.passes (List.forall_mem_cons.1 all).2, fun n first => ?_⟩
  rcases first with ⟨failing, -⟩ | ⟨-, first⟩
  · exact absurd holds failing
  · exact h.fails n first

theorem Checked.cons_of_fails {α : Type} {k : Nat} {p : Prop} {rest : List (Nat × Prop)} {r : α} (fails : ¬ p) :
    Checked ((k, p) :: rest) (.error k) r := by
  refine ⟨fun all => absurd (List.forall_mem_cons.1 all).1 fails, fun n first => ?_⟩
  rcases first with ⟨-, rfl⟩ | ⟨holds, -⟩
  · rfl
  · exact absurd holds fails

/-- The parameters of a capture are taken as written when every field is in its range (R101). -/
theorem captureFields_checked (t : Ticket) (o n : Nat) :
    Checked (captureChecks t o n) (captureFields t o n) (captureWritten t o) := by
  by_cases written : byteAt t.bytes o = 1 ∨ byteAt t.bytes o = 2 ∨ byteAt t.bytes o = 3
  · simp only [captureFields, sidesOf_eq_some written, writtenSides, frameLength, decide_eq_true_eq]
    refine .cons_of_holds (by omega) ?_
    refine .cons ?_ (.cons ?_ (.cons .rfl (.cons .rfl (.cons .rfl (.cons ?_ (.cons ?_ (.cons ?_ (.nil _))))))))
    all_goals simp only [Classical.not_imp, gt_iff_lt, Nat.not_le, ne_eq]
  · have none : sidesOf (byteAt t.bytes o) = none := sidesOf_eq_none (by omega) (by omega) (by omega)
    simp only [captureFields, none]
    exact .cons_of_fails (by omega)

/-! ## The refusals of a turn and of a capture -/

section
variable {s : State}

theorem activeSlotNumber_active {slot : Nat} {v : Volume} (active : s.volumes.active = some slot)
    (hv : volumeAt s slot = some v) : activeSlotNumber s = slot := by
  rw [activeSlotNumber, activeVolume_eq_some active hv]

theorem activeSlotNumber_none (inactive : s.volumes.active = none) : activeSlotNumber s = 255 := by
  simp [activeSlotNumber, activeVolume, inactive]

theorem turnRefusal_locked (locked : s.settings.lock = true) (forward : Bool) :
    turnRefusal s forward = some (.mechLocked, 0) := if_pos locked

theorem turnRefusal_noVolume (unlocked : s.settings.lock = false) (inactive : s.volumes.active = none)
    (forward : Bool) : turnRefusal s forward = some (.noVolume, 0) := by
  simp [turnRefusal, unlocked, activeVolume, inactive]

/-- The refusals of a turn of the ACTIVE volume. -/
theorem turnRefusal_active (unlocked : s.settings.lock = false) {slot : Nat} {v : Volume}
    (active : s.volumes.active = some slot) (hv : volumeAt s slot = some v) (forward : Bool) :
    turnRefusal s forward =
      if s.seq.arm = .halted ∨ s.seq.arm = .faulted then some (.armFault, armNumber s.seq.arm)
      else if bothDown s then some (.noPosition, 0)
      else if forward ∧ v.opening = highestOpening v.leafCount then some (.atEnd, 0)
      else if ¬ forward ∧ v.opening = 0 then some (.atStart, 0)
      else none := by
  simp [turnRefusal, unlocked, activeVolume_eq_some active hv]

theorem bothDown_iff (s : State) :
    bothDown s = true ↔ s.position.heads.a.up = false ∧ s.position.heads.b.up = false := by
  simp [bothDown]

/-- The refusals of a turn in their order, for a ticket that answers each as `refused` says, and what holds of the
ACTIVE volume when none stands. -/
theorem turnRefusals {forward : Bool} {refused : OutcomeCode → Nat → Nat → Prop} {passes : Nat → Volume → Prop}
    (refuses : ∀ o d, turnRefusal s forward = some (o, d) → refused o (activeSlotNumber s) d)
    (passed : ∀ slot v, s.volumes.active = some slot → volumeAt s slot = some v → turnRefusal s forward = none →
      passes slot v) :
    (s.settings.lock = true → refused .mechLocked (activeSlotNumber s) 0)
      ∧ (s.settings.lock = false →
        (s.volumes.active = none → refused .noVolume 255 0)
        ∧ ∀ slot v, s.volumes.active = some slot → volumeAt s slot = some v →
          (s.seq.arm = .halted → refused .armFault slot 10) ∧ (s.seq.arm = .faulted → refused .armFault slot 11)
          ∧ (s.seq.arm ≠ .halted → s.seq.arm ≠ .faulted →
            (s.position.heads.a.up = false → s.position.heads.b.up = false → refused .noPosition slot 0)
            ∧ (s.position.heads.a.up = true ∨ s.position.heads.b.up = true →
              (forward = true → v.opening = highestOpening v.leafCount → refused .atEnd slot 0)
              ∧ (forward = false → v.opening = 0 → refused .atStart slot 0)
              ∧ ((forward = true → v.opening ≠ highestOpening v.leafCount) → (forward = false → v.opening ≠ 0) →
                passes slot v)))) := by
  refine ⟨fun locked => refuses _ _ (turnRefusal_locked locked forward), fun unlocked =>
    ⟨fun inactive => ?_, fun slot v active hv => ?_⟩⟩
  · rw [← activeSlotNumber_none inactive]
    exact refuses _ _ (turnRefusal_noVolume unlocked inactive forward)
  have here := turnRefusal_active unlocked active hv forward
  rw [activeSlotNumber_active active hv] at refuses
  refine ⟨fun halted => ?_, fun faulted => ?_, fun running working => ⟨fun a b => ?_, fun up =>
    ⟨fun ahead last => ?_, fun back first => ?_, fun ahead back => ?_⟩⟩⟩
  · exact refuses _ _ (by rw [here, if_pos (.inl halted), halted]; rfl)
  · exact refuses _ _ (by rw [here, if_pos (.inr faulted), faulted]; rfl)
  all_goals rw [if_neg (not_or.2 ⟨running, working⟩)] at here
  · exact refuses _ _ (by rw [here, if_pos ((bothDown_iff s).2 ⟨a, b⟩)])
  all_goals rw [if_neg (by rw [bothDown_iff]; rcases up with a | b <;> simp [*])] at here
  · exact refuses _ _ (by rw [here, if_pos ⟨ahead, last⟩])
  · exact refuses _ _ (by rw [here, if_neg (by simp [back]), if_pos ⟨by simp [back], first⟩])
  · refine passed slot v active hv ?_
    rw [here, if_neg fun h => ahead h.1 h.2, if_neg fun h => back (Bool.eq_false_iff.2 h.1) h.2]

end

/-! ## The start of a turn (R80) -/

theorem captureArmLeft_of_not_exposing {s : State} (h : ∀ c st, s.capture.state ≠ .exposing c st) :
    captureArmLeft s = s := by
  unfold captureArmLeft
  split <;> simp_all

/-- R80: a turn that starts with the platen engine IDLE and the DOWN switch open offers the lowering at once. -/
theorem startTurn_eq {s : State} {sw : Switches} (turn : Turn) (dark : ∀ c st, s.capture.state ≠ .exposing c st)
    (platen : s.motion.platen = none) (open_ : sw.down = false) :
    startTurn turn sw s =
      { s with
        seq := { s.seq with arm := .lowering, turn := some turn, outcome := .done, retries := 0, corrections := 0,
                            armPhase := .none, platenPhase := .offered }
        motion := { s.motion with
          switches := sw, platen := some { down := true, ramp := newRamp (mechOf s).platenMax 7 } } } := by
  have arm : setArm .lowering s =
      setSeq { s.seq with arm := .lowering, armPhase := .none, platenPhase := .none } s := by
    have left := captureArmLeft_of_not_exposing
      (s := setSeq { s.seq with arm := .lowering, armPhase := .none, platenPhase := .none } s) dark
    simp only [setArm, left, ite_self]
  have begun : ∀ x : State, x.motion.platen = none →
      beginLower sw x = takePlatenMove true (sampleSwitches sw (setSeq { x.seq with platenPhase := .offered } x)) := by
    intro x rests
    simp [beginLower, rests, soughtClosed, open_]
  rw [startTurn, arm, begun _ (by exact platen)]
  rfl

theorem startTurn_begun {s : State} {sw : Switches} (turn : Turn) (hw : TailWaits s)
    (dark : ∀ c st, s.capture.state ≠ .exposing c st) (platen : s.motion.platen = none) (open_ : sw.down = false) :
    TurnBegun sw turn s (settle s (startTurn turn sw (startHead s))) := by
  rw [startHead_waits s hw, startTurn_eq turn (by exact dark) (by exact platen) open_]
  refine ⟨settle_get s _ .seq (by decide), settle_get s _ .motion (by decide), settle_get s _ .tickets (by decide),
    Changes.settle_only fun p hp => ?_⟩
  cases p <;> simp_all [Part.same]

/-! ## TURN (R79, R80) -/

theorem turnHolds_iff (s : State) :
    turnHolds s = true ↔ s.seq.arm ≠ .idle ∨ (∃ c st, s.capture.state = .exposing c st) ∨ advanceInFlight s = true
      ∨ 12 ≤ s.ret.queue.length := by
  have exposing : isExposing s = true ↔ ∃ c st, s.capture.state = .exposing c st := by
    cases h : s.capture.state <;> simp [isExposing, h]
  simp [turnHolds, returnQueueHigh, exposing, or_assoc]

section
variable {s : State} {t : Ticket} {sw : Switches}

theorem exec_turn (h : Examined .turn t s) : exec (.turn sw) s = .next (settle s (turnTicket sw s t)) :=
  congrArg (fun x => Host.Outcome.next (settle s x)) (examine_own h (turnTicket sw s))

theorem turnTicket_badField (h1 : byteAt t.bytes 8 ≠ 1) (h2 : byteAt t.bytes 8 ≠ 2) :
    turnTicket sw s t = completeHead t .badField (activeSlotNumber s) 5 s := by
  rw [turnTicket, forwardOf_eq_none h1 h2]

section
variable {forward : Bool} (written : byteAt t.bytes 8 = if forward then 1 else 2)
include written

theorem turnTicket_refused {o : OutcomeCode} {d : Nat} (refused : turnRefusal s forward = some (o, d)) :
    turnTicket sw s t = completeHead t o (activeSlotNumber s) d s := by
  simp only [turnTicket, forwardOf_written written, refused]

theorem turnTicket_passed (passed : turnRefusal s forward = none) :
    turnTicket sw s t = if turnHolds s then s else turnStart t forward sw s := by
  simp only [turnTicket, forwardOf_written written, passed]

end
end

/-- The command completes the head with this outcome and does nothing else. -/
def RefusesHead (i : Instr) (t : Ticket) (s : State) (o : OutcomeCode) (slot d : Nat) : Prop :=
  ∃ u, exec i s = .next u ∧ u.tickets = withoutHead s.tickets ∧ Handed [completionOf t o slot d s.ms] s u
    ∧ Only headParts s u

/-- Settles O12: the refusals of a turn, its holds, and its start. -/
theorem turnExamined : Obligations.TurnExamined := by
  intro s t sw hx hw
  have run := exec_turn (sw := sw) hx
  refine ⟨fun h1 h2 => ?_, fun forward written => turnRefusals (refused := RefusesHead (.turn sw) t s)
    (fun o d refusal => ?_) fun slot v active hv passed => ⟨fun busy => ?_, fun idle dark none low platen open_ => ?_⟩⟩
  · rw [turnTicket_badField h1 h2] at run
    exact exec_completes_only hx (by decide) hw run
  · rw [turnTicket_refused written refusal] at run
    exact exec_completes_only hx (by decide) hw run
  · rw [turnTicket_passed written passed, if_pos ((turnHolds_iff s).2 busy)] at run
    exact exec_holds run
  · have ready : ¬ turnHolds s = true := by simp [turnHolds_iff, idle, dark, none, low]
    rw [turnTicket_passed written passed, if_neg ready, turnStart, activeSlotNumber_active active hv] at run
    exact ⟨_, run, startTurn_begun _ hw dark platen open_⟩

/-! ## The lamps and the allowance (R94, R103) -/

section
variable {s : State} {sides : PerSide Bool} {v : Volume}

theorem failedSides_eq_sidesIn (s : State) (sides : PerSide Bool) : failedSides s sides = sidesIn isFailed sides s := by
  simp [failedSides, sidesIn, sidesNumber]

theorem hotSides_eq_sidesIn (s : State) (sides : PerSide Bool) :
    hotSides s sides = sidesIn (fun b => decide (b = .hot)) sides s := by
  simp [hotSides, sidesIn, sidesNumber]

theorem doseCap_eq_capOf (v : Volume) (sides : PerSide Bool) : doseCap v sides = capOf v sides := rfl

theorem lampRefusal_eq_some {o : OutcomeCode} {d : Nat} (h : LampRefused s sides v o d) :
    lampRefusal s sides v = some (o, d) := by
  rw [lampRefusal, failedSides_eq_sidesIn, hotSides_eq_sidesIn, doseCap_eq_capOf]
  rcases h with ⟨failed, rfl, rfl⟩ | ⟨sound, hot, rfl, rfl⟩ | ⟨sound, cool, short, rfl, rfl⟩
  · rw [if_pos failed]
  · rw [if_neg (Classical.not_not.2 sound), if_pos hot]
  · rw [if_neg (Classical.not_not.2 sound), if_neg (Classical.not_not.2 cool), if_pos short]

theorem lampRefusal_eq_none (h : LampPasses s sides v) : lampRefusal s sides v = none := by
  obtain ⟨sound, cool, room⟩ := h
  rw [lampRefusal, failedSides_eq_sidesIn, hotSides_eq_sidesIn, doseCap_eq_capOf, if_neg (Classical.not_not.2 sound),
    if_neg (Classical.not_not.2 cool), if_neg (Nat.not_lt.2 room)]

end

/-! ## ADVANCE (R79, R80, R102) -/

theorem advanceHolds_iff (s : State) :
    advanceHolds s = true ↔ s.seq.arm ≠ .idle ∨ s.capture.state ≠ .free ∨ advanceInFlight s = true
      ∨ 12 ≤ s.ret.queue.length := by
  simp only [advanceHolds, Bool.or_eq_true, turnHolds_iff, Bool.not_eq_true', Bool.eq_false_iff, ne_eq, captureFree_iff]
  by_cases free : s.capture.state = .free <;> simp [free]

section
variable {s : State} {t : Ticket} {sw : Switches}

theorem exec_advance (h : Examined .advance t s) : exec (.advance sw) s = .next (settle s (advanceTicket sw s t)) :=
  congrArg (fun x => Host.Outcome.next (settle s x)) (examine_own h (advanceTicket sw s))

theorem advanceTicket_badField (h1 : byteAt t.bytes 8 ≠ 1) (h2 : byteAt t.bytes 8 ≠ 2) :
    advanceTicket sw s t = completeHead t .badField (activeSlotNumber s) 5 s := by
  rw [advanceTicket, forwardOf_eq_none h1 h2]

section
variable {forward : Bool} (written : byteAt t.bytes 8 = if forward then 1 else 2)
include written

theorem advanceTicket_field {n : Nat} (first : FirstFailing (captureChecks t 9 6) n) :
    advanceTicket sw s t = completeHead t .badField (activeSlotNumber s) n s := by
  simp only [advanceTicket, forwardOf_written written, (captureFields_checked t 9 6).fails n first]

section
variable (all : AllHold (captureChecks t 9 6))
include all

theorem advanceTicket_refused {o : OutcomeCode} {d : Nat}
    (refused : (turnRefusal s forward).or (advanceCaptureRefusal s (captureWritten t 9)) = some (o, d)) :
    advanceTicket sw s t = completeHead t o (activeSlotNumber s) d s := by
  simp only [advanceTicket, forwardOf_written written, (captureFields_checked t 9 6).passes all, refused]

theorem advanceTicket_passed
    (passed : (turnRefusal s forward).or (advanceCaptureRefusal s (captureWritten t 9)) = none) :
    advanceTicket sw s t = if advanceHolds s then s else advanceStart t forward (captureWritten t 9) sw s := by
  simp only [advanceTicket, forwardOf_written written, (captureFields_checked t 9 6).passes all, passed]

end
end

theorem advanceCaptureRefusal_active {slot : Nat} {v : Volume} (active : s.volumes.active = some slot)
    (hv : volumeAt s slot = some v) (p : CaptureParams) :
    advanceCaptureRefusal s p = (overlapRefusal s p).or (lampRefusal s p.sides v) := by
  rw [advanceCaptureRefusal, activeVolume_eq_some active hv]

end

/-- Settles O13: the refusals of a turn, then those of its capture, the holds of both, and the start of the turn. -/
theorem advanceStartsTurn : Obligations.AdvanceStartsTurn := by
  intro s t sw hx hw
  have run := exec_advance (sw := sw) hx
  refine ⟨fun h1 h2 => ?_, fun forward written => ⟨fun n first => ?_, fun all =>
    turnRefusals (refused := RefusesHead (.advance sw) t s) (fun o d refusal => ?_) fun slot v active hv passed => ?_⟩⟩
  · rw [advanceTicket_badField h1 h2] at run
    exact exec_completes_only hx (by decide) hw run
  · rw [advanceTicket_field written first] at run
    exact exec_completes_only hx (by decide) hw run
  · rw [advanceTicket_refused written all (by rw [refusal]; rfl)] at run
    exact exec_completes_only hx (by decide) hw run
  have capture := advanceCaptureRefusal_active active hv (captureWritten t 9)
  have refuses : ∀ o d, advanceCaptureRefusal s (captureWritten t 9) = some (o, d) →
      RefusesHead (.advance sw) t s o slot d := by
    intro o d refusal
    rw [advanceTicket_refused written all (by rw [passed, refusal]; rfl), activeSlotNumber_active active hv] at run
    exact exec_completes_only hx (by decide) hw run
  refine ⟨fun d overlap => refuses _ d (by rw [capture, overlap]; rfl), fun apart =>
    ⟨fun o d lamps => refuses o d (by rw [capture, apart, lampRefusal_eq_some lamps]; rfl), fun lamps => ?_⟩⟩
  have none : (turnRefusal s forward).or (advanceCaptureRefusal s (captureWritten t 9)) = none := by
    rw [passed, capture, apart, lampRefusal_eq_none lamps]
    rfl
  rw [advanceTicket_passed written all none] at run
  refine ⟨fun busy => ?_, fun idle free flight low platen open_ => ?_⟩
  · rw [if_pos ((advanceHolds_iff s).2 busy)] at run
    exact exec_holds run
  · have ready : ¬ advanceHolds s = true := by simp [advanceHolds_iff, idle, free, flight, low]
    rw [if_neg ready, advanceStart, activeSlotNumber_active active hv] at run
    exact ⟨_, run, startTurn_begun _ hw (by simp [free]) platen open_⟩

/-! ## CAPTURE (R102, R103) -/

theorem captureHolds_iff (s : State) :
    captureHolds s = true ↔ s.capture.state ≠ .free ∨ advanceInFlight s = true ∨ 12 ≤ s.ret.queue.length := by
  simp [captureHolds, returnQueueHigh, captureFree, or_assoc]

section
variable {s : State} {t : Ticket}

theorem exec_capture (h : Examined .capture t s) : exec .capture s = .next (settle s (captureTicket s t)) :=
  congrArg (fun x => Host.Outcome.next (settle s x)) (examine_own h (captureTicket s))

theorem captureTicket_field {n : Nat} (first : FirstFailing (captureChecks t 8 5) n) :
    captureTicket s t = completeHead t .badField (activeSlotNumber s) n s := by
  rw [captureTicket, (captureFields_checked t 8 5).fails n first]

section
variable (all : AllHold (captureChecks t 8 5))
include all

theorem captureTicket_refused {o : OutcomeCode} {d : Nat}
    (refused : (overlapRefusal s (captureWritten t 8)).or (captureRefusal s (captureWritten t 8).sides) = some (o, d)) :
    captureTicket s t = completeHead t o (activeSlotNumber s) d s := by
  simp only [captureTicket, (captureFields_checked t 8 5).passes all, refused]

theorem captureTicket_passed
    (passed : (overlapRefusal s (captureWritten t 8)).or (captureRefusal s (captureWritten t 8).sides) = none) :
    captureTicket s t = if captureHolds s then s else captureStart t (captureWritten t 8) s := by
  simp only [captureTicket, (captureFields_checked t 8 5).passes all, passed]

end

/-- The refusals of a capture of the ACTIVE volume. -/
theorem captureRefusal_active {slot : Nat} {v : Volume} (active : s.volumes.active = some slot)
    (hv : volumeAt s slot = some v) (sides : PerSide Bool) :
    captureRefusal s sides =
      if s.seq.arm = .halted ∨ s.seq.arm = .faulted then some (.armFault, armNumber s.seq.arm)
      else if bothDown s then some (.noPosition, 1)
      else lampRefusal s sides v := by
  rw [captureRefusal, activeVolume_eq_some active hv]

/-- The capture unit as a CAPTURE that is taken leaves it. -/
theorem captureStart_eq (hw : TailWaits s) (p : CaptureParams) :
    captureStart t p s =
      setCapture (.holding { kind := .capture, tag := ticketTag t, slot := activeSlotNumber s, params := p })
        (popHead s) := by
  rw [captureStart, startHead_waits s hw]

end

/-- Settles O15: the refusals of a capture in their order, its holds, and the record it holds. -/
theorem captureEntersHolding : Obligations.CaptureEntersHolding := by
  intro s t hx hw
  have run := exec_capture hx
  refine ⟨fun n first => ?_, fun all => ?_⟩
  · rw [captureTicket_field first] at run
    exact exec_completes_only hx (by decide) hw run
  have refuses : ∀ o d,
      (overlapRefusal s (captureWritten t 8)).or (captureRefusal s (captureWritten t 8).sides) = some (o, d) →
      RefusesHead .capture t s o (activeSlotNumber s) d := by
    intro o d refusal
    rw [captureTicket_refused all refusal] at run
    exact exec_completes_only hx (by decide) hw run
  refine ⟨fun d overlap => refuses _ d (by rw [overlap]; rfl), fun apart => ?_⟩
  rw [apart, Option.none_or] at refuses
  refine ⟨fun inactive => ?_, fun slot v active hv => ?_⟩
  · rw [activeSlotNumber_none inactive] at refuses
    exact refuses _ _ (by simp [captureRefusal, activeVolume, inactive])
  have here := captureRefusal_active active hv (captureWritten t 8).sides
  rw [activeSlotNumber_active active hv] at refuses
  refine ⟨fun halted => refuses _ _ (by rw [here, if_pos (.inl halted), halted]; rfl),
    fun faulted => refuses _ _ (by rw [here, if_pos (.inr faulted), faulted]; rfl), fun running working => ?_⟩
  rw [if_neg (not_or.2 ⟨running, working⟩)] at here
  refine ⟨fun a b => refuses _ _ (by rw [here, if_pos ((bothDown_iff s).2 ⟨a, b⟩)]), fun up => ?_⟩
  rw [if_neg (by rw [bothDown_iff]; rcases up with a | b <;> simp [*])] at here
  refine ⟨fun o d lamps => refuses o d (by rw [here, lampRefusal_eq_some lamps]), fun lamps => ?_⟩
  have none : (overlapRefusal s (captureWritten t 8)).or (captureRefusal s (captureWritten t 8).sides) = none := by
    rw [apart, here, lampRefusal_eq_none lamps]
    rfl
  rw [captureTicket_passed all none] at run
  refine ⟨fun busy => ?_, fun free flight low => ?_⟩
  · rw [if_pos ((captureHolds_iff s).2 busy)] at run
    exact exec_holds run
  · have ready : ¬ captureHolds s = true := by simp [captureHolds_iff, free, flight, low]
    rw [if_neg ready, captureStart_eq hw, activeSlotNumber_active active hv] at run
    refine ⟨_, run, settle_get s _ .capture (by decide), settle_get s _ .tickets (by decide),
      Changes.settle_only fun p hp => ?_⟩
    cases p <;> simp_all [Part.same, setCapture]

end Sys2Proof.Machine
end

section
/-! SUPPORT. The through-path: bytes of words, what the memory port leaves waiting, the upstream port (R129), and the
image of a CONFIGURE (R187). -/
namespace Sys2Proof.Machine

/-! ## Bytes of words -/

theorem toNat_append {n k : Nat} (x : BitVec n) (y : BitVec k) : (x ++ y).toNat = x.toNat * 2 ^ k + y.toNat := by
  rw [BitVec.toNat_append, ← Nat.shiftLeft_add_eq_or_of_lt y.isLt, Nat.shiftLeft_eq]

theorem toNat_wordOf (b0 b1 b2 b3 : Byte) :
    (wordOf b0 b1 b2 b3).toNat = ((b3.toNat * 256 + b2.toNat) * 256 + b1.toNat) * 256 + b0.toNat := by
  have two := toNat_append b3 b2
  have three := toNat_append (b3 ++ b2) b1
  have four := toNat_append (b3 ++ b2 ++ b1) b0
  rw [two] at three
  rw [three] at four
  simpa only [wordOf, Nat.reducePow] using four

theorem toNat_wordByte (w : Word) (i : Nat) : (wordByte w i).toNat = w.toNat / 2 ^ (8 * i) % 256 := by
  simp [wordByte, Nat.shiftRight_eq_div_pow]

/-- A word holds its four bytes, the least significant first. -/
theorem wordByte_wordOf (b0 b1 b2 b3 : Byte) :
    wordByte (wordOf b0 b1 b2 b3) 0 = b0 ∧ wordByte (wordOf b0 b1 b2 b3) 1 = b1
      ∧ wordByte (wordOf b0 b1 b2 b3) 2 = b2 ∧ wordByte (wordOf b0 b1 b2 b3) 3 = b3 := by
  refine ⟨?_, ?_, ?_, ?_⟩ <;> refine BitVec.eq_of_toNat_eq ?_ <;> rw [toNat_wordByte, toNat_wordOf] <;> omega

/-- What a burst of words reads, byte by byte, while it does not pass the top of memory. -/
theorem bytesOfWords_readWords (m : Memory) (n a : Nat) (h : a + 4 * n ≤ 4294967296) :
    bytesOfWords (readWords m (BitVec.ofNat 32 a) n) = (List.range (4 * n)).map fun k => readByte m (a + k) := by
  induction n generalizing a with
  | zero => rfl
  | succ n ih =>
    have here : (BitVec.ofNat 32 a).toNat = a := by
      rw [BitVec.toNat_ofNat]
      exact Nat.mod_eq_of_lt (by omega)
    have next : BitVec.ofNat 32 a + 4 = BitVec.ofNat 32 (a + 4) := by
      rw [BitVec.ofNat_add]
      rfl
    obtain ⟨b0, b1, b2, b3⟩ := wordByte_wordOf (readByte m a) (readByte m (a + 1)) (readByte m (a + 2)) (readByte m (a + 3))
    rw [readWords, bytesOfWords, readWord, here, b0, b1, b2, b3, next, ih (a + 4) (by omega),
      show 4 * (n + 1) = 4 * n + 1 + 1 + 1 + 1 by omega]
    simp only [List.range_succ_eq_map, List.map_cons, List.map_map, Function.comp_def, Nat.add_assoc, Nat.succ_eq_add_one, Nat.add_zero, Nat.reduceAdd,Nat.zero_add]
    simp only [Nat.add_comm]

/-! ## What the port leaves waiting -/

/-- A port in whose state `s` these requests rest serves none of them of itself. -/
theorem serveSilent_none_of_rests {s x : State} {es : List InternalEntry}
    (working : x.settings.working = s.settings.working) (startup : x.settings.startup = s.settings.startup)
    (rests : PortRests s x.path.upstream es)
    (internal : ∀ e ∈ x.path.internal, e ∈ es ∨ ∀ k, e.purpose ≠ .imageRead k) : serveSilent x = none := by
  obtain ⟨reads, images⟩ := rests
  rw [serveSilent_eq_none_iff, arbiter_eq]
  intro g chosen
  split at chosen
  · obtain ⟨e, he, rfl⟩ := Option.map_eq_some_iff.1 chosen
    rintro ⟨k, -, image⟩
    rcases internal e (List.mem_of_mem_head? he) with waits | other
    · exact images e waits k image
    · exact other k image
  · obtain ⟨t, ht, rfl⟩ := Option.map_eq_some_iff.1 chosen
    rw [servedSilently_congr working startup]
    cases t with
    | read a n => exact reads a n ht
    | write a ws => exact id

theorem mem_waiting_of_internal {s : State} : ∀ e ∈ s.path.internal, e ∈ waiting s :=
  fun _ he => List.mem_append_left _ he

/-! ## The upstream port (R129) -/

section
variable {s : State} {t : Transaction}

theorem exec_upstreamTransaction (wf : t.wf = true) (s : State) :
    exec (.upstreamTransaction t) s = .next (settle s (pump (acceptUpstream t s))) :=
  exec_eq_settle_effect (i := .upstreamTransaction t) nofun wf s

theorem acceptUpstream_full (full : s.settings.startup = .resetHeld ∨ 4 ≤ s.path.upstream.length) :
    acceptUpstream t s = s := if_pos full

theorem acceptUpstream_room (released : s.settings.startup ≠ .resetHeld) (room : s.path.upstream.length < 4) :
    acceptUpstream t s = { s with path := { s.path with upstream := s.path.upstream ++ [t] } } :=
  if_neg (not_or.2 ⟨released, Nat.not_le.2 room⟩)

/-- A read of no closing word, alone at the port, is served at once. -/
theorem pump_plainRead {x : State} {a : Word} {n : Nat} (upstream : x.path.upstream = [.read a n])
    (internal : waiting x = []) (plain : closings x a n = []) :
    pump x = { x with path := { x.path with
      upstream := [], memoryPort := x.path.memoryPort ++ [.read a n]
      hostData := x.path.hostData ++ [readWords x.memory a n] } } := by
  obtain ⟨none, blocked⟩ := List.append_eq_nil_iff.1 internal
  have chosen : arbiter x = some (.upstream (.read a n)) := by simp [arbiter_eq, upstream, none]
  have served : serveSilent x = some (serveRead a n x) := by
    simp only [serveSilent, chosen, plain, if_true]
  have one : waitingTransactions x = 1 := by simp [waitingTransactions, upstream, none, blocked]
  rw [pump, one, pumpBy, served]
  simp [pumpBy, serveRead, plain, portRead, leaveUpstream, upstream, none]

end

/-- Settles O37: what is refused, what is added, and the read served at once. -/
theorem upstreamPortAccepts : Obligations.UpstreamPortAccepts := by
  intro s t wf
  have run := exec_upstreamTransaction wf s
  refine ⟨fun full rests => ?_, fun released room => ⟨fun rests => ?_, ?_⟩⟩
  · have quiet := serveSilent_none_of_rests rfl rfl rests fun e he => .inl (mem_waiting_of_internal e he)
    rw [acceptUpstream_full full, pump_eq_self quiet] at run
    exact exec_holds run
  all_goals rw [acceptUpstream_room released room] at run
  · have quiet := serveSilent_none_of_rests
      (x := { s with path := { s.path with upstream := s.path.upstream ++ [t] } }) rfl rfl rests
      fun e he => .inl (mem_waiting_of_internal e he)
    rw [pump_eq_self quiet] at run
    refine ⟨_, run, settle_get s _ .upstream (by decide), Changes.settle_only fun p hp => ?_⟩
    cases p <;> simp_all [Part.same]
  · rintro a n rfl upstream none plain
    have served := pump_plainRead (x := { s with path := { s.path with upstream := s.path.upstream ++ [.read a n] } })
      (a := a) (n := n) (by simp [upstream]) none plain
    rw [served] at run
    refine ⟨_, run, settle_get s _ .hostData (by decide), settle_get s _ .memoryPort (by decide),
      Changes.settle_only fun p hp => ?_⟩
    cases p <;> simp_all [Part.same]

/-! ## The image of a CONFIGURE (R187) -/

/-- The read of one quarter of the image at `a`. -/
def imageEntry (a k : Nat) : InternalEntry := { purpose := .imageRead k, addr := BitVec.ofNat 32 (a + 64 * k), data := [] }

theorem placeImageReads_eq (a : Nat) (s : State) :
    placeImageReads a 4 s =
      placeInternal (imageEntry a 3) (placeInternal (imageEntry a 2)
        (placeInternal (imageEntry a 1) (placeInternal (imageEntry a 0) s))) := rfl

/-- The settings unit with a CONFIGURE in flight whose image has arrived so far. -/
def readingImage (t : Ticket) (bytes : List Byte) (u : SettingsUnit) : SettingsUnit :=
  { u with configure := some { tag := ticketTag t, store := ticketFlag t 0, phase := .reading bytes } }

section
variable {s : State} {t : Ticket}

theorem exec_configure (h : Examined .configure t s) :
    exec .configure s = .next (settle s (pump (configureTicket s t))) :=
  congrArg (fun x => Host.Outcome.next (settle s (pump x))) (examine_own h (configureTicket s))

theorem configureTicket_badField (h : ¬ (le32At t.bytes 8 % 4 = 0 ∧ le32At t.bytes 8 + 256 ≤ 4294967296)) :
    configureTicket s t = completeHead t .badField 255 5 s := by
  rw [configureTicket, if_pos (by omega)]

theorem configureTicket_fits (h : le32At t.bytes 8 % 4 = 0 ∧ le32At t.bytes 8 + 256 ≤ 4294967296) (hw : TailWaits s) :
    configureTicket s t =
      if s.settings.configure.isSome then s
      else placeImageReads (le32At t.bytes 8) 4 (setSettings (readingImage t [] s.settings) (popHead s)) := by
  rw [configureTicket, if_neg (by omega), configureStart, startHead_waits s hw]
  rfl

end

/-! ### Behind other requests -/

/-- Entries added behind waiting requests change nothing in what the arbiter chooses. -/
theorem arbiter_of_waiting {s x : State} {es : List InternalEntry} (upstream : x.path.upstream = s.path.upstream)
    (wait : x.path.waitCount = s.path.waitCount) (internal : x.path.internal = s.path.internal ++ es)
    (waits : s.path.internal ≠ [] ∨ (s.path.upstream ≠ [] ∧ s.path.waitCount < 8)) : arbiter x = arbiter s := by
  rw [arbiter_eq x, arbiter_eq s, upstream, wait, internal]
  rcases waits with some | ⟨some, early⟩
  · obtain ⟨e, rest, queued⟩ := List.exists_cons_of_ne_nil some
    simp [queued]
  · simp [some, Nat.not_le.2 early]

theorem placeImageReads_internal (a n : Nat) (s : State) :
    ∃ es, (placeImageReads a n s).path.internal = s.path.internal ++ es := by
  induction n generalizing s with
  | zero => exact ⟨[], (List.append_nil _).symm⟩
  | succ n ih =>
    obtain ⟨es, one, -⟩ := placeInternal_internal (imageEntry a (3 - n)) s
    obtain ⟨fs, more⟩ := ih (placeInternal (imageEntry a (3 - n)) s)
    exact ⟨es ++ fs, by rw [← List.append_assoc, ← one]; exact more⟩

/-- R187: the four reads of the image are requested. -/
theorem mem_placeImageReads (a : Nat) (s : State) {k : Nat} (hk : k < 4) :
    imageEntry a k ∈ waiting (placeImageReads a 4 s) := by
  rw [placeImageReads_eq]
  simp only [mem_placeInternal]
  have : k = 0 ∨ k = 1 ∨ k = 2 ∨ k = 3 := by omega
  rcases this with rfl | rfl | rfl | rfl <;> simp

/-! ### At an empty port -/

/-- An empty port that serves the reads of an image: what has arrived, what waits, and what the port has sent. -/
def imagePort (t : Ticket) (bytes : List Byte) (es : List InternalEntry) (port : List Transaction) (wait : Nat)
    (s : State) : State :=
  { s with
    tickets := withoutHead s.tickets
    settings := readingImage t bytes s.settings
    path := { s.path with internal := es, waitCount := wait, memoryPort := s.path.memoryPort ++ port } }

/-- The bytes of the first three quarters of an image. -/
theorem readBlock_image (m : Memory) {a : Nat} (h : a + 256 ≤ 4294967296) :
    readBlock m (BitVec.ofNat 32 (a + 64 * 0)) ++ readBlock m (BitVec.ofNat 32 (a + 64 * 1))
        ++ readBlock m (BitVec.ofNat 32 (a + 64 * 2)) =
      (List.range 192).map fun k => readByte m (a + k) := by
  have quarter : ∀ b, b + 64 ≤ 4294967296 →
      readBlock m (BitVec.ofNat 32 b) = (List.range 64).map fun k => readByte m (b + k) :=
    fun b hb => bytesOfWords_readWords m 16 b hb
  rw [quarter _ (by omega), quarter _ (by omega), quarter _ (by omega), show 192 = 64 + 64 + 64 from rfl,
    List.range_add, List.range_add]
  simp [List.map_map, Function.comp_def, Nat.add_assoc]

section
variable {s : State} {t : Ticket} (upstream : s.path.upstream = [])

theorem placeImageReads_emptyPort (internal : s.path.internal = []) (blocked : s.path.blocked = []) (a : Nat) :
    placeImageReads a 4 (setSettings (readingImage t [] s.settings) (popHead s)) =
      imagePort t [] [imageEntry a 0, imageEntry a 1, imageEntry a 2, imageEntry a 3] [] s.path.waitCount s := by
  simp [placeImageReads_eq, placeInternal, internal, blocked, imagePort, setSettings, popHead, withoutHead]

include upstream

/-- R187: the first three quarters are served without a command, and join what has arrived. -/
theorem serveSilent_imagePort (blocked : s.path.blocked = []) {k : Nat} (hk : k < 3) (a : Nat) (bytes : List Byte)
    (es : List InternalEntry) (port : List Transaction) (wait : Nat) :
    serveSilent (imagePort t bytes (imageEntry a k :: es) port wait s) =
      some (imagePort t (bytes ++ readBlock s.memory (BitVec.ofNat 32 (a + 64 * k))) es
        (port ++ [.read (BitVec.ofNat 32 (a + 64 * k)) 16]) 0 s) := by
  have chosen : arbiter (imagePort t bytes (imageEntry a k :: es) port wait s) = some (.internal (imageEntry a k)) := by
    simp [arbiter_eq, imagePort, upstream]
  rw [serveSilent, chosen]
  simp only [imageEntry, hk, if_true, serveInternal, leaveInternal, admitBlocked, waitingBlocks, imagePort, blocked,
    List.any_nil, List.filter_cons, List.filter_nil, Bool.false_eq_true, if_false, List.tail_cons, deliverImage, readingImage, portRead, setSettings,
    List.append_assoc]

/-- The last quarter waits for its command. -/
theorem serveSilent_imagePort_last (a : Nat) (bytes : List Byte) (port : List Transaction) (wait : Nat) :
    serveSilent (imagePort t bytes [imageEntry a 3] port wait s) = none := by
  rw [serveSilent_eq_none_iff, arbiter_eq]
  rintro g chosen
  simp only [imagePort, upstream, true_or, if_true, List.head?_cons, Option.map_some, Option.some.injEq] at chosen
  subst chosen
  rintro ⟨k, hk, image⟩
  cases image
  omega

/-- R187: at an empty port the step serves three quarters of the image. -/
theorem pump_imagePort (blocked : s.path.blocked = []) {a : Nat} (h : a + 256 ≤ 4294967296) (wait : Nat) :
    pump (imagePort t [] [imageEntry a 0, imageEntry a 1, imageEntry a 2, imageEntry a 3] [] wait s) =
      imagePort t ((List.range 192).map fun k => readByte s.memory (a + k)) [imageEntry a 3]
        [.read (BitVec.ofNat 32 a) 16, .read (BitVec.ofNat 32 (a + 64)) 16, .read (BitVec.ofNat 32 (a + 128)) 16] 0 s := by
  have four : waitingTransactions
      (imagePort t [] [imageEntry a 0, imageEntry a 1, imageEntry a 2, imageEntry a 3] [] wait s) = 4 := by
    simp [waitingTransactions, imagePort, upstream, blocked]
  rw [pump, four]
  simp only [pumpBy, serveSilent_imagePort upstream blocked (by omega : 0 < 3),
    serveSilent_imagePort upstream blocked (by omega : 1 < 3), serveSilent_imagePort upstream blocked (by omega : 2 < 3),
    serveSilent_imagePort_last upstream]
  rw [List.nil_append, readBlock_image s.memory h]
  rfl

end

/-- Settles O16: the refusal and the hold, and the four reads behind other requests and at an empty port. -/
theorem configurePlacesReads : Obligations.ConfigurePlacesReads := by
  intro s t hx hw quiet
  have run := exec_configure hx
  refine ⟨fun bad => ?_, fun fits busy => ?_, fun fits free waits => ?_, fun fits free internal upstream blocked => ?_⟩
  · have rests := completeHead_serveSilent (o := .badField) (slot := 255) (d := 5) hx.2.1 hw quiet
    rw [configureTicket_badField bad, pump_eq_self rests] at run
    exact exec_completes_only hx (by decide) hw run
  · rw [configureTicket_fits fits hw, if_pos busy, pump_eq_self quiet] at run
    exact exec_holds run
  all_goals rw [configureTicket_fits fits hw, if_neg (by simp [free])] at run
  · have begun : Changes [.settings, .tickets] s (setSettings (readingImage t [] s.settings) (popHead s)) :=
      ((popHead_changes s).mono (by decide)).trans ((setSettings_changes _ _).mono (by decide))
    have placed := placeImageReads_changes (le32At t.bytes 8) 4 (setSettings (readingImage t [] s.settings) (popHead s))
    obtain ⟨es, internal⟩ := placeImageReads_internal (le32At t.bytes 8) 4
      (setSettings (readingImage t [] s.settings) (popHead s))
    have frame := (begun.mono (qs := [.settings, .tickets, .requests]) (by decide)).trans (placed.mono (by decide))
    have settings := placed.get .settings (by decide)
    have tickets := placed.get .tickets (by decide)
    have chosen := arbiter_of_waiting (frame.get .upstream (by decide)) (frame.get .waitCount (by decide)) internal waits
    have rests : serveSilent (placeImageReads (le32At t.bytes 8) 4
        (setSettings (readingImage t [] s.settings) (popHead s))) = none := by
      rw [serveSilent_eq_none_iff] at quiet ⊢
      intro g hg
      rw [servedSilently_congr (s := s) (by rw [settings]; rfl) (by rw [settings]; rfl)]
      exact quiet g (chosen ▸ hg)
    rw [pump_eq_self rests] at run
    exact ⟨_, run, (settle_get s _ .settings (by decide)).trans settings,
      fun k hk => mem_settle _ _ _ (mem_placeImageReads _ _ hk), (settle_get s _ .tickets (by decide)).trans tickets,
      frame.settle_only⟩
  · rw [placeImageReads_emptyPort internal blocked, pump_imagePort upstream blocked fits.2] at run
    refine ⟨_, run, settle_get s _ .settings (by decide), settle_get s _ .memoryPort (by decide),
      mem_settle _ _ _ (mem_waiting_of_internal _ List.mem_cons_self), settle_get s _ .tickets (by decide),
      Changes.settle_only fun p hp => ?_⟩
    cases p <;> simp_all [Part.same, imagePort]

end Sys2Proof.Machine
end

section
/-! SUPPORT. The service of an upstream write (R129 to R135): memory, the port, the words that are dropped or posted, and
the words in a FILLING window. -/
namespace Sys2Proof.Machine

/-! ## Requests -/

/-- From `s` to `t` no request leaves, and those that come are writes of the controller's own. -/
structure OwnRequestsAdded (s t : State) : Prop where
  kept : ∀ e ∈ waiting s, e ∈ waiting t
  added : ∀ e ∈ waiting t, e ∈ waiting s ∨ isOwnWrite e = true

theorem OwnRequestsAdded.of_path {s t : State} (path : t.path = s.path) : OwnRequestsAdded s t := by
  have same : waiting t = waiting s := by rw [waiting, path, waiting]
  exact ⟨fun e he => same ▸ he, fun e he => .inl (same ▸ he)⟩

theorem OwnRequestsAdded.of_requests {s t : State} (requests : Part.requests.same s t) : OwnRequestsAdded s t := by
  have same : waiting t = waiting s := by rw [waiting, requests.1, requests.2, waiting]
  exact ⟨fun e he => same ▸ he, fun e he => .inl (same ▸ he)⟩

theorem OwnRequestsAdded.trans {s t u : State} (h : OwnRequestsAdded s t) (k : OwnRequestsAdded t u) :
    OwnRequestsAdded s u :=
  ⟨fun e he => k.kept e (h.kept e he), fun e he => (k.added e he).elim (h.added e) .inr⟩

theorem placeInternal_ownRequests {e : InternalEntry} {s : State} (own : isOwnWrite e = true) :
    OwnRequestsAdded s (placeInternal e s) := by
  refine ⟨fun x hx => (mem_placeInternal e x s).2 (.inr hx), fun x hx => ?_⟩
  rcases (mem_placeInternal e x s).1 hx with rfl | waits
  · exact .inr own
  · exact .inl waits

theorem handReturn_ownRequests (r : ReturnRecord) (s : State) : OwnRequestsAdded s (handReturn r s) := by
  refine ⟨fun e he => (mem_handReturn r s e).2 (.inr he), fun e he => ?_⟩
  rcases (mem_handReturn r s e).1 he with handed | waits
  · right
    unfold handEntries at handed
    split at handed
    · cases handed
    · split at handed
      · rw [List.mem_singleton.1 handed]
        rfl
      · cases handed
  · exact .inl waits

/-- The cradle, the bars and the capture unit ask nothing of memory but writes of the controller's own. -/
theorem ownRequests_capture : CaptureClosed OwnRequestsAdded where
  refl _ := .of_path rfl
  trans := .trans
  rest c := .of_requests (c _ (by decide))
  hand := handReturn_ownRequests
  volume _ _ := .of_path rfl
  bar _ := .of_path rfl
  head _ := .of_path rfl
  place := placeInternal_ownRequests
  windows _ := .of_path rfl
  guarded _ _ := .of_path rfl
  lost _ := .of_path rfl
  seq _ _ := .of_path rfl
  state _ _ := .of_path rfl
  lines _ := .of_path rfl
  givenUp s := .of_requests ((giveUpWindows_changes s).get .requests (by decide))
  armed _ _ := .of_requests ((armWindows_changes _ _ _).get .requests (by decide))

section
variable {s : State}

theorem takePost_ownRequests (w : BusWord) (s : State) : OwnRequestsAdded s (takePost w s) := by
  have fault : OwnRequestsAdded s (postFault w.data s) := latch_closed ownRequests_capture.toBaseClosed _ _ _ _ s
  refine rel_ite (fun _ => ?_) fun _ => fault
  refine rel_ite (fun _ => .of_path rfl) fun _ => ?_
  split
  · exact .of_path rfl
  · exact rel_ite (fun _ => .of_path rfl) fun _ => fault

theorem guardWord_ownRequests (i : Nat) (a : Word) (s : State) : OwnRequestsAdded s (guardWord i a s) := by
  unfold guardWord
  split
  · exact .of_path rfl
  · refine rel_ite (fun _ => .of_path rfl) fun _ => .trans ?_ (handReturn_ownRequests _ _)
    exact .of_path rfl

/-- Reporting a word asks nothing of memory but writes of the controller's own. -/
theorem reportWord_ownRequests (a : Word) (w : BusWord) (p : Place) (s : State) :
    OwnRequestsAdded s (reportWord a w p s) := by
  unfold reportWord
  split
  · refine rel_ite (fun _ => .of_path rfl) fun _ => .trans (.of_requests ?_)
      (latch_closed ownRequests_capture.toBaseClosed .foreignWrite .foreignWrite 0 a.toNat
        { s with path := { s.path with foreignWrites := min 65535 (s.path.foreignWrites + 1) } })
    exact ⟨rfl, rfl⟩
  · exact rel_ite (fun _ => .of_path rfl) fun _ => guardWord_ownRequests _ _ _
  · exact takePost_ownRequests _ _
  · exact frameWord_closed ownRequests_capture.toFrameClosed _ _ _ _
  · exact .of_path rfl

end

/-! ## The service of a write -/

/-- The state in which the words of an upstream write are reported: the burst has left the queue and reached memory. -/
def burstWritten (a : Word) (ws : List BusWord) (s : State) : State :=
  portWrite a (forwardedWords s a ws) (leaveUpstream s)

theorem serveWrite_eq (a : Word) (ws : List BusWord) (s : State) :
    serveWrite a ws s =
      (addressed a ws).foldl (fun x y => reportWord y.1 y.2 (placeOf s y.1.toNat) x) (burstWritten a ws s) := rfl

theorem burstWritten_changes (a : Word) (ws : List BusWord) (s : State) :
    Changes writeServiceParts s (burstWritten a ws s) := by
  intro p hp
  cases p <;> simp_all [Part.same, burstWritten, portWrite, leaveUpstream, writeServiceParts]

/-- What reporting the words of a burst leaves of the state in which they are reported. -/
theorem serveWrite_reports (a : Word) (ws : List BusWord) (s : State) :
    Changes reportParts (burstWritten a ws s) (serveWrite a ws s)
      ∧ OwnRequestsAdded (burstWritten a ws s) (serveWrite a ws s) := by
  rw [serveWrite_eq]
  generalize burstWritten a ws s = x
  induction addressed a ws generalizing x with
  | nil => exact ⟨.refl _ x, .of_path rfl⟩
  | cons y ys ih =>
    obtain ⟨frame, requests⟩ := ih (reportWord y.1 y.2 (placeOf s y.1.toNat) x)
    exact ⟨(reportWord_changes _ _ _ _).trans frame, (reportWord_ownRequests _ _ _ _).trans requests⟩

section
variable {s : State} {a : Word} {ws : List BusWord} {rest : List Transaction}

theorem arbiter_of_upstreamChosen {t : Transaction} (h : UpstreamChosen s t rest) :
    arbiter s = some (.upstream t) := by
  obtain ⟨upstream, early, -⟩ := h
  rw [arbiter_eq, upstream, if_neg]
  · rfl
  · rintro (none | ⟨waits, late⟩)
    · cases none
    · rcases early with none | early
      · exact waits none
      · omega

/-- The state after the service of a write serves nothing of itself. -/
theorem pump_serveWrite (chosen : UpstreamChosen s (.write a ws) rest) :
    pump (serveWrite a ws s) = serveWrite a ws s := by
  obtain ⟨upstream, -, rests⟩ := chosen
  obtain ⟨frame, requests⟩ := serveWrite_reports a ws s
  have settings : (serveWrite a ws s).settings = s.settings := frame.get .settings (by decide)
  have left : (serveWrite a ws s).path.upstream = rest := by
    rw [frame.get .upstream (by decide)]
    exact congrArg List.tail upstream
  refine pump_eq_self (serveSilent_none_of_rests (es := waiting s) (by rw [settings]) (by rw [settings])
    (left ▸ rests) fun e he => ?_)
  refine (requests.added e (mem_waiting_of_internal e he)).imp id fun own k image => ?_
  simp [isOwnWrite, image] at own

theorem exec_upstreamWrite (chosen : UpstreamChosen s (.write a ws) rest) :
    exec .upstreamWrite s = .next (settle s (serveWrite a ws s)) := by
  have run : exec .upstreamWrite s = .next (settle s (upstreamWriteServed s)) := rfl
  rw [run, upstreamWriteServed, arbiter_of_upstreamChosen chosen]
  simp only [pump_serveWrite chosen]

theorem exec_postWordWrite (chosen : UpstreamChosen s (.write a ws) rest) (covers : coversPostWord s a ws = true) :
    exec .postWordWrite s = .next (settle s (serveWrite a ws s)) := by
  have run : exec .postWordWrite s = .next (settle s (postWordServed s)) := rfl
  rw [run, postWordServed, arbiter_of_upstreamChosen chosen]
  simp only [pump_serveWrite chosen, covers, if_true]

end

/-! ## Where a word falls (R130) -/

section
variable {s : State} {m : MapSettings} {x : Nat}

theorem inRange_iff (x : Nat) (e : Extent) : inRange x e = true ↔ Inside x e.1 e.2 := by
  simp [inRange, Inside]

theorem inRange_eq_false_iff (x : Nat) (e : Extent) : inRange x e = false ↔ ¬ Inside x e.1 e.2 := by
  rw [← inRange_iff, Bool.not_eq_true]

theorem inOwnRegion_iff (m : MapSettings) (x : Nat) : inOwnRegion m x = true ↔ InOwnRegion m x := by
  simp [inOwnRegion, InOwnRegion, inRange_iff, or_assoc]

theorem guardOf_eq_none_iff : guardOf s x = none ↔ ∀ g, some g ∈ s.frames.guards → ¬ Inside x g.base g.length := by
  unfold guardOf
  rw [List.findIdx?_eq_none_iff]
  refine ⟨fun h g hg => (inRange_eq_false_iff _ _).1 (h _ hg), fun h e he => ?_⟩
  cases e with
  | none => rfl
  | some g => exact (inRange_eq_false_iff _ _).2 (h g he)

/-- R130: the guard that a word falls in is the lowest that covers it. -/
theorem guardOf_eq_some {i : Nat} {g : Guard} (hg : s.frames.guards[i]? = some (some g))
    (inside : Inside x g.base g.length)
    (lowest : ∀ k < i, ∀ h, s.frames.guards[k]? = some (some h) → ¬ Inside x h.base h.length) :
    guardOf s x = some i := by
  obtain ⟨hi, here⟩ := List.getElem?_eq_some_iff.1 hg
  refine List.findIdx?_eq_some_iff_getElem.2 ⟨hi, ?_, fun k hk => ?_⟩
  · rw [here]
    exact (inRange_iff _ _).2 inside
  · have hk' := Nat.lt_trans hk hi
    cases entry : s.frames.guards[k] with
    | none => exact nofun
    | some h =>
      rw [Bool.not_eq_true]
      exact (inRange_eq_false_iff _ _).2 (lowest k hk h (by rw [List.getElem?_eq_getElem hk', entry]))

/-- The windows that take words are the FILLING ones, the lowest first. -/
theorem fillingOf_eq_some {i : Nat} {w : Window} (hw : windowAt s i = some w) (filling : w.filling = true)
    (inside : Inside x w.base (windowLength w))
    (lowest : ∀ k < i, ∀ y, windowAt s k = some y → y.filling = true → ¬ Inside x y.base (windowLength y)) :
    fillingOf s x = some i := by
  obtain ⟨hi, here⟩ := windowAt_eq_some hw
  refine List.findIdx?_eq_some_iff_getElem.2 ⟨hi, ?_, fun k hk => ?_⟩
  · rw [here]
    simp [filling, inRange_iff, inside]
  · have hk' := Nat.lt_trans hk hi
    cases entry : s.frames.windows[k] with
    | none => exact nofun
    | some y =>
      have there : windowAt s k = some y := by rw [windowAt, List.getElem?_eq_getElem hk', entry, Option.join_some]
      simpa [inRange_eq_false_iff] using lowest k hk y there

/-- R131: the words dropped are those of the controller's own regions and those of a guard. -/
theorem isDropped_placeOf_iff (s : State) (x : Nat) : isDropped (placeOf s x) = true ↔ Protected s x := by
  have guarded : (∃ g, some g ∈ s.frames.guards ∧ Inside x g.base g.length) ↔ guardOf s x ≠ none := by
    rw [ne_eq, guardOf_eq_none_iff]
    simp
  unfold placeOf Protected
  cases mapOf s with
  | none => simp [isDropped]
  | some m =>
    simp only [Option.some.injEq, exists_eq_left', ← inOwnRegion_iff, guarded]
    split
    · simp [isDropped, *]
    · cases guardOf s x with
      | some i => simp [isDropped]
      | none =>
        simp only [ne_eq, not_true, or_false, *]
        split
        · simp [isDropped]
        · split <;> simp [isDropped]

section
variable {m : MapSettings} (hm : mapOf s = some m)
include hm

theorem placeOf_own (own : InOwnRegion m x) : placeOf s x = .ownRegion := by
  simp only [placeOf, hm, (inOwnRegion_iff m x).2 own, if_true]

theorem placeOf_guarded {i : Nat} (other : ¬ InOwnRegion m x) (guarded : guardOf s x = some i) :
    placeOf s x = .guarded i := by
  rw [← inOwnRegion_iff] at other
  simp only [placeOf, hm, other, guarded, Bool.false_eq_true, if_false]

/-- A word that is not dropped falls on the post word, in a FILLING window or nowhere. -/
theorem placeOf_open (open_ : ¬ Protected s x) :
    placeOf s x =
      if inService s ∧ x = m.postWord then .postWord
      else match fillingOf s x with
        | some i => .filling i
        | none => .plain := by
  have other : ¬ inOwnRegion m x = true := fun own => open_ ⟨m, hm, .inl ((inOwnRegion_iff m x).1 own)⟩
  have unguarded : guardOf s x = none :=
    guardOf_eq_none_iff.2 fun g hg inside => open_ ⟨m, hm, .inr ⟨g, hg, inside⟩⟩
  simp only [placeOf, hm, other, unguarded]
  rfl

end

end

/-! ## The bytes of a burst -/

theorem toNat_wordAddress (a : Word) (j : Nat) : wordAddress a j = (a.toNat + 4 * j) % 4294967296 := by
  simp [wordAddress, BitVec.toNat_add, Nat.add_mod_mod]

theorem wordAddress_succ (a : Word) (j : Nat) : wordAddress a (j + 1) = wordAddress (a + 4) j := by
  rw [toNat_wordAddress, toNat_wordAddress, BitVec.toNat_add]
  show _ = ((a.toNat + 4) % 4294967296 + 4 * j) % 4294967296
  omega

theorem length_addressed (a : Word) (ws : List BusWord) : (addressed a ws).length = ws.length := by
  induction ws generalizing a with
  | nil => rfl
  | cons w ws ih => simp [addressed, ih]

theorem getElem_addressed (a : Word) (ws : List BusWord) (j : Nat) (h : j < ws.length)
    (k : j < (addressed a ws).length) : (addressed a ws)[j] = (a + BitVec.ofNat 32 (4 * j), ws[j]) := by
  induction ws generalizing a j with
  | nil => cases h
  | cons w ws ih =>
    cases j with
    | zero => simp [addressed]
    | succ j =>
      have next := ih (a + 4) j (by simpa using h) (by simpa [addressed] using k)
      have address : a + 4 + BitVec.ofNat 32 (4 * j) = a + BitVec.ofNat 32 (4 * (j + 1)) := by
        rw [Nat.mul_succ, Nat.add_comm, BitVec.ofNat_add, BitVec.add_assoc]
        rfl
      simp only [addressed, List.getElem_cons_succ, next, address]

theorem mem_addressed {a : Word} {ws : List BusWord} {y : Word × BusWord} (hy : y ∈ addressed a ws) :
    ∃ j, ∃ h : j < ws.length, y.1.toNat = wordAddress a j ∧ y.2 = ws[j] := by
  obtain ⟨j, k, rfl⟩ := List.mem_iff_getElem.1 hy
  have h : j < ws.length := by rwa [length_addressed] at k
  exact ⟨j, h, by rw [getElem_addressed a ws j h k]; rfl, by rw [getElem_addressed a ws j h k]⟩

section
variable {m : Memory}

/-- What one word leaves at the bytes of its address. -/
theorem readByte_writeWord (hm : Memory.wf m) (a : Word) (aligned : a.toNat % 4 = 0) (w : BusWord) {b : Nat}
    (hb : b < 4) :
    readByte (writeWord m a w) (a.toNat + b) =
      if w.be.getLsbD b = true then wordByte w.data b else readByte m (a.toNat + b) := by
  have lane : ∀ i < 4, (a + BitVec.ofNat 32 i).toNat = a.toNat + i := by
    intro i hi
    have := a.isLt
    rw [BitVec.toNat_add, BitVec.toNat_ofNat]
    omega
  have here : ∀ n : Memory, Memory.wf n → readByte (writeLane n a w b) (a.toNat + b) =
      if w.be.getLsbD b = true then wordByte w.data b else readByte n (a.toNat + b) := by
    intro n hn
    unfold writeLane
    rw [lane b hb]
    split
    · exact readByte_writeByte_same n _ _ hn.1
    · rfl
  have other : ∀ (n : Memory) (i : Nat), i < 4 → i ≠ b → readByte (writeLane n a w i) (a.toNat + b) =
      readByte n (a.toNat + b) := by
    intro n i hi ne
    exact readByte_writeLane_other n a w i _ (by rw [lane i hi]; omega)
  have wf : ∀ n : Memory, Memory.wf n → ∀ i, Memory.wf (writeLane n a w i) := fun n hn i => writeLane_wf n a w i hn
  have cases_ : b = 0 ∨ b = 1 ∨ b = 2 ∨ b = 3 := by omega
  unfold writeWord
  rcases cases_ with rfl | rfl | rfl | rfl
  · rw [other _ 3 (by omega) (by omega), other _ 2 (by omega) (by omega), other _ 1 (by omega) (by omega), here _ hm]
  · rw [other _ 3 (by omega) (by omega), other _ 2 (by omega) (by omega), here _ (wf _ hm _),
      other _ 0 (by omega) (by omega)]
  · rw [other _ 3 (by omega) (by omega), here _ (wf _ (wf _ hm _) _), other _ 1 (by omega) (by omega),
      other _ 0 (by omega) (by omega)]
  · rw [here _ (wf _ (wf _ (wf _ hm _) _) _), other _ 2 (by omega) (by omega), other _ 1 (by omega) (by omega),
      other _ 0 (by omega) (by omega)]

/-- A byte outside the words of a burst is left alone. -/
theorem readByte_writeWords_outside {a : Word} (aligned : a.toNat % 4 = 0) {ws : List BusWord} {x : Nat}
    (outside : ∀ j < ws.length, ¬ Inside x (wordAddress a j) 4) : readByte (writeWords m a ws) x = readByte m x := by
  refine readByte_writeWords_other m a ws x fun j hj i hi same => outside j hj ?_
  have address := toNat_wordAddress a j
  rw [BitVec.toNat_add, BitVec.toNat_ofNat] at same
  simp only [wordAddress] at address ⊢
  unfold Inside
  omega

/-- What a burst of at most 16 words leaves at the bytes of its words, also past the top of memory. -/
theorem readByte_writeWords (hm : Memory.wf m) {a : Word} (aligned : a.toNat % 4 = 0) {ws : List BusWord}
    (short : ws.length ≤ 16) {j : Nat} (h : j < ws.length) {b : Nat} (hb : b < 4) :
    readByte (writeWords m a ws) (wordAddress a j + b) =
      if ws[j].be.getLsbD b = true then wordByte ws[j].data b else readByte m (wordAddress a j + b) := by
  induction ws generalizing m a j with
  | nil => cases h
  | cons w ws ih =>
    have later : (a + 4).toNat % 4 = 0 := by
      rw [BitVec.toNat_add]
      show (a.toNat + 4) % 4294967296 % 4 = 0
      omega
    rw [List.length_cons] at short h
    rw [writeWords]
    cases j with
    | zero =>
      have first : wordAddress a 0 = a.toNat := by
        have := a.isLt
        rw [toNat_wordAddress]
        omega
      rw [first, readByte_writeWords_outside later]
      · exact readByte_writeWord hm a aligned w hb
      · intro k hk inside
        rw [← wordAddress_succ, toNat_wordAddress] at inside
        have := a.isLt
        unfold Inside at inside
        omega
    | succ j =>
      have elsewhere : readByte (writeWord m a w) (wordAddress a (j + 1) + b) = readByte m (wordAddress a (j + 1) + b) := by
        refine readByte_writeWord_other m a w _ fun i hi => ?_
        rw [toNat_wordAddress, BitVec.toNat_add, BitVec.toNat_ofNat]
        have := a.isLt
        omega
      have rest := ih (writeWord_wf m a w hm) later (by omega) (j := j) (by omega)
      rw [← wordAddress_succ, elsewhere] at rest
      exact rest

end

/-! ## The service of a write as the rest of the part sees it -/

section
variable {s : State} {a : Word} {ws : List BusWord} {rest : List Transaction}

theorem length_forwardedWords (s : State) (a : Word) (ws : List BusWord) : (forwardedWords s a ws).length = ws.length := by
  rw [forwardedWords, List.length_map, length_addressed]

theorem getElem_forwardedWords {j : Nat} (h : j < ws.length) (k : j < (forwardedWords s a ws).length) :
    (forwardedWords s a ws)[j] =
      if isDropped (placeOf s (wordAddress a j)) = true then { ws[j] with be := 0 } else ws[j] := by
  simp only [forwardedWords, List.getElem_map, getElem_addressed a ws j h, forwarded]
  rfl

/-- A frame of listed parts through the end of the step. -/
theorem Changes.settled {ps : List Part} {s x : State} (h : Changes ps s x) (b : State) :
    Changes (ps ++ endOfStep) s (settle b x) :=
  (h.mono fun _ => List.mem_append_left _).trans ((settle_changes b x).mono fun _ => List.mem_append_right _)

/-- What the service of an upstream write leaves at the memory port, whatever its words report. -/
structure BurstServed (a : Word) (ws : List BusWord) (rest : List Transaction) (s u : State) : Prop where
  upstream : u.path.upstream = rest
  waitCount : u.path.waitCount = if s.path.internal = [] then s.path.waitCount else s.path.waitCount + 1
  memory : u.memory = writeWords s.memory a (forwardedWords s a ws)
  memoryPort : u.path.memoryPort = s.path.memoryPort ++ [.write a (forwardedWords s a ws)]

theorem settle_serveWrite_served (chosen : UpstreamChosen s (.write a ws) rest) :
    BurstServed a ws rest s (settle s (serveWrite a ws s)) := by
  obtain ⟨frame, -⟩ := serveWrite_reports a ws s
  have whole := frame.settled s
  exact {
    upstream := (whole.get .upstream (by decide)).trans (congrArg List.tail chosen.1)
    waitCount := whole.get .waitCount (by decide)
    memory := whole.get .memory (by decide)
    memoryPort := whole.get .memoryPort (by decide) }

/-- R130: words that fall nowhere report nothing. -/
theorem serveWrite_plain (plain : ∀ j < ws.length, placeOf s (wordAddress a j) = .plain) :
    serveWrite a ws s = burstWritten a ws s := by
  have all : ∀ y ∈ addressed a ws, placeOf s y.1.toNat = .plain := by
    intro y hy
    obtain ⟨j, hj, address, -⟩ := mem_addressed hy
    rw [address]
    exact plain j hj
  rw [serveWrite_eq]
  generalize burstWritten a ws s = x
  generalize addressed a ws = ys at all
  induction ys with
  | nil => rfl
  | cons y ys ih =>
    rw [List.foldl_cons, all y List.mem_cons_self]
    exact ih fun z hz => all z (List.mem_cons_of_mem _ hz)

/-- A burst of one word reports it. -/
theorem serveWrite_single (s : State) (a : Word) (w : BusWord) :
    serveWrite a [w] s = reportWord a w (placeOf s a.toNat) (burstWritten a [w] s) := rfl

theorem coversPostWord_of_word {m : MapSettings} (hm : mapOf s = some m) (service : inService s = true) {j : Nat}
    (h : j < ws.length) (address : wordAddress a j = m.postWord) (open_ : ¬ Protected s m.postWord) :
    coversPostWord s a ws = true := by
  have k : j < (addressed a ws).length := by rwa [length_addressed]
  refine List.any_eq_true.2 ⟨(addressed a ws)[j], List.getElem_mem k, decide_eq_true ?_⟩
  rw [getElem_addressed a ws j h k]
  show placeOf s (wordAddress a j) = .postWord
  rw [placeOf_open hm (address ▸ open_), if_pos ⟨service, address⟩]

end

/-- Settles O38: memory and the port are as the burst leaves them, and reports touch neither. -/
theorem upstreamWriteReachesMemory : Obligations.UpstreamWriteReachesMemory := by
  intro s i a ws rest wf chosen aligned short command
  have run : exec i s = .next (settle s (serveWrite a ws s)) := by
    rcases command with rfl | ⟨rfl, service, m, hm, j, h, address, open_⟩
    · exact exec_upstreamWrite chosen
    · exact exec_postWordWrite chosen (coversPostWord_of_word hm service h address open_)
  have served := settle_serveWrite_served chosen
  have length := length_forwardedWords s a ws
  refine ⟨_, run, served.upstream, served.waitCount, fun j h b hb => ?_, fun x outside => ?_,
    ⟨forwardedWords s a ws, served.memoryPort, length, fun j h k => ?_⟩, exec_changes run, fun plain => ?_⟩
  · have byte := readByte_writeWords wf aligned (length.symm ▸ short) (length.symm ▸ h : j < (forwardedWords s a ws).length) hb
    rw [served.memory, byte, getElem_forwardedWords h, ← isDropped_placeOf_iff]
    refine ⟨fun ⟨enabled, open_⟩ => ?_, fun masked => ?_⟩
    · simp [open_, enabled]
    · rcases masked with off | dropped
      · split <;> simp [off]
      · simp [dropped]
  · rw [served.memory]
    exact readByte_writeWords_outside aligned (by rwa [length])
  · rw [getElem_forwardedWords h, ← isDropped_placeOf_iff]
    refine ⟨by split <;> rfl, fun dropped => by rw [if_pos dropped], fun open_ => by rw [if_neg open_]⟩
  · rw [serveWrite_plain plain]
    exact (burstWritten_changes a ws s).settle_only

end Sys2Proof.Machine
end

section
/-! SUPPORT. What the words of an upstream write report: the post word (R32), the controller's own regions and the guards
(R131), and the words of a frame (R106 to R109). -/
namespace Sys2Proof.Machine

/-! ## Latching -/

theorem mem_insertFault (l : List LatchedFault) (f g : LatchedFault) : g ∈ insertFault l f ↔ g = f ∨ g ∈ l := by
  have every : g ∈ allLatchedFaults := by cases g <;> decide
  simp [insertFault, every]

/-- Handing a record over clears no fault. -/
theorem mem_latched_handReturn {f : LatchedFault} {s : State} (h : f ∈ s.ret.latched) (r : ReturnRecord) :
    f ∈ (handReturn r s).ret.latched := by
  have placed : (placeReturn r s).ret.latched = s.ret.latched := (placeReturn_changes r s).get .latched (by decide)
  unfold handReturn
  split
  · rwa [placed]
  · split
    · exact h
    · unfold discardReturn
      split
      · exact h
      · exact (mem_insertFault _ _ _).2 (.inr h)

section
variable {f : LatchedFault} {c : EventCode} {l d : Nat} {s y : State}

theorem latch_latched (h : f ∈ s.ret.latched) : latch f c l d s = s := if_pos h

theorem latch_fresh (h : f ∉ s.ret.latched) : latch f c l d s = raise c l d (enterLatched f s) := if_neg h

/-- A fault that is not latched is latched and its event handed over. -/
theorem latch_handsOver (fresh : f ∉ s.ret.latched) (ret : y.ret = s.ret) (settings : y.settings = s.settings)
    (ms : y.ms = s.ms) (waits : ∀ e ∈ waiting s, e ∈ waiting y) :
    HandsOver [.event c l d s.ms] (enterLatched f s) (latch f c l d y) := by
  rw [latch_fresh (by rwa [ret]), ← ms]
  have entered : HandsOver [] (enterLatched f s) (enterLatched f y) :=
    .unhanded (by simp only [enterLatched, ret]) settings waits
  exact entered.trans (.hand _ _)

end

/-! ## The post word (R32) -/

section
variable {w : BusWord} {s : State}

theorem takePost_repeated (whole : w.be = 15) (same : w.data.setWidth 16 = s.tickets.producer) : takePost w s = s := by
  rw [takePost, if_pos whole, offerProducer, if_pos same]

section
variable {m : MapSettings} (hm : mapOf s = some m)
include hm

theorem takePost_accepted (whole : w.be = 15) (other : w.data.setWidth 16 ≠ s.tickets.producer)
    (near : (w.data.setWidth 16 - s.tickets.fetchIndex).toNat ≤ m.nt) :
    takePost w s = { s with tickets := { s.tickets with producer := w.data.setWidth 16 } } := by
  simp only [takePost, whole, if_true, offerProducer, other, if_false, hm, near]

theorem takePost_fault (bad : w.be ≠ 15 ∨ (w.data.setWidth 16 ≠ s.tickets.producer
    ∧ m.nt < (w.data.setWidth 16 - s.tickets.fetchIndex).toNat)) : takePost w s = postFault w.data s := by
  rw [takePost]
  split
  · rename_i whole
    rcases bad with part | ⟨other, far⟩
    · exact absurd whole part
    · simp only [offerProducer, other, if_false, hm, Nat.not_le.2 far]
  · rfl

end
end

/-- Settles O39: the three cases of a word at the post word. -/
theorem postWordOffersProducer : Obligations.PostWordOffersProducer := by
  intro s i m a w rest command chosen hm service address open_
  have first : wordAddress a 0 = m.postWord := by
    have := a.isLt
    rw [toNat_wordAddress]
    omega
  have run : exec i s = .next (settle s (serveWrite a [w] s)) := by
    rcases command with rfl | rfl
    · exact exec_upstreamWrite chosen
    · exact exec_postWordWrite chosen (coversPostWord_of_word hm service (ws := [w]) Nat.zero_lt_one first open_)
  have written := burstWritten_changes a [w] s
  rw [serveWrite_single, placeOf_open hm (address.symm ▸ open_), if_pos ⟨service, address⟩, reportWord] at run
  refine ⟨fun whole same => ?_, fun whole other near => ?_, fun bad => ⟨fun latched => ?_, fun fresh => ?_⟩⟩
  · rw [takePost_repeated whole (by exact same)] at run
    exact ⟨_, run, written.settle_only⟩
  · rw [takePost_accepted (s := burstWritten a [w] s) hm whole other near] at run
    refine ⟨_, run, settle_get s _ .tickets (by decide), Changes.settle_only ?_⟩
    exact (written.mono (by decide)).trans ((setTickets_changes _ _).mono (by decide))
  all_goals rw [takePost_fault (s := burstWritten a [w] s) hm (by exact bad), postFault] at run
  · rw [latch_latched (by exact latched)] at run
    exact ⟨_, run, written.settle_only⟩
  · have handed : HandsOver [.event .postFault 0 (w.data.toNat % 65536) s.ms] (enterLatched .postFault s)
        (latch .postFault .postFault 0 (w.data.toNat % 65536) (burstWritten a [w] s)) :=
      latch_handsOver fresh rfl rfl rfl fun _ he => he
    refine ⟨_, run, handed.settle s, Changes.settle_only ?_⟩
    exact (written.mono (by decide)).trans ((latch_changes _ _ _ _ _).mono (by decide))

/-! ## Dropped words (R131) -/

theorem writeWords_clear (m : Memory) (a : Word) {ws : List BusWord} (clear : ∀ w ∈ ws, w.be = 0) :
    writeWords m a ws = m := by
  induction ws generalizing m a with
  | nil => rfl
  | cons w ws ih =>
    rw [writeWords, writeWord_clear m a w (clear w List.mem_cons_self)]
    exact ih m _ fun x hx => clear x (List.mem_cons_of_mem _ hx)

/-- A burst of dropped words leaves memory alone. -/
theorem burstWritten_memory {s : State} {a : Word} {ws : List BusWord}
    (dropped : ∀ j < ws.length, Protected s (wordAddress a j)) : (burstWritten a ws s).memory = s.memory := by
  refine writeWords_clear _ _ fun w hw => ?_
  obtain ⟨y, hy, rfl⟩ := List.mem_map.1 hw
  obtain ⟨j, hj, address, -⟩ := mem_addressed hy
  rw [forwarded, if_pos]
  rw [isDropped_placeOf_iff, address]
  exact dropped j hj

/-- The foreign-write count with `n` words more. -/
def countForeign (n : Nat) (s : State) : State :=
  { s with path := { s.path with foreignWrites := min 65535 (s.path.foreignWrites + n) } }

/-- Words in the controller's own regions are reported one after another. -/
def reportForeign (ys : List (Word × BusWord)) (s : State) : State :=
  ys.foldl (fun x y => reportWord y.1 y.2 .ownRegion x) s

theorem reportForeign_cons (y : Word × BusWord) (ys : List (Word × BusWord)) (s : State) :
    reportForeign (y :: ys) s = reportForeign ys (reportWord y.1 y.2 .ownRegion s) := rfl

theorem reportForeign_append (xs ys : List (Word × BusWord)) (s : State) :
    reportForeign (xs ++ ys) s = reportForeign ys (reportForeign xs s) := List.foldl_append ..

theorem foreignWrite_eq (a : Word) (s : State) :
    foreignWrite a s = latch .foreignWrite .foreignWrite 0 a.toNat (countForeign 1 s) := rfl

theorem countForeign_countForeign (k n : Nat) (s : State) : countForeign k (countForeign n s) = countForeign (n + k) s := by
  have sum : min 65535 (min 65535 (s.path.foreignWrites + n) + k) = min 65535 (s.path.foreignWrites + (n + k)) := by omega
  simp only [countForeign, sum]

/-- Words without an enabled byte report nothing. -/
theorem reportForeign_clear {ys : List (Word × BusWord)} (clear : ∀ y ∈ ys, y.2.be = 0) (s : State) :
    reportForeign ys s = s := by
  induction ys with
  | nil => rfl
  | cons y ys ih =>
    have first : reportWord y.1 y.2 .ownRegion s = s := if_pos (clear y List.mem_cons_self)
    rw [reportForeign_cons, first]
    exact ih fun z hz => clear z (List.mem_cons_of_mem _ hz)

/-- R131: once FOREIGN_WRITE is latched, words are counted and nothing else. -/
theorem reportForeign_latched {ys : List (Word × BusWord)} {s : State} (latched : LatchedFault.foreignWrite ∈ s.ret.latched)
    (within : s.path.foreignWrites ≤ 65535) :
    reportForeign ys s = countForeign (ys.countP fun y => decide (y.2.be ≠ 0)) s := by
  induction ys generalizing s with
  | nil =>
    rw [reportForeign, List.foldl_nil, countForeign, List.countP_nil, Nat.add_zero, Nat.min_eq_right within]
  | cons y ys ih =>
    rw [reportForeign_cons, List.countP_cons, reportWord]
    by_cases clear : y.2.be = 0
    · rw [if_pos clear]
      simpa [clear] using ih latched within
    · have one : foreignWrite y.1 s = countForeign 1 s := latch_latched (s := countForeign 1 s) latched
      have more : decide (y.2.be ≠ 0) = true := decide_eq_true clear
      have rest := ih (s := countForeign 1 s) latched (Nat.min_le_left _ _)
      rw [countForeign_countForeign, Nat.add_comm] at rest
      rw [if_neg clear, one, if_pos more, rest]

/-- R131: the first word with an enabled byte latches FOREIGN_WRITE, and those behind it are counted. -/
theorem reportForeign_fresh {before after_ : List (Word × BusWord)} {y : Word × BusWord} {s : State}
    (clear : ∀ z ∈ before, z.2.be = 0) (enabled : y.2.be ≠ 0) :
    reportForeign (before ++ y :: after_) s =
      countForeign (after_.countP fun z => decide (z.2.be ≠ 0)) (foreignWrite y.1 s) := by
  have latched : LatchedFault.foreignWrite ∈ (foreignWrite y.1 s).ret.latched := by
    rw [foreignWrite_eq]
    by_cases already : LatchedFault.foreignWrite ∈ (countForeign 1 s).ret.latched
    · exact (latch_latched already).symm ▸ already
    · rw [latch_fresh already]
      exact mem_latched_handReturn ((mem_insertFault _ _ _).2 (.inl rfl)) _
  have within : (foreignWrite y.1 s).path.foreignWrites ≤ 65535 := by
    have counted : (foreignWrite y.1 s).path.foreignWrites = (countForeign 1 s).path.foreignWrites :=
      (latch_changes _ _ _ _ _).get .foreignWrites (by decide)
    rw [counted]
    exact Nat.min_le_left _ _
  have first : reportWord y.1 y.2 .ownRegion s = foreignWrite y.1 s := if_neg enabled
  rw [reportForeign_append, reportForeign_clear clear, reportForeign_cons, first]
  exact reportForeign_latched latched within

section
variable {s : State} {m : MapSettings} {a : Word} {ws : List BusWord} (hm : mapOf s = some m)
  (own : ∀ j < ws.length, InOwnRegion m (wordAddress a j))
include hm own

theorem serveWrite_own : serveWrite a ws s = reportForeign (addressed a ws) (burstWritten a ws s) := by
  rw [serveWrite_eq, reportForeign]
  refine List.foldl_rel (r := Eq) rfl fun y hy x x' same => ?_
  subst same
  obtain ⟨j, hj, address, -⟩ := mem_addressed hy
  rw [address, placeOf_own hm (own j hj)]

theorem burstWritten_own_memory : (burstWritten a ws s).memory = s.memory :=
  burstWritten_memory fun j hj => ⟨m, hm, .inl (own j hj)⟩

end

theorem countP_addressed (a : Word) (ws : List BusWord) :
    (addressed a ws).countP (fun y => decide (y.2.be ≠ 0)) = ws.countP fun w => decide (w.be ≠ 0) := by
  induction ws generalizing a with
  | nil => rfl
  | cons w ws ih => simp only [addressed, List.countP_cons, ih]

/-- The words of a burst before its first with an enabled byte, that word, and those behind it. -/
theorem addressed_split (a : Word) {ws : List BusWord} {j : Nat} (h : j < ws.length) (enabled : ws[j].be ≠ 0)
    (first : ∀ k (l : k < j), ws[k].be = 0) :
    ∃ before after_, addressed a ws = before ++ (a + BitVec.ofNat 32 (4 * j), ws[j]) :: after_
      ∧ (∀ z ∈ before, z.2.be = 0)
      ∧ (ws.countP fun w => decide (w.be ≠ 0)) = 1 + after_.countP fun z => decide (z.2.be ≠ 0) := by
  have k : j < (addressed a ws).length := by rwa [length_addressed]
  have split : addressed a ws =
      (addressed a ws).take j ++ (a + BitVec.ofNat 32 (4 * j), ws[j]) :: (addressed a ws).drop (j + 1) := by
    rw [← getElem_addressed a ws j h k, ← List.drop_eq_getElem_cons, List.take_append_drop]
  have clear : ∀ z ∈ (addressed a ws).take j, z.2.be = 0 := by
    intro z hz
    obtain ⟨i, hi, rfl⟩ := List.mem_take_iff_getElem.1 hz
    rw [getElem_addressed a ws i (by omega)]
    exact first i (by omega)
  refine ⟨_, _, split, clear, ?_⟩
  have none : ((addressed a ws).take j).countP (fun z => decide (z.2.be ≠ 0)) = 0 :=
    List.countP_eq_zero.2 fun z hz => by simp [clear z hz]
  rw [← countP_addressed a ws]
  rw [congrArg (List.countP fun z => decide (z.2.be ≠ 0)) split, List.countP_append, none, List.countP_cons, if_pos (by simpa using enabled)]
  omega

theorem countForeign_changes (n : Nat) (s : State) : Changes [.foreignWrites] s (countForeign n s) := by
  intro p hp
  cases p <;> simp_all [Part.same, countForeign]

/-- Words of a burst that falls in the controller's own regions. -/
theorem ownRegionWordsReported {s : State} {m : MapSettings} {a : Word} {ws : List BusWord} {rest : List Transaction}
    (chosen : UpstreamChosen s (.write a ws) rest) (hm : mapOf s = some m)
    (own : ∀ j < ws.length, InOwnRegion m (wordAddress a j)) (within : s.path.foreignWrites ≤ 65535) {j : Nat}
    (h : j < ws.length) (enabled : ws[j].be ≠ 0) (first : ∀ k (l : k < j), ws[k].be = 0) :
    let count := min 65535 (s.path.foreignWrites + ws.countP fun w => decide (w.be ≠ 0))
    (LatchedFault.foreignWrite ∈ s.ret.latched →
      ∃ u, exec .upstreamWrite s = .next u ∧ u.path.foreignWrites = count ∧ u.memory = s.memory
        ∧ Only (.foreignWrites :: writeServiceParts) s u)
      ∧ (LatchedFault.foreignWrite ∉ s.ret.latched →
        ∃ u, exec .upstreamWrite s = .next u ∧ u.path.foreignWrites = count ∧ u.memory = s.memory
          ∧ Handed [.event .foreignWrite 0 (wordAddress a j) s.ms] (enterLatched .foreignWrite s) u
          ∧ Only (.foreignWrites :: handParts ++ writeServiceParts) s u) := by
  have run := exec_upstreamWrite chosen
  have written := burstWritten_changes a ws s
  have memory := burstWritten_own_memory hm own
  rw [serveWrite_own hm own] at run
  refine ⟨fun latched => ?_, fun fresh => ?_⟩
  · rw [reportForeign_latched (by exact latched) (by exact within), countP_addressed] at run
    refine ⟨_, run, settle_get s _ .foreignWrites (by decide), (settle_get s _ .memory (by decide)).trans memory, ?_⟩
    exact ((written.mono (by decide)).trans ((countForeign_changes _ _).mono (by decide))).settle_only
  · obtain ⟨before, after_, split, clear, count⟩ := addressed_split a h enabled first
    rw [split, reportForeign_fresh clear enabled] at run
    have reported := foreignWrite_changes (a + BitVec.ofNat 32 (4 * j)) (burstWritten a ws s)
    have counted : (foreignWrite (a + BitVec.ofNat 32 (4 * j)) (burstWritten a ws s)).path.foreignWrites =
        min 65535 (s.path.foreignWrites + 1) := (latch_changes _ _ _ _ _).get .foreignWrites (by decide)
    have handed : HandsOver [.event .foreignWrite 0 (wordAddress a j) s.ms] (enterLatched .foreignWrite s)
        (foreignWrite (a + BitVec.ofNat 32 (4 * j)) (burstWritten a ws s)) :=
      latch_handsOver (y := countForeign 1 (burstWritten a ws s)) fresh rfl rfl rfl fun _ he => he
    have all := handed.trans (.unhanded (x := countForeign (after_.countP fun z => decide (z.2.be ≠ 0)) _) rfl rfl
      fun _ he => he)
    refine ⟨_, run, ?_, ?_, all.settle s, ?_⟩
    · refine (settle_get s _ .foreignWrites (by decide)).trans ?_
      show min 65535 (_ + _) = _
      rw [counted, count]
      omega
    · exact (settle_get s _ .memory (by decide)).trans ((reported.get .memory (by decide)).trans memory)
    · exact (((written.mono (by decide)).trans (reported.mono (by decide))).trans
        ((countForeign_changes _ _).mono (by decide))).settle_only

/-- A word in a guard. -/
theorem guardWordReported {s : State} {m : MapSettings} {a : Word} {rest : List Transaction} {w : BusWord} {i : Nat}
    {g : Guard} (chosen : UpstreamChosen s (.write a [w]) rest) (hm : mapOf s = some m) (enabled : w.be ≠ 0)
    (other : ¬ InOwnRegion m a.toNat) (hg : s.frames.guards[i]? = some (some g)) (inside : Inside a.toNat g.base g.length)
    (lowest : ∀ k < i, ∀ h, s.frames.guards[k]? = some (some h) → ¬ Inside a.toNat h.base h.length) :
    (g.hit = true → ∃ u, exec .upstreamWrite s = .next u ∧ u.memory = s.memory ∧ Only writeServiceParts s u)
      ∧ (g.hit = false →
        ∃ u, exec .upstreamWrite s = .next u ∧ u.memory = s.memory
          ∧ u.frames = { s.frames with guards := s.frames.guards.set i (some { g with hit := true }) }
          ∧ Handed [.event .guardHit 0 a.toNat s.ms] s u ∧ Only (.frames :: handParts ++ writeServiceParts) s u) := by
  have run := exec_upstreamWrite chosen
  have written := burstWritten_changes a [w] s
  have place := placeOf_guarded hm other (guardOf_eq_some hg inside lowest)
  have memory : (burstWritten a [w] s).memory = s.memory := burstWritten_memory fun j hj => by
    rw [← isDropped_placeOf_iff]
    have := a.isLt
    rw [show wordAddress a j = a.toNat by rw [toNat_wordAddress]; simp at hj; omega, place]
    rfl
  have here : ((burstWritten a [w] s).frames.guards[i]?).join = some g := by
    show (s.frames.guards[i]?).join = some g
    rw [hg]
    rfl
  rw [serveWrite_single, place, reportWord, if_neg enabled, guardWord, here] at run
  refine ⟨fun hit => ?_, fun unhit => ?_⟩
  · simp only [hit, if_true] at run
    exact ⟨_, run, (settle_get s _ .memory (by decide)).trans memory, written.settle_only⟩
  · simp only [unhit, Bool.false_eq_true, if_false] at run
    have raised := raise_changes .guardHit 0 a.toNat { burstWritten a [w] s with frames :=
      { s.frames with guards := s.frames.guards.set i (some { g with hit := true }) } }
    have marked : Changes [.frames] (burstWritten a [w] s) { burstWritten a [w] s with frames :=
        { s.frames with guards := s.frames.guards.set i (some { g with hit := true }) } } := by
      intro p hp
      cases p <;> simp_all [Part.same]
    have handed : HandsOver [] s { burstWritten a [w] s with frames :=
      { s.frames with guards := s.frames.guards.set i (some { g with hit := true }) } } :=
      .unhanded rfl rfl fun _ he => he
    refine ⟨_, run, (settle_get s _ .memory (by decide)).trans ((raised.get .memory (by decide)).trans memory),
      (settle_get s _ .frames (by decide)).trans (raised.get .frames (by decide)),
      (handed.trans (.hand _ _)).settle s, ?_⟩
    exact (((written.mono (by decide)).trans (marked.mono (by decide))).trans (raised.mono (by decide))).settle_only

/-- Settles O40: a burst into the controller's own regions, and a word in a guard. -/
theorem droppedWordsReported : Obligations.DroppedWordsReported := by
  intro s m a ws rest chosen hm
  refine ⟨fun own within j h enabled first => ownRegionWordsReported chosen hm own within h enabled first, ?_⟩
  rintro w i g rfl enabled other hg inside lowest
  exact guardWordReported chosen hm enabled other hg inside lowest

end Sys2Proof.Machine
end

section
/-! SUPPORT. The words of a frame (R107 to R110), its completion (R111 to R114) and its loss (R110): the windows, the
guards, the record and the regulator. -/
namespace Sys2Proof.Machine

/-! ## Words in a FILLING window -/

/-- R107, R108: what a word does to its window. -/
theorem judgeWord_eq (s : State) (off : Nat) (b : BusWord) (w : Window) :
    judgeWord (mechOf s).clipLevel off b w = judgedWindow s w off b := by
  have column : off - off / w.stride * w.stride = off % w.stride := by
    have := Nat.div_add_mod' off w.stride
    omega
  have setFull_eq : ∀ x : Window, setFull x = { x with full := x.full || decide (windowLength x ≤ x.fill) } := by
    intro x
    unfold setFull
    split <;> simp [*]
  rcases Nat.lt_trichotomy off w.fill with before | rfl | beyond
  · have ne : off ≠ w.fill := Nat.ne_of_lt before
    simp [judgeWord, judgedWindow, ne, before, Nat.not_le.2 before]
  · by_cases whole : b.be = 15#4
    · by_cases counted : w.patchValid = true ∧ inPatch w w.fill = true
      · obtain ⟨valid, inside⟩ := counted
        have area := inside
        simp only [inPatch, column, decide_eq_true_eq] at area
        simp [judgeWord, judgedWindow, whole, setFull_eq, windowLength, addPixels, valid, inside, area, pixelsOf, clipOf]
        exact ⟨rfl, rfl⟩
      · have outside : ¬ (w.patchValid = true ∧ (w.patch.x0 ≤ w.fill % w.stride / 2
            ∧ w.fill % w.stride / 2 < w.patch.x0 + w.patch.pw
            ∧ w.patch.y0 ≤ w.fill / w.stride ∧ w.fill / w.stride < w.patch.y0 + w.patch.ph)) := by
          simpa only [inPatch, column, decide_eq_true_eq] using counted
        simp [judgeWord, judgedWindow, whole, setFull_eq, windowLength, addPixels, counted, outside]
        rfl
    · simp [judgeWord, judgedWindow, whole, setFull_eq, windowLength]
      rfl
  · have ne : off ≠ w.fill := Nat.ne_of_gt beyond
    simp [judgeWord, judgedWindow, ne, Nat.not_lt.2 (Nat.le_of_lt beyond), Nat.le_of_lt beyond, setFull_eq, windowLength]
    rfl

section
variable {s : State} {i : Nat} {w : Window}

theorem windowAt_setWindow (hw : windowAt s i = some w) (x : Option Window) : windowAt (setWindow i x s) i = x := by
  obtain ⟨hi, -⟩ := windowAt_eq_some hw
  simp [windowAt, hi]

/-- R130: a word that falls in a window is judged there. -/
theorem serveWrite_frameWord {a : Word} {b : BusWord} (falls : FallsInWindow s i a b w) :
    serveWrite a [b] s =
      completeIfFull i (setWindow i (some (judgedWindow s w (a.toNat - w.base) b)) (burstWritten a [b] s)) := by
  obtain ⟨-, map, open_, elsewhere, hw, filling, inside, lowest⟩ := falls
  obtain ⟨m, hm⟩ := Option.isSome_iff_exists.1 map
  have here : windowAt (burstWritten a [b] s) i = some w := hw
  rw [serveWrite_single, placeOf_open hm open_, if_neg (by simp [elsewhere m hm]),
    fillingOf_eq_some hw filling inside lowest, reportWord, frameWord, here]
  simp only [filling, if_true]
  exact congrArg (fun z => completeIfFull i (setWindow i (some z) (burstWritten a [b] s)))
    (judgeWord_eq (burstWritten a [b] s) _ b w)

/-- A window that no frame completes stays. -/
theorem completeIfFull_unfinished (hw : windowAt s i = some w)
    (unfinished : w.fire = none ∨ w.strobeEnd = none ∨ w.full = false) : completeIfFull i s = s := by
  simp only [completeIfFull, hw]
  cases fire : w.fire with
  | none => rfl
  | some f =>
    have still : ¬ (w.filling = true ∧ w.full = true ∧ w.strobeEnd.isSome = true) := by
      rintro ⟨-, full, ended⟩
      rcases unfinished with unfired | dark | short
      · simp [unfired] at fire
      · simp [dark] at ended
      · simp [short] at full
    exact if_neg still

end

/-- Settles O41: the word is judged in its window, and no frame completes. -/
theorem frameWordJudged : Obligations.FrameWordJudged := by
  intro s i a b w falls unfinished
  have served := serveWrite_frameWord falls
  obtain ⟨⟨rest, chosen⟩, -, -, -, hw, -⟩ := falls
  have run := exec_upstreamWrite chosen
  have judged : windowAt (setWindow i (some (judgedWindow s w (a.toNat - w.base) b)) (burstWritten a [b] s)) i =
      some (judgedWindow s w (a.toNat - w.base) b) := windowAt_setWindow (s := burstWritten a [b] s) hw _
  rw [served, completeIfFull_unfinished judged unfinished] at run
  refine ⟨_, run, settle_get s _ .frames (by decide), Changes.settle_only ?_⟩
  exact ((burstWritten_changes a [b] s).mono (by decide)).trans ((setWindow_changes _ _ _).mono (by decide))

/-! ## The end of a frame -/

/-- These account records are placed one after another. -/
def placeRecords (rs : List (Half × List Byte)) (s : State) : State :=
  rs.foldl (fun x r => placeAccountWrite r.1 r.2 x) s


/-- R105: a window that ends is freed, and its partner told. -/
theorem tellPartner_setWindow (i : Nat) (w : Window) (st : FrameStatus) (s : State) :
    tellPartner w st (setWindow i none s) =
      { s with frames := { s.frames with windows := windowEnded i w st s.frames.windows } } := by
  unfold tellPartner windowEnded
  cases w.partner with
  | none => rfl
  | some j =>
    cases w.partnerEnd with
    | some _ => rfl
    | none =>
      have told := List.modify_eq_set (fun x => Option.map (fun p : Window => { p with partnerEnd := some st }) x)
        j (s.frames.windows.set i none)
      simp only [told, windowAt, setWindow_frames]
      rcases entry : (s.frames.windows.set i none)[j]? with - | - | p
      · have outside := List.set_eq_of_length_le (a := none) (List.getElem?_eq_none_iff.1 entry)
        exact congrArg (fun ws => { s with frames := { s.frames with windows := ws } }) outside.symm
      · obtain ⟨hj, gone⟩ := List.getElem?_eq_some_iff.1 entry
        have same : (s.frames.windows.set i none).set j none = s.frames.windows.set i none := by
          calc (s.frames.windows.set i none).set j none
              = (s.frames.windows.set i none).set j (s.frames.windows.set i none)[j] := by rw [gone]
            _ = s.frames.windows.set i none := List.set_getElem_self hj
        simp [setWindow, same]
      · rfl

section
variable {s : State} {i : Nat} {w : Window} {f : FireData} {st : FrameStatus} {v : Volume}

/-- R115: the FRAME record as the statement of its fields gives it. -/
theorem frameContent_eq {ended : Word} {t : Nat} (strobed : w.strobeEnd = some (ended, t)) :
    frameContent w f st v = frameRecordOf w f st v t := by
  simp [frameContent, frameRecordOf, frameFlags, darkFlag, saturatedFlag, patchMean, clipFraction, windowExposure, strobed,
    frameDigest, patchPixels, Bool.and_assoc]
  rfl

theorem setVolume_self {slot : Nat} (hv : volumeAt s slot = some v) : setVolume slot (some v) s = s := by
  rw [setVolume, entries_set_volumeAt hv]

/-- R124: the regulator as the statement of its effect gives it. -/
theorem runRegulator_eq (hv : volumeAt s w.slot = some v) :
    runRegulator w f st s = setVolume w.slot (some (regulated s w f st v)) s := by
  simp only [runRegulator, hv, regulated]
  by_cases runs : st = .complete ∧ w.patchValid = true ∧ v.regulation = true
  · have mean : patchMean w = w.patchSum / patchPixels w.patch := if_pos runs.2.1
    rw [if_pos runs, if_pos runs, mean]
    cases regulate f.code v.target (w.patchSum / patchPixels w.patch) w.clips (patchPixels w.patch) (mechOf s).dMin
      (effectiveMax s w.side) with
    | none => exact (setVolume_self hv).symm
    | some d => rfl
  · rw [if_neg runs, if_neg runs, setVolume_self hv]

theorem setVolume_setVolume (slot : Nat) (x y : Option Volume) (s : State) :
    setVolume slot x (setVolume slot y s) = setVolume slot x s := by
  simp [setVolume]

/-- R110, R132: the FRAME record is numbered and chained, and the exception list follows the status. -/
theorem accountFrame_eq (hv : volumeAt s w.slot = some v) (c : Volume) :
    accountFrame w f st c s = takeAccountSlot (setVolume w.slot
      (some (frameException f.leaf w.side st (afterRecords w.slot s.ms c [frameContent w f st c]))) s) := by
  have held : volumeAt (numberRecord w.slot c (frameContent w f st c) s) w.slot =
      some (afterRecords w.slot s.ms c [frameContent w f st c]) := volumeAt_of_entries_set (lt_length_of_volumeAt hv) rfl
  rw [accountFrame, modifyVolume, held]
  exact congrArg takeAccountSlot (setVolume_setVolume w.slot _ _ s)

theorem placeAccountWrite_withTone (k : Half) (bytes : List Byte) (tone : Tone) (s : State) :
    withTone tone (placeAccountWrite k bytes s) = placeAccountWrite k bytes (withTone tone s) := by
  have map : mapOf (withTone tone s) = mapOf s := rfl
  rw [placeAccountWrite, placeAccountWrite, map]
  cases mapOf s with
  | none => rfl
  | some m =>
    exact (apply_ite (withTone tone) _ _ _).trans rfl

/-- 10.4: the chirp of a capture whose frames are all COMPLETE. -/
theorem frameTone_eq (w : Window) (s : State) :
    (if capturePerfect w (completionStatus w) then chirpSignal s else s) = withTone (frameTone w s) s := by
  have perfect : capturePerfect w (completionStatus w) = true ↔
      statusOf w = .complete ∧ (w.partner = none ∨ w.partnerEnd = some .complete) := by
    rw [capturePerfect, Bool.and_eq_true]
    exact and_congr decide_eq_true_iff (by simp)
  unfold frameTone
  by_cases h : capturePerfect w (completionStatus w) = true
  · rw [if_pos h]
    simp only [perfect.1 h, true_and, chirpSignal]
    cases on : chirpOn s <;> cases tone : s.ret.tone <;> simp [withTone, ← tone, after]
  · rw [if_neg h]
    cases tone : s.ret.tone <;> simp [mt perfect.2 h, withTone, ← tone]

theorem frameTone_placeAccountWrite (k : Half) (bytes : List Byte) (s : State) :
    frameTone w (placeAccountWrite k bytes s) = frameTone w s := by
  have frame := placeAccountWrite_changes k bytes s
  have tone : _ = s.ret.tone := frame.get .tone (by decide)
  have settings : _ = s.settings := frame.get .settings (by decide)
  have ms : _ = s.ms := frame.get .ms (by decide)
  have chirp : chirpOn (placeAccountWrite k bytes s) = chirpOn s := by unfold chirpOn mapOf; rw [settings]
  unfold frameTone
  rw [tone, chirp, ms]

/-- The state of a frame that ends with its record about to be placed. -/
def frameLeft (i : Nat) (w : Window) (f : FireData) (t : Nat) (v : Volume) (x : State) : State :=
  let k := slotOf x.account.producer (accountCapacity x)
  { x with
    volumes := { x.volumes with entries := x.volumes.entries.set w.slot (some (frameException f.leaf w.side (statusOf w)
      (afterRecords w.slot x.ms v [frameRecordOf w f (statusOf w) v t]))) }
    account := { x.account with
      producer := x.account.producer + 1, reserved := x.account.reserved - 1
      posted := x.account.posted.filter fun j => decide (j ≠ k)
      readMarks := x.account.readMarks.filter fun j => decide (j ≠ k) }
    frames := frameGuarded i w (statusOf w) x.account.producer x.frames
    ret := { x.ret with tone := frameTone w x } }

/-- R110 to R114: a window whose frame is complete. -/
theorem completeFrame_eq {ended : Word} {t : Nat} (strobed : w.strobeEnd = some (ended, t))
    (hv : volumeAt s w.slot = some v) :
    completeFrame i w f s =
      placeAccountWrite s.account.producer
        (accountBytes w.slot (regulated s w f (statusOf w) v) s.ms
          (frameRecordOf w f (statusOf w) (regulated s w f (statusOf w) v) t))
        (frameLeft i w f t (regulated s w f (statusOf w) v) s) := by
  have held : volumeAt (setVolume w.slot (some (regulated s w f (statusOf w) v)) s) w.slot =
      some (regulated s w f (statusOf w) v) := volumeAt_of_entries_set (lt_length_of_volumeAt hv) rfl
  have status : completionStatus w = statusOf w := rfl
  rw [completeFrame, status, runRegulator_eq hv]
  simp only [held, frameContent_eq strobed, accountFrame_eq held, tellPartner_setWindow]
  rw [← status, frameTone_eq, status, placeAccountWrite_withTone]
  refine congrArg (placeAccountWrite _ _) ?_
  rw [frameTone_placeAccountWrite, frameLeft, setVolume_setVolume]
  rfl

theorem completeFrame_unheld (hv : volumeAt s w.slot = none) : completeFrame i w f s = s := by
  simp [completeFrame, runRegulator, hv]

/-- R110 to R114, 10.4: the end of a frame, as the model's statements give it. -/
theorem completeIfFull_eq (i : Nat) (x : State) :
    completeIfFull i x = placeRecords (frameRecords i x) (frameDone i x) := by
  unfold completeIfFull frameRecords frameDone
  cases hw : windowAt x i with
  | none => rfl
  | some w =>
    cases hf : w.fire with
    | none => simp only [hf]; rfl
    | some f =>
      rcases hs : w.strobeEnd with - | ⟨ended, t⟩
      · simp [hf, hs, placeRecords]
      · simp only [hf, hs, Option.isSome_some, and_true]
        by_cases complete : w.filling = true ∧ w.full = true
        · rw [if_pos complete]
          cases hv : volumeAt x w.slot with
          | none => exact completeFrame_unheld hv
          | some v =>
            simp only [if_pos complete]
            exact completeFrame_eq hs hv
        · rw [if_neg complete]
          cases volumeAt x w.slot with
          | none => rfl
          | some v =>
            simp only [if_neg complete]
            rfl

/-- A window that was written and then ends is freed all the same. -/
theorem windowEnded_set (x : Option Window) (ws : List (Option Window)) :
    windowEnded i w st (ws.set i x) = windowEnded i w st ws := by
  simp [windowEnded]

theorem tellPartner_frames {x y : State} (same : x.frames = y.frames) :
    (tellPartner w st x).frames = (tellPartner w st y).frames := by
  unfold tellPartner windowAt
  rw [same]
  split
  · split
    · rw [setWindow_frames, setWindow_frames, same]
    · exact same
  · exact same

/-! ## The obligations -/

/-- What the end of a frame left stays while the table, the ring and the settings do. -/
theorem frameEnded_mono {slot leaf : Nat} {side : Side} {c : AccountContent} {x y : State} {ps : List Part}
    (h : FrameEnded slot v leaf side st c s x) (changes : Changes ps x y)
    (rest : ∀ p ∈ [Part.volumes, .account, .settings], p ∉ ps) (waits : ∀ e ∈ waiting x, e ∈ waiting y) :
    FrameEnded slot v leaf side st c s y := by
  obtain ⟨active, entries, producer, reserved, recorded⟩ := h
  have volumes : y.volumes = x.volumes := changes .volumes (rest _ (by decide))
  have account : y.account = x.account := changes .account (rest _ (by decide))
  exact ⟨by rw [volumes, active], by rw [volumes, entries], by rw [account, producer], by rw [account, reserved],
    recorded.mono (changes .settings (rest _ (by decide))) waits⟩

theorem frameEnded_settled {slot leaf : Nat} {side : Side} {c : AccountContent} {x : State}
    (h : FrameEnded slot v leaf side st c s x) (b : State) : FrameEnded slot v leaf side st c s (settle b x) :=
  frameEnded_mono h (settle_changes b x) (by decide) (mem_settle b x)

/-- A frame that ends with its record about to be placed, and the record placed. -/
theorem frameEnded_placeAccountWrite {slot leaf : Nat} {side : Side} {c : AccountContent} {x : State}
    (map : (mapOf x).isSome) (active : x.volumes.active = s.volumes.active)
    (entries : x.volumes.entries = s.volumes.entries.set slot
      (some (frameException leaf side st (afterRecords slot s.ms v [c]))))
    (producer : x.account.producer = s.account.producer + 1) (reserved : x.account.reserved = s.account.reserved - 1) :
    FrameEnded slot v leaf side st c s (placeAccountWrite s.account.producer (accountBytes slot v s.ms c) x) := by
  obtain ⟨m, hm⟩ := Option.isSome_iff_exists.1 map
  have frame := placeAccountWrite_changes s.account.producer (accountBytes slot v s.ms c) x
  have volumes : _ = x.volumes := frame.get .volumes (by decide)
  have account : _ = x.account := frame.get .account (by decide)
  have settings : _ = x.settings := frame.get .settings (by decide)
  exact ⟨by rw [volumes, active], by rw [volumes, entries], by rw [account, producer], by rw [account, reserved],
    ⟨m, by rwa [mapOf, settings], requested_placeAccountWrite hm _ _⟩, trivial⟩

/-- R110: a frame that is LOST. -/
theorem loseFrame_ends {ended : Word} {t : Nat} (strobed : w.strobeEnd = some (ended, t)) (hv : volumeAt s w.slot = some v)
    (map : (mapOf s).isSome) :
    FrameEnded w.slot v f.leaf w.side .lost (frameRecordOf w f .lost v t) s (loseFrame i w f s)
      ∧ (loseFrame i w f s).frames = { s.frames with
          windows := windowEnded i w .lost s.frames.windows, guardReserved := s.frames.guardReserved - 1 }
      ∧ Changes [.volumes, .account, .frames, .requests] s (loseFrame i w f s) := by
  let s1 := setWindow i none { s with frames := { s.frames with guardReserved := s.frames.guardReserved - 1 } }
  have held : volumeAt s1 w.slot = some v := hv
  let placed := placeAccountWrite s.account.producer (accountBytes w.slot v s.ms (frameRecordOf w f .lost v t))
    (accountFrame w f .lost v s1)
  have loses : loseFrame i w f s = tellPartner w .lost placed := by
    simp only [loseFrame, s1] at held ⊢
    simp only [held, frameContent_eq strobed]
    rfl
  have told := tellPartner_changes w .lost placed
  rw [loses]
  refine ⟨frameEnded_mono (x := placed) (frameEnded_placeAccountWrite ?_ ?_ ?_ ?_ ?_) told (by decide) ?_, ?_, ?_⟩
  · rw [accountFrame_eq held]; exact map
  · rw [accountFrame_eq held]; rfl
  · rw [accountFrame_eq held, frameContent_eq strobed]; rfl
  · rw [accountFrame_eq held]; rfl
  · rw [accountFrame_eq held]; rfl
  · obtain ⟨internal, blocked⟩ := told .requests (by decide)
    intro e he
    rwa [waiting, internal, blocked]
  · have frames : placed.frames = s1.frames := ((placeAccountWrite_changes _ _ _).get .frames (by decide)).trans
      ((accountFrame_changes w f .lost v s1).get .frames (by decide))
    rw [tellPartner_frames frames, tellPartner_setWindow]
  · have freed : Changes [.volumes, .account, .frames, .requests] s s1 := by
      intro p hp
      cases p <;> simp_all [Part.same, s1]
    exact ((freed.trans ((accountFrame_changes w f .lost v s1).mono (by decide))).trans
      ((placeAccountWrite_changes _ _ _).mono (by decide))).trans (told.mono (by decide))

end

/-- Settles O43: the judged window is FULL, and its frame ends as `completeFrame_eq` says. -/
theorem frameCompletes : Obligations.FrameCompletes := by
  intro s i a b w f ended t v falls fire strobed full hv z v1
  have served := serveWrite_frameWord falls
  obtain ⟨⟨rest, chosen⟩, map, -, -, hw, filling, -⟩ := falls
  have run := exec_upstreamWrite chosen
  have judged : windowAt (setWindow i (some z) (burstWritten a [b] s)) i = some z :=
    windowAt_setWindow (s := burstWritten a [b] s) hw _
  have held : volumeAt (setWindow i (some z) (burstWritten a [b] s)) z.slot = some v := hv
  have completes : completeIfFull i (setWindow i (some z) (burstWritten a [b] s)) =
      completeFrame i z f (setWindow i (some z) (burstWritten a [b] s)) := by
    have fire : z.fire = some f := fire
    have ends : z.filling = true ∧ z.full = true ∧ z.strobeEnd.isSome = true := ⟨filling, full, by simp [z, judgedWindow, strobed]⟩
    simp only [completeIfFull, judged, fire]
    exact if_pos ends
  have frame := completeIfFull_changes i (setWindow i (some z) (burstWritten a [b] s))
  rw [served] at run
  rw [completes, completeFrame_eq (w := z) (ended := ended) (t := t) strobed held] at run frame
  have ends := frameEnded_placeAccountWrite (s := s) (v := v1) (st := statusOf z) (leaf := f.leaf) (side := w.side)
    (x := frameLeft i z f t v1 (setWindow i (some z) (burstWritten a [b] s))) map rfl rfl rfl rfl
  have placed := placeAccountWrite_changes s.account.producer (accountBytes w.slot v1 s.ms (frameRecordOf z f (statusOf z) v1 t))
    (frameLeft i z f t v1 (setWindow i (some z) (burstWritten a [b] s)))
  refine ⟨_, run, frameEnded_settled ends s, ?_, ?_, ?_⟩
  · have frames := (settle_get s _ .frames (by decide)).trans (placed.get .frames (by decide))
    refine frames.trans ?_
    simp only [frameLeft, frameGuarded, setWindow_frames, windowEnded_set]
    rfl
  · exact (settle_get s _ .tone (by decide)).trans (placed.get .tone (by decide))
  · exact Changes.settle_only ((((burstWritten_changes a [b] s).mono (by decide)).trans
      ((setWindow_changes _ _ _).mono (by decide))).trans (frame.mono (by decide)))

/-- Settles O44. -/
theorem frameTimeoutLosesFrame : Obligations.FrameTimeoutLosesFrame := by
  intro s i w f ended t v hw filling fire strobed hv map
  have run : exec (.frameTimeout i) s = .next (settle s (frameExpired i s)) := rfl
  have expired : frameExpired i s =
      if reached s.ms (ended + BitVec.ofNat 32 (mechOf s).frameTimeout) = true then loseFrame i w f s else s := by
    simp [frameExpired, hw, fire, strobed, filling, after]
  rw [expired] at run
  refine ⟨fun early => ?_, fun late => ?_⟩
  · rw [if_neg (by simp [early])] at run
    exact exec_holds run
  · rw [if_pos late] at run
    obtain ⟨ends, frames, changes⟩ := loseFrame_ends (i := i) (f := f) strobed hv map
    exact ⟨_, run, frameEnded_settled ends s, (settle_get s _ .frames (by decide)).trans frames,
      changes.settle_only⟩

end Sys2Proof.Machine
end

section
/-! SUPPORT. Reads of closing words: the read marks, the consumer indexes and what a passed record releases (R133, R134,
R157, R158). -/
namespace Sys2Proof.Machine

/-! ## Slots of a ring -/

section
variable {n : Nat} {c : Half}

/-- A ring whose length divides the range of an index has its slots in the order of the index. -/
theorem slotOf_add (divides : 65536 % n = 0) (c : Half) (j : Nat) :
    slotOf (c + BitVec.ofNat 16 j) n = (c.toNat + j) % n := by
  have dvd : n ∣ 65536 := Nat.dvd_of_mod_eq_zero divides
  rw [slotOf, BitVec.toNat_add, BitVec.toNat_ofNat, Nat.mod_mod_of_dvd _ dvd, Nat.add_mod, Nat.mod_mod_of_dvd _ dvd,
    ← Nat.add_mod]

/-- Different indexes less than a ring apart have different slots. -/
theorem slotOf_add_ne (divides : 65536 % n = 0) {i j : Nat} (lt : i < j) (near : j - i < n) :
    slotOf (c + BitVec.ofNat 16 j) n ≠ slotOf (c + BitVec.ofNat 16 i) n := by
  rw [slotOf_add divides, slotOf_add divides]
  intro same
  have dvd : n ∣ (c.toNat + j) - (c.toNat + i) := Nat.dvd_of_mod_eq_zero (Nat.sub_mod_eq_zero_of_mod_eq same)
  have := Nat.le_of_dvd (by omega) dvd
  omega

/-- The offset of the slot of an index ahead is how far ahead it is. -/
theorem slotOffset_ahead (divides : 65536 % n = 0) {d : Nat} (ahead : d < n) :
    slotOffset c (slotOf (c + BitVec.ofNat 16 d) n) n = d := by
  have pos : 0 < n := by omega
  have small := Nat.mod_lt c.toNat pos
  rw [slotOffset, slotOf_add divides, slotOf, Nat.add_mod, Nat.mod_eq_of_lt ahead]
  rcases Nat.lt_or_ge (c.toNat % n + d) n with under | beyond
  · rw [Nat.mod_eq_of_lt under, show c.toNat % n + d + n - c.toNat % n = d + n by omega, Nat.add_mod_right,
      Nat.mod_eq_of_lt ahead]
  · rw [Nat.mod_eq_sub_mod beyond, Nat.mod_eq_of_lt (by omega : c.toNat % n + d - n < n),
      show c.toNat % n + d - n + n - c.toNat % n = d by omega, Nat.mod_eq_of_lt ahead]

theorem add_ofNat_succ (c : Half) (j : Nat) : c + 1 + BitVec.ofNat 16 j = c + BitVec.ofNat 16 (j + 1) := by
  rw [Nat.add_comm j 1, BitVec.ofNat_add, ← BitVec.add_assoc]
  rfl

/-- Indexes left after some are passed. -/
theorem toNat_sub_passed {p c : Half} {run : Nat} (le : run ≤ (p - c).toNat) :
    (p - (c + BitVec.ofNat 16 run)).toNat = (p - c).toNat - run := by
  have := (p - c).isLt
  rw [show p - (c + BitVec.ofNat 16 run) = p - c - BitVec.ofNat 16 run by bv_omega, BitVec.toNat_sub_of_le, BitVec.toNat_ofNat,
    Nat.mod_eq_of_lt (by omega)]
  rw [BitVec.le_def, BitVec.toNat_ofNat]
  exact Nat.le_trans (Nat.mod_le _ _) le

end

/-! ## Passing the marked slots -/

/-- How many of the oldest unread slots have their marks. -/
def passRun (n : Nat) : Nat → Half → List Nat → Nat
  | 0, _, _ => 0
  | k + 1, c, marks => if slotOf c n ∈ marks then passRun n k (c + 1) (unmark marks (slotOf c n)) + 1 else 0

/-- The marks left once those slots are passed. -/
def passMarks (n : Nat) : Nat → Half → List Nat → List Nat
  | 0, _, marks => marks
  | k + 1, c, marks => if slotOf c n ∈ marks then passMarks n k (c + 1) (unmark marks (slotOf c n)) else marks

section
variable {n : Nat}

theorem mem_unmark {marks : List Nat} {q k : Nat} : q ∈ unmark marks k ↔ q ∈ marks ∧ q ≠ k := by
  simp [unmark]

theorem mem_mark {marks : List Nat} {q k : Nat} : q ∈ mark marks k ↔ q ∈ marks ∨ q = k := by
  unfold mark
  split
  · exact ⟨.inl, fun h => h.elim id fun same => same ▸ ‹_›⟩
  · rw [List.mem_cons, or_comm]

theorem mem_passMarks (k : Nat) (c : Half) (marks : List Nat) (q : Nat) :
    q ∈ passMarks n k c marks ↔ q ∈ marks ∧ ∀ j < passRun n k c marks, q ≠ slotOf (c + BitVec.ofNat 16 j) n := by
  induction k generalizing c marks with
  | zero => simp [passMarks, passRun]
  | succ k ih =>
    by_cases marked : slotOf c n ∈ marks
    · simp only [passMarks, passRun, if_pos marked, ih, mem_unmark, add_ofNat_succ]
      rw [and_assoc]
      refine and_congr_right fun _ => ⟨fun ⟨here, rest⟩ j hj => ?_, fun all => ⟨?_, fun j hj => all (j + 1) (by omega)⟩⟩
      · cases j with
        | zero => simpa using here
        | succ j => exact rest j (by omega)
      · simpa using all 0 (by omega)
    · simp [passMarks, passRun, marked]

theorem passRun_passes (divides : 65536 % n = 0) (k : Nat) (c : Half) (marks : List Nat) (le : k ≤ n) :
    PassesRun c n k (· ∈ marks) (passRun n k c marks) := by
  induction k generalizing c marks with
  | zero => exact ⟨Nat.le_refl _, by simp [passRun], by simp [passRun]⟩
  | succ k ih =>
    by_cases marked : slotOf c n ∈ marks
    · obtain ⟨bound, passed, stopped⟩ := ih (c + 1) (unmark marks (slotOf c n)) (by omega)
      simp only [passRun, if_pos marked, add_ofNat_succ, mem_unmark] at passed stopped ⊢
      refine ⟨by omega, fun j hj => ?_, fun short still => stopped (by omega) ⟨still, ?_⟩⟩
      · cases j with
        | zero => simpa using marked
        | succ j => exact (passed j (by omega)).1
      · have apart := slotOf_add_ne (n := n) (c := c) divides (Nat.succ_pos (passRun n k (c + 1) (unmark marks (slotOf c n)))) (by omega)
        simpa using apart
    · simp only [passRun, if_neg marked]
      exact ⟨Nat.zero_le _, by simp, fun _ => by simpa using marked⟩

/-- R134: the consumer index of the account ring passes the marked slots. -/
theorem advanceAccount_eq (k : Nat) (s : State) (unread : accountUnread s = k) :
    advanceAccount k s = { s with account := { s.account with
      consumer := s.account.consumer + BitVec.ofNat 16 (passRun (accountCapacity s) k s.account.consumer s.account.readMarks)
      readMarks := passMarks (accountCapacity s) k s.account.consumer s.account.readMarks } } := by
  induction k generalizing s with
  | zero => simp [advanceAccount, passRun, passMarks]
  | succ k ih =>
    by_cases marked : slotOf s.account.consumer (accountCapacity s) ∈ s.account.readMarks
    · have ahead : accountUnread s ≠ 0 ∧ slotOf s.account.consumer (accountCapacity s) ∈ s.account.readMarks :=
        ⟨by omega, marked⟩
      rw [advanceAccount, if_pos ahead, ih]
      · simp only [passRun, passMarks, if_pos marked, add_ofNat_succ]
        rfl
      · have := toNat_sub_passed (p := s.account.producer) (c := s.account.consumer) (run := 1) (by simp only [accountUnread] at unread; omega)
        simp only [accountUnread] at unread ⊢
        change (s.account.producer - (s.account.consumer + BitVec.ofNat 16 1)).toNat = k
        omega
    · have stays : ¬ (accountUnread s ≠ 0 ∧ slotOf s.account.consumer (accountCapacity s) ∈ s.account.readMarks) :=
        fun h => marked h.2
      rw [advanceAccount, if_neg stays]
      simp [passRun, passMarks, marked]

/-- R157: the consumer index of the return ring passes the marked slots. -/
theorem advanceReturn_eq (k : Nat) (s : State) (unread : returnUnread s = k) :
    advanceReturn k s = { s with ret := { s.ret with
      consumer := s.ret.consumer + BitVec.ofNat 16 (passRun (returnCapacity s) k s.ret.consumer s.ret.readMarks)
      readMarks := passMarks (returnCapacity s) k s.ret.consumer s.ret.readMarks } } := by
  induction k generalizing s with
  | zero => simp [advanceReturn, passRun, passMarks]
  | succ k ih =>
    by_cases marked : slotOf s.ret.consumer (returnCapacity s) ∈ s.ret.readMarks
    · have ahead : returnUnread s ≠ 0 ∧ slotOf s.ret.consumer (returnCapacity s) ∈ s.ret.readMarks :=
        ⟨by omega, marked⟩
      rw [advanceReturn, if_pos ahead, ih]
      · simp only [passRun, passMarks, if_pos marked, add_ofNat_succ]
        rfl
      · have := toNat_sub_passed (p := s.ret.producer) (c := s.ret.consumer) (run := 1) (by simp only [returnUnread] at unread; omega)
        simp only [returnUnread] at unread ⊢
        change (s.ret.producer - (s.ret.consumer + BitVec.ofNat 16 1)).toNat = k
        omega
    · have stays : ¬ (returnUnread s ≠ 0 ∧ slotOf s.ret.consumer (returnCapacity s) ∈ s.ret.readMarks) :=
        fun h => marked h.2
      rw [advanceReturn, if_neg stays]
      simp [passRun, passMarks, marked]

end

/-! ## Moving queued returns into the ring (R157) -/

theorem placeInternal_ret (e : InternalEntry) (s : State) : (placeInternal e s).ret = s.ret := by
  unfold placeInternal
  split <;> rfl

/-- What moving the records `rs` into the return ring leaves. -/
structure RecordsMoved (m : MapSettings) (rs : List ReturnRecord) (s t : State) : Prop where
  producer : t.ret.producer = s.ret.producer + BitVec.ofNat 16 rs.length
  requested : ∀ j (h : j < rs.length), Requested t (.returnWrite (s.ret.producer + BitVec.ofNat 16 j))
    (BitVec.ofNat 32 (m.returnBase + 16 * slotOf (s.ret.producer + BitVec.ofNat 16 j) m.nr)) (returnBytes rs[j])
  waits : ∀ e ∈ waiting s, e ∈ waiting t
  consumer : t.ret.consumer = s.ret.consumer
  overruns : t.ret.overruns = s.ret.overruns
  postedProducer : t.ret.postedProducer = s.ret.postedProducer
  settings : t.settings = s.settings

section
variable {m : MapSettings} {s x t : State} {r : ReturnRecord} {rs : List ReturnRecord}

theorem RecordsMoved.nil : RecordsMoved m [] s s where
  producer := by simp
  requested j h := absurd h (Nat.not_lt_zero j)
  waits _ he := he
  consumer := rfl
  overruns := rfl
  postedProducer := rfl
  settings := rfl

/-- One record and then more. -/
theorem RecordsMoved.cons (h : RecordsMoved m [r] s x) (k : RecordsMoved m rs x t) : RecordsMoved m (r :: rs) s t where
  producer := by
    rw [k.producer, h.producer, List.length_cons]
    exact add_ofNat_succ _ _
  requested := by
    intro j hj
    cases j with
    | zero => exact k.waits _ (h.requested 0 (by simp))
    | succ j =>
      have later := k.requested j (by simpa using hj)
      rw [h.producer] at later
      rwa [← add_ofNat_succ]
  waits e he := k.waits e (h.waits e he)
  consumer := k.consumer.trans h.consumer
  overruns := k.overruns.trans h.overruns
  postedProducer := k.postedProducer.trans h.postedProducer
  settings := k.settings.trans h.settings

/-- R157: the record that stands first is placed, and the rest of the queue stays. -/
theorem placeReturn_moves (map : mapOf s = some m) (q : List ReturnRecord) :
    let y := placeReturn r { s with ret := { s.ret with queue := q } }
    RecordsMoved m [r] s y ∧ y.ret.queue = q ∧ y.ret.overrunPending = s.ret.overrunPending ∧ y.ms = s.ms := by
  intro y
  have map' : mapOf { s with ret := { s.ret with queue := q } } = some m := map
  have frame := placeReturn_changes r { s with ret := { s.ret with queue := q } }
  have settings : y.settings = s.settings := frame.get .settings (by decide)
  have ms : y.ms = s.ms := frame.get .ms (by decide)
  simp only [y, placeReturn, map'] at settings ms ⊢
  refine ⟨?_, ?_, ?_, ms⟩
  · exact {
      producer := by rw [placeInternal_ret]; rfl
      requested := fun j hj => by
        obtain rfl : j = 0 := by simpa using hj
        simp only [List.getElem_cons_zero]
        refine (mem_placeInternal _ _ _).2 (.inl ?_)
        simp
      waits := fun e he => (mem_placeInternal _ _ _).2 (.inr he)
      consumer := by rw [placeInternal_ret]
      overruns := by rw [placeInternal_ret]
      postedProducer := by rw [placeInternal_ret]
      settings := settings }
  · rw [placeInternal_ret]
  · rw [placeInternal_ret]

theorem RecordsMoved.returnUnread_eq (h : RecordsMoved m [r] s x) (room : returnUnread s < 65535) :
    returnUnread x = returnUnread s + 1 := by
  simp only [returnUnread] at room ⊢
  rw [h.producer, h.consumer]
  simp only [List.length_singleton]
  bv_omega

/-- R157: while no overrun event is owed, the queue moves as far as the room goes. -/
theorem refillReturn_moves (small : m.nr < 65536) (fuel : Nat) (s : State) (map : mapOf s = some m)
    (bound : returnUnread s ≤ m.nr) (paid : s.ret.overrunPending = false) (enough : s.ret.queue.length ≤ fuel) :
    let moved := min s.ret.queue.length (m.nr - returnUnread s)
    RecordsMoved m (s.ret.queue.take moved) s (refillReturn fuel s)
      ∧ (refillReturn fuel s).ret.queue = s.ret.queue.drop moved
      ∧ (refillReturn fuel s).ret.overrunPending = false := by
  induction fuel generalizing s with
  | zero =>
    have none : s.ret.queue = [] := List.length_eq_zero_iff.1 (by omega)
    simpa [refillReturn, none] using ⟨.nil, paid⟩
  | succ fuel ih =>
    have capacity : returnCapacity s = m.nr := by simp [returnCapacity, map]
    cases queue : s.ret.queue with
    | nil => simpa [refillReturn, queue] using ⟨.nil, paid⟩
    | cons r rest =>
      by_cases room : returnUnread s < m.nr
      · obtain ⟨first, left, still, -⟩ := placeReturn_moves (r := r) map rest
        have step : refillReturn (fuel + 1) s =
            refillReturn fuel (payOverrun (placeReturn r { s with ret := { s.ret with queue := rest } })) := by
          simp only [refillReturn, queue, capacity, if_pos room]
        generalize placeReturn r { s with ret := { s.ret with queue := rest } } = y at first left still step
        have unread := first.returnUnread_eq (by omega)
        have unpaid : payOverrun y = y := if_neg (by simp [still, paid])
        obtain ⟨more, drops, pays⟩ := ih y (by rw [mapOf, first.settings]; exact map) (by omega) (still.trans paid)
          (by rw [left]; simp [queue] at enough; omega)
        have moved : min (r :: rest).length (m.nr - returnUnread s) = min rest.length (m.nr - returnUnread y) + 1 := by
          simp only [List.length_cons]
          omega
        rw [left] at more drops
        rw [step, unpaid, moved]
        exact ⟨first.cons more, drops, pays⟩
      · have none : m.nr - returnUnread s = 0 := by omega
        have step : refillReturn (fuel + 1) s = s := by simp [refillReturn, queue, capacity, room]
        rw [step, none]
        exact ⟨.nil, queue, paid⟩

/-- R157, R158: the queue moves as far as the room goes, and the first record to leave brings the owed overrun event into
its tail. -/
theorem refillReturn_pays (small : m.nr < 65536) {fuel : Nat} (map : mapOf s = some m) (bound : returnUnread s ≤ m.nr)
    (some_ : s.ret.queue ≠ []) (enough : s.ret.queue.length + 1 ≤ fuel) :
    let room := m.nr - returnUnread s
    let owed := s.ret.overrunPending = true ∧ room ≠ 0
    let queue := if owed then s.ret.queue ++ [.event .returnOverrun 0 s.ret.overruns s.ms] else s.ret.queue
    let moved := min queue.length room
    RecordsMoved m (queue.take moved) s (refillReturn fuel s)
      ∧ (refillReturn fuel s).ret.queue = queue.drop moved
      ∧ (refillReturn fuel s).ret.overrunPending = (s.ret.overrunPending && decide (room = 0)) := by
  intro room owed queue moved
  cases owes : s.ret.overrunPending with
  | false =>
    have quiet : queue = s.ret.queue := if_neg (by simp [owed, owes])
    simp only [moved, quiet, Bool.false_and]
    exact refillReturn_moves small fuel s map bound owes (by omega)
  | true =>
    have capacity : returnCapacity s = m.nr := by simp [returnCapacity, map]
    obtain ⟨fuel, rfl⟩ : ∃ k, fuel = k + 1 := ⟨fuel - 1, by omega⟩
    obtain ⟨r, rest, stands⟩ := List.exists_cons_of_ne_nil some_
    by_cases full : room = 0
    · have none : moved = 0 := by simp [moved, full]
      have quiet : queue = s.ret.queue := if_neg (by simp [owed, full])
      have step : refillReturn (fuel + 1) s = s := by
        have : ¬ returnUnread s < m.nr := by omega
        simp [refillReturn, stands, capacity, this]
      rw [step, none, quiet, owes]
      exact ⟨.nil, rfl, by simp [full]⟩
    · have free : returnUnread s < m.nr := by omega
      have paid : queue = s.ret.queue ++ [.event .returnOverrun 0 s.ret.overruns s.ms] := if_pos ⟨owes, full⟩
      obtain ⟨first, left, still, ms⟩ := placeReturn_moves (r := r) map rest
      have step : refillReturn (fuel + 1) s =
          refillReturn fuel (payOverrun (placeReturn r { s with ret := { s.ret with queue := rest } })) := by
        simp only [refillReturn, stands, capacity, if_pos free]
      generalize placeReturn r { s with ret := { s.ret with queue := rest } } = y at first left still ms step
      have unread := first.returnUnread_eq (by omega)
      have pays : payOverrun y = { y with ret := { y.ret with
          queue := rest ++ [.event .returnOverrun 0 s.ret.overruns s.ms], overrunPending := false } } := by
        rw [payOverrun, if_pos (by rw [still, owes]), left, first.overruns, ms]
      have second : RecordsMoved m [r] s (payOverrun y) := by
        rw [pays]
        exact ⟨first.producer, first.requested, first.waits, first.consumer, first.overruns, first.postedProducer,
          first.settings⟩
      have unread' : returnUnread (payOverrun y) = returnUnread y := by rw [pays]; rfl
      obtain ⟨more, drops, done⟩ := refillReturn_moves small fuel (payOverrun y)
        (by rw [mapOf, second.settings]; exact map) (by omega) (by rw [pays])
        (by rw [pays]; simp [stands] at enough ⊢; omega)
      have tail : (payOverrun y).ret.queue = rest ++ [.event .returnOverrun 0 s.ret.overruns s.ms] := by rw [pays]
      rw [tail] at more drops
      have count : moved = min (rest ++ [ReturnRecord.event .returnOverrun 0 s.ret.overruns s.ms]).length
          (m.nr - returnUnread (payOverrun y)) + 1 := by
        simp only [moved, paid, stands, List.length_append, List.length_cons, List.length_nil]
        omega
      rw [step, count, paid, stands]
      exact ⟨second.cons more, drops, by simp [done, full]⟩

end

/-! ## The service of a read of one closing word -/

/-- The state in which a closing word read by the host is reported: the read has left the queue and its word returned. -/
def wordRead (a : Word) (s : State) : State :=
  { portRead a 1 (leaveUpstream s) with path := { (portRead a 1 (leaveUpstream s)).path with
    hostData := s.path.hostData ++ [[readWord s.memory a]] } }

theorem wordRead_changes (a : Word) (s : State) : Changes readServiceParts s (wordRead a s) := by
  intro p hp
  cases p <;> simp_all [Part.same, wordRead, portRead, leaveUpstream, readServiceParts]

theorem serveRead_closing {s : State} {a : Word} {c : Closing} (covers : closings s a 1 = [c]) :
    serveRead a 1 s = reportClosing c (wordRead a s) := by
  rw [serveRead, covers]
  rfl

section
variable {s : State} {m : MapSettings} {a : Word} {k : Nat}

theorem closings_account (map : mapOf s = some m) (service : inService s = true) (slot : k < m.na)
    (at_ : a.toNat = m.accountBase + 64 * k + 60) : closings s a 1 = [.account k] := by
  have inside : inRange a.toNat (m.accountBase, 64 * m.na) = true := (inRange_iff _ _).2 (by simp [Inside]; omega)
  have word : (a.toNat - m.accountBase) % 64 = 60 := by omega
  have which : (a.toNat - m.accountBase) / 64 = k := by omega
  simp [closings, map, service, readAddresses, closingAt, inside, word, which]

theorem closings_return (map : mapOf s = some m) (service : inService s = true) (slot : k < m.nr)
    (at_ : a.toNat = m.returnBase + 16 * k + 12) (apart : ¬ Inside a.toNat m.accountBase (64 * m.na)) :
    closings s a 1 = [.ret k] := by
  have inside : inRange a.toNat (m.returnBase, 16 * m.nr) = true := (inRange_iff _ _).2 (by simp [Inside]; omega)
  have other : ¬ inRange a.toNat (m.accountBase, 64 * m.na) = true := fun h => apart ((inRange_iff _ _).1 h)
  have word : (a.toNat - m.returnBase) % 16 = 12 := by omega
  have which : (a.toNat - m.returnBase) / 16 = k := by omega
  simp [closings, map, service, readAddresses, closingAt, inside, word, which, other]

end

theorem placeReturn_ownRequests (r : ReturnRecord) (s : State) : OwnRequestsAdded s (placeReturn r s) := by
  unfold placeReturn
  split
  · exact .of_path rfl
  · rename_i m _
    let i := s.ret.producer
    have placed := placeInternal_ownRequests (s := { s with ret := { s.ret with
      producer := i + 1, posted := unmark s.ret.posted (slotOf i m.nr), readMarks := unmark s.ret.readMarks (slotOf i m.nr) } })
      (e := { purpose := .returnWrite i, addr := BitVec.ofNat 32 (m.returnBase + 16 * slotOf i m.nr), data := returnBytes r })
      rfl
    exact ⟨placed.kept, placed.added⟩

theorem refillReturn_ownRequests (fuel : Nat) (s : State) : OwnRequestsAdded s (refillReturn fuel s) := by
  induction fuel generalizing s with
  | zero => exact .of_path rfl
  | succ fuel ih =>
    unfold refillReturn
    split
    · exact .of_path rfl
    · rename_i r rest _
      refine rel_ite (fun _ => .trans ?_ (ih _)) fun _ => .of_path rfl
      have placed := placeReturn_ownRequests r { s with ret := { s.ret with queue := rest } }
      exact OwnRequestsAdded.trans ⟨placed.kept, placed.added⟩ (.of_requests ((payOverrun_changes _).get .requests (by decide)))

/-- Reporting a closing word asks nothing of memory but writes of the controller's own. -/
theorem reportClosing_ownRequests (c : Closing) (s : State) : OwnRequestsAdded s (reportClosing c s) := by
  cases c with
  | account k => exact .of_requests ((accountClosing_changes k s).get .requests (by decide))
  | ret k =>
    refine rel_ite (fun _ => .trans (.of_requests ?_) (refillReturn_ownRequests _ _)) fun _ => .of_path rfl
    exact (advanceReturn_changes_marks _ { s with ret := { s.ret with readMarks := mark s.ret.readMarks k } }).get
      .requests (by decide)

/-- The consumer index, the posted index and the count of overruns stay while the queue moves. -/
theorem refillReturn_keeps (fuel : Nat) (s : State) :
    (refillReturn fuel s).ret.consumer = s.ret.consumer ∧ (refillReturn fuel s).ret.overruns = s.ret.overruns
      ∧ (refillReturn fuel s).ret.postedProducer = s.ret.postedProducer := by
  induction fuel generalizing s with
  | zero => exact ⟨rfl, rfl, rfl⟩
  | succ fuel ih =>
    unfold refillReturn
    split
    · exact ⟨rfl, rfl, rfl⟩
    · rename_i r rest _
      split
      · have placed : ∀ x : State, (payOverrun (placeReturn r x)).ret.consumer = x.ret.consumer
            ∧ (payOverrun (placeReturn r x)).ret.overruns = x.ret.overruns
            ∧ (payOverrun (placeReturn r x)).ret.postedProducer = x.ret.postedProducer := by
          intro x
          unfold payOverrun placeReturn
          split <;> split <;> simp [placeInternal_ret]
        obtain ⟨consumer, overruns, posted⟩ := ih (payOverrun (placeReturn r { s with ret := { s.ret with queue := rest } }))
        obtain ⟨consumer', overruns', posted'⟩ := placed { s with ret := { s.ret with queue := rest } }
        exact ⟨consumer.trans consumer', overruns.trans overruns', posted.trans posted'⟩
      · exact ⟨rfl, rfl, rfl⟩

section
variable {s : State} {a : Word} {rest : List Transaction} {c : Closing}

theorem pump_serveRead_closing (chosen : UpstreamChosen s (.read a 1) rest) (covers : closings s a 1 = [c]) :
    pump (serveRead a 1 s) = serveRead a 1 s := by
  obtain ⟨upstream, -, rests⟩ := chosen
  have frame := (wordRead_changes a s).mono (qs := readServiceParts ++ ([.account, .frames] ++ returnParts)) (by decide)
    |>.trans ((reportClosing_changes c (wordRead a s)).mono (by decide))
  have requests := reportClosing_ownRequests c (wordRead a s)
  rw [serveRead_closing covers]
  have settings : (reportClosing c (wordRead a s)).settings = s.settings := frame.get .settings (by decide)
  have left : (reportClosing c (wordRead a s)).path.upstream = rest :=
    ((reportClosing_changes c (wordRead a s)).get .upstream (by decide)).trans (congrArg List.tail upstream)
  refine pump_eq_self (serveSilent_none_of_rests (es := waiting s) (by rw [settings]) (by rw [settings])
    (left ▸ rests) fun e he => ?_)
  refine (requests.added e (mem_waiting_of_internal e he)).imp id fun own k image => ?_
  simp [isOwnWrite, image] at own

theorem exec_accountClosingRead {k : Nat} (chosen : UpstreamChosen s (.read a 1) rest)
    (covers : closings s a 1 = [.account k]) :
    exec .accountClosingRead s = .next (settle s (accountClosing k (wordRead a s))) := by
  have run : exec .accountClosingRead s = .next (settle s (accountClosingServed s)) := rfl
  have served := pump_serveRead_closing chosen covers
  rw [serveRead_closing covers, reportClosing] at served
  rw [run, accountClosingServed, arbiter_of_upstreamChosen chosen]
  simp only [serveRead_closing covers, reportClosing, served, covers, List.any_cons, isAccountClosing, Bool.true_or, if_true]

theorem exec_returnClosingRead {k : Nat} (chosen : UpstreamChosen s (.read a 1) rest)
    (covers : closings s a 1 = [.ret k]) :
    exec .returnClosingRead s = .next (settle s (returnClosing k (wordRead a s))) := by
  have run : exec .returnClosingRead s = .next (settle s (returnClosingServed s)) := rfl
  have served := pump_serveRead_closing chosen covers
  rw [serveRead_closing covers, reportClosing] at served
  rw [run, returnClosingServed, arbiter_of_upstreamChosen chosen]
  simp only [serveRead_closing covers, reportClosing, served, covers, List.any_cons, isReturnClosing, Bool.true_or, if_true]

end

/-! ## What a closing word does -/

section
variable {x : State} {k d : Nat}

theorem accountClosing_ignored (offset : slotOffset x.account.consumer k (accountCapacity x) = d)
    (ignored : ¬ (d < accountUnread x ∧ k ∈ x.account.posted ∧ k ∉ x.account.readMarks)) : accountClosing k x = x := by
  rw [accountClosing, offset]
  exact if_neg ignored

theorem releaseGuards_eq (i : Half) (x : State) : releaseGuards i x = { x with frames := { x.frames with
    guards := x.frames.guards.map (Option.filter fun h => decide (h.index ≠ i)) } } := by
  unfold releaseGuards
  refine congrArg (fun gs => { x with frames := { x.frames with guards := gs } }) (List.map_congr_left fun g _ => ?_)
  cases g with
  | none => rfl
  | some h => by_cases same : h.index = i <;> simp [Option.filter, same]

theorem accountClosing_counts (offset : slotOffset x.account.consumer k (accountCapacity x) = d)
    (counts : d < accountUnread x ∧ k ∈ x.account.posted ∧ k ∉ x.account.readMarks) :
    accountClosing k x = { x with
      account := { x.account with
        consumer := x.account.consumer + BitVec.ofNat 16
          (passRun (accountCapacity x) (accountUnread x) x.account.consumer (mark x.account.readMarks k))
        readMarks := passMarks (accountCapacity x) (accountUnread x) x.account.consumer (mark x.account.readMarks k) }
      frames := { x.frames with guards := x.frames.guards.map (Option.filter fun h => decide (h.index ≠ x.account.consumer + BitVec.ofNat 16 d)) } } := by
  rw [accountClosing, offset]
  simp only []
  rw [if_pos counts, advanceAccount_eq _ _ rfl, releaseGuards_eq]
  rfl

theorem returnClosing_ignored (offset : slotOffset x.ret.consumer k (returnCapacity x) = d)
    (ignored : ¬ (d < returnUnread x ∧ k ∈ x.ret.posted ∧ k ∉ x.ret.readMarks)) : returnClosing k x = x := by
  rw [returnClosing, offset]
  exact if_neg ignored

/-- The state in which the consumer index of the return ring has passed the marked slots. -/
def returnPassed (k : Nat) (x : State) : State :=
  { x with ret := { x.ret with
    consumer := x.ret.consumer + BitVec.ofNat 16
      (passRun (returnCapacity x) (returnUnread x) x.ret.consumer (mark x.ret.readMarks k))
    readMarks := passMarks (returnCapacity x) (returnUnread x) x.ret.consumer (mark x.ret.readMarks k) } }

theorem returnClosing_counts (offset : slotOffset x.ret.consumer k (returnCapacity x) = d)
    (counts : d < returnUnread x ∧ k ∈ x.ret.posted ∧ k ∉ x.ret.readMarks) :
    returnClosing k x = refillReturn (x.ret.queue.length + 1) (returnPassed k x) := by
  rw [returnClosing, offset]
  simp only []
  rw [if_pos counts, advanceReturn_eq _ _ rfl]
  rfl

end

/-! ## The obligation -/

theorem passesRun_mark {n : Nat} (divides : 65536 % n = 0) {k : Nat} (c : Half) (marks : List Nat) (le : k ≤ n) (slot : Nat) :
    PassesRun c n k (fun q => q ∈ marks ∨ q = slot) (passRun n k c (mark marks slot)) := by
  have same : (fun q => q ∈ marks ∨ q = slot) = (· ∈ mark marks slot) := funext fun q => propext mem_mark.symm
  rw [same]
  exact passRun_passes divides k c _ le

theorem marksAfter_mark {n k : Nat} (c : Half) (marks : List Nat) (slot : Nat) :
    MarksAfter c n slot (passRun n k c (mark marks slot)) marks (passMarks n k c (mark marks slot)) := by
  intro q
  rw [mem_passMarks, mem_mark]

/-- R133, R134: the account ring. -/
theorem accountClosingReadConsumes : AccountClosingReadConsumes := by
  intro s m a rest d map service chosen divides bound near at_ index k counts
  have covers := closings_account (k := k) map service (Nat.mod_lt _ (by omega)) at_
  have run := exec_accountClosingRead chosen covers
  have capacity : accountCapacity (wordRead a s) = m.na := by
    have map : mapOf (wordRead a s) = some m := map
    simp [accountCapacity, map]
  have offset : slotOffset (wordRead a s).account.consumer k (accountCapacity (wordRead a s)) = d := by
    rw [capacity]
    exact slotOffset_ahead divides near
  refine ⟨fun ignored => ?_, fun counted => ?_⟩
  · rw [accountClosing_ignored offset (by exact ignored)] at run
    exact ⟨_, run, settle_get s _ .hostData (by decide), (wordRead_changes a s).settle_only⟩
  · have frame := ((wordRead_changes a s).mono (qs := [.account, .frames] ++ readServiceParts) (by decide)).trans
      ((accountClosing_changes k (wordRead a s)).mono (by decide))
    have effect := accountClosing_counts offset (by exact counted)
    rw [capacity] at effect
    have account : (settle s (accountClosing k (wordRead a s))).account = _ :=
      (settle_get s _ .account (by decide)).trans (congrArg State.account effect)
    have frames : (settle s (accountClosing k (wordRead a s))).frames = _ :=
      (settle_get s _ .frames (by decide)).trans (congrArg State.frames effect)
    refine ⟨_, _, run, (settle_get s _ .hostData (by decide)).trans ((accountClosing_changes k _).get .hostData (by decide)),
      passesRun_mark divides _ _ bound k, ?_, ?_, frames, frame.settle_only⟩
    · rw [account]
      exact marksAfter_mark _ _ k
    · rw [account]
      rfl

/-- R157, R158: the return ring. -/
theorem returnClosingReadConsumes : ReturnClosingReadConsumes := by
  intro s m a rest d map service chosen divides bound near at_ apart k counts
  have covers := closings_return (k := k) map service (Nat.mod_lt _ (by omega)) at_ apart
  have run := exec_returnClosingRead chosen covers
  have map' : mapOf (wordRead a s) = some m := map
  have capacity : returnCapacity (wordRead a s) = m.nr := by simp [returnCapacity, map']
  have offset : slotOffset (wordRead a s).ret.consumer k (returnCapacity (wordRead a s)) = d := by
    rw [capacity]
    exact slotOffset_ahead divides near
  refine ⟨fun ignored => ?_, fun counted => ?_⟩
  · rw [returnClosing_ignored offset (by exact ignored)] at run
    exact ⟨_, run, settle_get s _ .hostData (by decide), (wordRead_changes a s).settle_only⟩
  · have frame := ((wordRead_changes a s).mono (qs := returnParts ++ readServiceParts) (by decide)).trans
      ((returnClosing_changes k (wordRead a s)).mono (by decide))
    have passed : (returnPassed k (wordRead a s)).ret = { s.ret with
        consumer := s.ret.consumer + BitVec.ofNat 16 (passRun m.nr (returnUnread s) s.ret.consumer (mark s.ret.readMarks k))
        readMarks := passMarks m.nr (returnUnread s) s.ret.consumer (mark s.ret.readMarks k) } := by
      rw [returnPassed, capacity]
      rfl
    have passes := passesRun_mark divides s.ret.consumer s.ret.readMarks bound k
    have unread : returnUnread (returnPassed k (wordRead a s)) =
        returnUnread s - passRun m.nr (returnUnread s) s.ret.consumer (mark s.ret.readMarks k) := by
      rw [returnUnread, passed]
      exact toNat_sub_passed passes.1
    have mapPassed : mapOf (returnPassed k (wordRead a s)) = some m := map
    have keeps := refillReturn_keeps ((wordRead a s).ret.queue.length + 1) (returnPassed k (wordRead a s))
    have moves := fun small some_ => refillReturn_pays (s := returnPassed k (wordRead a s))
      (fuel := (wordRead a s).ret.queue.length + 1) (m := m) small mapPassed (by omega) some_ (by rw [passed]; exact Nat.le_refl _)
    have rests : s.ret.queue = [] → refillReturn ((wordRead a s).ret.queue.length + 1) (returnPassed k (wordRead a s)) =
        returnPassed k (wordRead a s) := fun none => by
      have none : (returnPassed k (wordRead a s)).ret.queue = [] := none
      simp [refillReturn, none]
    rw [returnClosing_counts offset (by exact counted)] at run frame
    have hostData := (refillReturn_changes ((wordRead a s).ret.queue.length + 1) (returnPassed k (wordRead a s))).get
      .hostData (by decide)
    generalize refillReturn ((wordRead a s).ret.queue.length + 1) (returnPassed k (wordRead a s)) = y
      at run frame keeps moves rests hostData
    obtain ⟨producer, postedProducer, posted, readMarks⟩ := settle_get s y .returnRing (by decide)
    have consumer := settle_get s y .returnConsumer (by decide)
    have queue : (settle s y).ret.queue = y.ret.queue := settle_get s y .returnQueue (by decide)
    obtain ⟨overruns, pending⟩ := settle_get s y .overruns (by decide)
    obtain ⟨kept, keptOverruns, keptPosted⟩ := keeps
    refine ⟨_, _, run, ?_, passes, ?_, fun none => ?_, fun some_ small => ?_, ?_, ?_, frame.settle_only⟩
    · exact (settle_get s y .hostData (by decide)).trans (hostData.trans rfl)
    · exact consumer.trans (kept.trans (by rw [passed]))
    · have left : y.ret = _ := (congrArg State.ret (rests none)).trans passed
      rw [left] at producer posted readMarks queue
      refine ⟨?_, producer, posted, queue.trans none⟩
      rw [readMarks]
      exact marksAfter_mark _ _ k
    · obtain ⟨moved, drops, pays⟩ := moves small (by rw [passed]; exact some_)
      simp only [unread, passed] at moved drops pays
      refine ⟨queue.trans drops, producer.trans ?_, pending.trans pays, fun j hj lt => ?_⟩
      · rw [moved.producer, passed, List.length_take, Nat.min_eq_left (Nat.min_le_left _ _)]
        rfl
      · have placed := moved.requested j (by rw [List.length_take]; exact Nat.lt_min.2 ⟨lt, hj⟩)
        rw [passed, List.getElem_take] at placed
        exact mem_settle s y _ placed
    · exact postedProducer.trans keptPosted
    · exact overruns.trans keptOverruns

/-- Settles O45. -/
theorem closingReadsConsume : Obligations.ClosingReadsConsume := ⟨accountClosingReadConsumes, returnClosingReadConsumes⟩

end Sys2Proof.Machine
end

section
/-! SUPPORT. Writes of the controller's own (R130, R156, R159), and the status and tone periods (R160, R166). -/
namespace Sys2Proof.Machine

/-! ## What the status block shows -/

section
variable {s x y : State}

/-- The shadow of the status block reads these parts alone (R159). -/
theorem shadowOf_congr {ps : List Part} (c : Changes ps x y)
    (apart : ∀ p ∈ [Part.settings, .seq, .volumes, .tickets, .returnRing, .returnConsumer, .account, .latched,
      .foreignWrites, .overruns, .bars, .heads], p ∉ ps) : shadowOf y = shadowOf x := by
  have settings : y.settings = x.settings := c .settings (apart _ (by decide))
  have seq : y.seq = x.seq := c .seq (apart _ (by decide))
  have volumes : y.volumes = x.volumes := c .volumes (apart _ (by decide))
  have tickets : y.tickets = x.tickets := c .tickets (apart _ (by decide))
  obtain ⟨-, posted, -, -⟩ := c .returnRing (apart _ (by decide))
  have consumer : y.ret.consumer = x.ret.consumer := c .returnConsumer (apart _ (by decide))
  have account : y.account = x.account := c .account (apart _ (by decide))
  have latched : y.ret.latched = x.ret.latched := c .latched (apart _ (by decide))
  have foreign : y.path.foreignWrites = x.path.foreignWrites := c .foreignWrites (apart _ (by decide))
  obtain ⟨overruns, -⟩ := c .overruns (apart _ (by decide))
  obtain ⟨barV, barR⟩ := c .bars (apart _ (by decide))
  have heads : y.position.heads = x.position.heads := c .heads (apart _ (by decide))
  have stateV : y.lamps.v.state = x.lamps.v.state := by
    simpa only [Bar.lasting] using congrArg Bar.state barV
  have stateR : y.lamps.r.state = x.lamps.r.state := by
    simpa only [Bar.lasting] using congrArg Bar.state barR
  have tempV : y.lamps.v.temp = x.lamps.v.temp := by
    simpa only [Bar.lasting] using congrArg Bar.temp barV
  have tempR : y.lamps.r.temp = x.lamps.r.temp := by
    simpa only [Bar.lasting] using congrArg Bar.temp barR
  have active : activeVolume y = activeVolume x := by simp only [activeVolume, volumeAt, volumes]
  have number : activeSlotNumber y = activeSlotNumber x := by unfold activeSlotNumber; rw [active]
  simp only [shadowOf, settings, seq, tickets, posted, consumer, account, latched, foreign, overruns, stateV, stateR,
    tempField, tempV, tempR, heads, active, number]

/-- A step that leaves the shadow leaves the return writer and the path at its end. -/
theorem settle_sameShadow (same : shadowOf x = shadowOf s) :
    (settle s x).ret = x.ret ∧ waiting (settle s x) = waiting x := by
  have edge : (roundEdge s x).ret = x.ret ∧ (roundEdge s x).path = x.path := by
    unfold roundEdge fastBegins fastEnds roundFallsDue
    (repeat' split) <;> exact ⟨rfl, rfl⟩
  have started : ∀ y : State, (startExchange y).ret = y.ret ∧ (startExchange y).path = y.path := by
    intro y
    unfold startExchange
    (repeat' split) <;> exact ⟨rfl, rfl⟩
  obtain ⟨ret, path⟩ := started (roundEdge s x)
  have shadow : shadowOf s = shadowOf (startExchange (roundEdge s x)) :=
    same.symm.trans (shadowOf_congr (((roundEdge_changes s x).mono (qs := [.nextRound, .link, .barLoads]) (by decide)).trans
      ((startExchange_changes _).mono (by decide))) (by decide)).symm
  have still : settle s x = startExchange (roundEdge s x) := if_neg fun h => h.2 shadow
  rw [still, waiting, ret, path, edge.1, edge.2]
  exact ⟨rfl, rfl⟩

/-- R160: a status write of the present shadow is placed. -/
theorem placeStatus_places {m : MapSettings} (map : mapOf s = some m) :
    (placeStatus s).ret = { s.ret with statusWaiting := true, statusAgain := false, statusPlacedAt := s.ms }
      ∧ Requested (placeStatus s) .statusWrite (BitVec.ofNat 32 m.statusBase) (statusBytes (shadowOf s) s.ms) := by
  simp only [placeStatus, map]
  exact ⟨placeInternal_ret _ _, (mem_placeInternal _ _ _).2 (.inl rfl)⟩

theorem placeStatus_sameShadow : shadowOf (placeStatus s) = shadowOf s :=
  shadowOf_congr (placeStatus_changes s) (by decide)

end

/-! ## The status and tone periods -/

theorem exec_statusPeriod (s : State) : exec .statusPeriod s = .next (settle s (periodPasses s)) := rfl
theorem exec_attendTonePeriod (s : State) : exec .attendTonePeriod s = .next (settle s (toneToggles s)) := rfl
theorem exec_chirpEnd (s : State) : exec .chirpEnd s = .next (settle s (chirpEnds s)) := rfl

section
variable {s : State}

/-- R160: while settings stand, status writes are made in READY, BARE and LOADING. -/
theorem statusWritten_iff {m : MapSettings} (map : mapOf s = some m) :
    statusWritten s = true ↔ s.settings.startup = .ready ∨ s.settings.startup = .bare ∨ s.settings.startup = .loading := by
  have working : s.settings.working.isSome = true := by
    rw [mapOf] at map
    exact (Option.isSome_map ..).symm.trans (by rw [map]; rfl)
  simp [statusWritten, inService, working, or_assoc]

theorem periodPasses_due (written : statusWritten s = true) (idle : s.ret.statusWaiting = false)
    (late : reached s.ms (s.ret.statusPlacedAt + 1000) = true) : periodPasses s = placeStatus s :=
  if_pos ⟨written, idle, late⟩

theorem periodPasses_early (early : ¬ (statusWritten s = true ∧ s.ret.statusWaiting = false
    ∧ reached s.ms (s.ret.statusPlacedAt + 1000) = true)) : periodPasses s = s := if_neg early

/-- A tone of its own is an effect that only the tone shows. -/
theorem withTone_only (tone : Tone) : Only [.tone] s (settle s (withTone tone s)) :=
  Changes.settle_only fun p hp => by cases p <;> simp_all [Part.same, withTone]

end

/-- Settles O47. -/
theorem statusAndTonePeriods : Obligations.StatusAndTonePeriods := by
  intro s
  refine ⟨fun m map => ?_, fun on due tone => ?_, fun due tone => ?_, fun other => ?_, fun other => ?_⟩
  · intro due
    have run := exec_statusPeriod s
    refine ⟨fun falls => ?_, fun early => ?_⟩
    · obtain ⟨startup, idle, late⟩ := falls
      rw [periodPasses_due ((statusWritten_iff map).2 startup) idle late] at run
      obtain ⟨ret, placed⟩ := placeStatus_places map
      obtain ⟨kept, waits⟩ := settle_sameShadow (s := s) (x := placeStatus s) placeStatus_sameShadow
      rw [ret] at kept
      exact ⟨_, run, by rw [kept], by rw [kept], by rw [kept], mem_settle s _ _ placed,
        settle_only ((placeStatus_changes s).mono (by decide))⟩
    · rw [periodPasses_early fun h => early ⟨(statusWritten_iff map).1 h.1, h.2⟩] at run
      exact ⟨_, run, (settle_sameShadow rfl).1, (Changes.refl _ s).settle_only⟩
  · have run := exec_attendTonePeriod s
    have toggles : toneToggles s = withTone (if reached s.ms due then .attend (!on) (due + 250) else s.ret.tone) s := by
      unfold toneToggles
      rw [tone]
      by_cases late : reached s.ms due = true <;> simp [late, after, withTone, ← tone]
    rw [toggles] at run
    exact ⟨_, run, settle_get s _ .tone (by decide), withTone_only _⟩
  · have run := exec_chirpEnd s
    have ends : chirpEnds s = withTone (if reached s.ms due then .silent else s.ret.tone) s := by
      unfold chirpEnds
      rw [tone]
      by_cases late : reached s.ms due = true <;> simp [late, withTone, ← tone]
    rw [ends] at run
    exact ⟨_, run, settle_get s _ .tone (by decide), withTone_only _⟩
  · have run := exec_attendTonePeriod s
    have still : toneToggles s = s := by
      unfold toneToggles
      split
      · exact absurd ‹_› (other _ _)
      · rfl
      · rfl
    rw [still] at run
    exact exec_holds run
  · have run := exec_chirpEnd s
    have still : chirpEnds s = s := by
      unfold chirpEnds
      split
      · exact absurd ‹_› (other _)
      · rfl
      · rfl
    rw [still] at run
    exact exec_holds run

/-! ## Writes of the controller's own reach memory -/

theorem busWords_length (data : List Byte) : (busWords data).length = data.length / 4 := by
  induction data using busWords.induct with
  | case1 b0 b1 b2 b3 rest ih =>
    simp only [busWords, List.length_cons, ih]
    omega
  | case2 short none =>
    rcases short with - | ⟨b0, - | ⟨b1, - | ⟨b2, - | ⟨b3, rest⟩⟩⟩⟩
    · rfl
    · simp [busWords]
    · simp [busWords]
    · simp [busWords]
    · exact (none b0 b1 b2 b3 rest rfl).elim

/-- A word of a record carries its four bytes, all enabled. -/
theorem busWords_byte (data : List Byte) (j b : Nat) (hb : b < 4) (hj : j < (busWords data).length)
    (hk : 4 * j + b < data.length) :
    (busWords data)[j].be = 15 ∧ wordByte (busWords data)[j].data b = data[4 * j + b] := by
  induction data using busWords.induct generalizing j with
  | case1 b0 b1 b2 b3 rest ih =>
    cases j with
    | zero =>
      obtain ⟨h0, h1, h2, h3⟩ := wordByte_wordOf b0 b1 b2 b3
      refine ⟨rfl, ?_⟩
      simp only [busWords, List.getElem_cons_zero]
      obtain rfl | rfl | rfl | rfl : b = 0 ∨ b = 1 ∨ b = 2 ∨ b = 3 := by omega
      · exact h0
      · exact h1
      · exact h2
      · exact h3
    | succ j =>
      have later := ih j (by simpa [busWords] using hj) (by simp at hk; omega)
      have shift : 4 * (j + 1) + b = 4 * j + b + 1 + 1 + 1 + 1 := by omega
      simp only [busWords, List.getElem_cons_succ, shift]
      exact later
  | case2 short none =>
    rcases short with - | ⟨b0, - | ⟨b1, - | ⟨b2, - | ⟨b3, rest⟩⟩⟩⟩
    · cases hj
    · cases hj
    · cases hj
    · cases hj
    · exact (none b0 b1 b2 b3 rest rfl).elim

/-- The bytes of a record stand in memory at its address, and every other byte is as it was. -/
theorem writeWords_holdsBytes {s u : State} {a : Word} {data : List Byte} (wf : Memory.wf s.memory)
    (aligned : a.toNat % 4 = 0) (whole : data.length % 4 = 0) (short : data.length ≤ 64)
    (fits : a.toNat + data.length ≤ 4294967296) (memory : u.memory = writeWords s.memory a (busWords data)) :
    HoldsBytes s u a.toNat data := by
  have count := busWords_length data
  have address : ∀ j < (busWords data).length, wordAddress a j = a.toNat + 4 * j := fun j hj => by
    rw [toNat_wordAddress]
    omega
  have lane : ∀ b < 4, (15 : BitVec 4).getLsbD b = true := by decide
  refine ⟨fun k hk => ?_, fun x outside => ?_⟩
  · obtain ⟨j, b, hb, rfl⟩ : ∃ j b, b < 4 ∧ k = 4 * j + b := ⟨k / 4, k % 4, by omega, by omega⟩
    have hj : j < (busWords data).length := by omega
    obtain ⟨enabled, byte⟩ := busWords_byte data j b hb hj hk
    have read := readByte_writeWords wf aligned (ws := busWords data) (by omega) hj hb
    rwa [address _ hj, enabled, if_pos (lane b hb), byte, ← memory, Nat.add_assoc] at read
  · rw [memory]
    refine readByte_writeWords_outside aligned fun j hj inside => outside ?_
    rw [address j hj] at inside
    simp only [Inside] at inside ⊢
    omega

/-! ## The service of a write of the controller's own (R130) -/

theorem mem_admitFrom {o : Block} {s : State} {e : InternalEntry} (h : e ∈ waiting (admitFrom o s)) : e ∈ waiting s := by
  unfold admitFrom at h
  split at h
  · exact h
  · rename_i x found
    simp only [waiting, List.mem_append, List.mem_singleton] at h ⊢
    rcases h with (queued | rfl) | still
    · exact .inl queued
    · exact .inr (List.mem_of_find?_eq_some found)
    · exact .inr (List.mem_of_mem_eraseP still)

theorem mem_admitBlocked {s : State} {e : InternalEntry} (h : e ∈ waiting (admitBlocked s)) : e ∈ waiting s := by
  unfold admitBlocked at h
  split at h
  · exact h
  · exact mem_admitFrom h
  · exact mem_admitFrom h

theorem admitBlocked_none {s : State} (none : s.path.blocked = []) : admitBlocked s = s := by
  simp [admitBlocked, waitingBlocks, none]

theorem leaveInternal_unblocked {s : State} (none : s.path.blocked = []) :
    waiting (leaveInternal s) = s.path.internal.tail ∧ (leaveInternal s).path.blocked = [] := by
  have left : leaveInternal s = { s with path := { s.path with internal := s.path.internal.tail, waitCount := 0 } } :=
    admitBlocked_none none
  rw [left]
  simp [waiting, none]

/-- What the service of a write of the controller's own does before its record is posted. -/
structure OwnWriteServed (e : InternalEntry) (s x : State) : Prop where
  changes : Changes servingParts s x
  memory : x.memory = writeWords s.memory e.addr (busWords e.data)
  waitCount : x.path.waitCount = 0
  upstream : x.path.upstream = s.path.upstream
  left : ∀ f ∈ waiting x, f ∈ s.path.internal.tail ++ s.path.blocked
  unblocked : s.path.blocked = [] → waiting x = s.path.internal.tail ∧ x.path.blocked = []

theorem serveInternal_ownWrite {e : InternalEntry} (own : isOwnWrite e = true) (s : State) :
    OwnWriteServed e s (serveInternal e s) := by
  have served : serveInternal e s = portWrite e.addr (busWords e.data) (leaveInternal s) := by
    unfold isOwnWrite at own
    unfold serveInternal
    split <;> simp_all
  have memory : (leaveInternal s).memory = s.memory := (leaveInternal_changes s).get .memory (by decide)
  have upstream : (leaveInternal s).path.upstream = s.path.upstream := (leaveInternal_changes s).get .upstream (by decide)
  have count := (admitBlocked_changes { s with path := { s.path with internal := s.path.internal.tail, waitCount := 0 } }).get
    .waitCount (by decide)
  have changes := serveInternal_changes e s
  rw [served] at changes ⊢
  exact {
    changes := changes
    memory := congrArg (fun m => writeWords m e.addr (busWords e.data)) memory
    waitCount := count
    upstream := upstream
    left := fun f hf => mem_admitBlocked (s := { s with path := { s.path with internal := s.path.internal.tail, waitCount := 0 } }) hf
    unblocked := fun none => by
      exact leaveInternal_unblocked none }

section
variable {s x y : State} {e : InternalEntry}

theorem arbiter_of_internalChosen (h : InternalChosen s e) : arbiter s = some (.internal e) := by
  obtain ⟨internal, late, -⟩ := h
  obtain ⟨rest, stands⟩ : ∃ rest, s.path.internal = e :: rest := by
    cases entries : s.path.internal with
    | nil => simp [entries] at internal
    | cons f rest => exact ⟨rest, by simpa [entries] using internal⟩
  rw [arbiter_eq, stands]
  split
  · rfl
  · rename_i early
    exact absurd (late.imp id fun count => ⟨by simp, count⟩) early

/-- Once a request of the controller's own has left, the port serves nothing of itself. -/
theorem pump_afterInternal (chosen : InternalChosen s e) (left : ∀ f ∈ waiting x, f ∈ s.path.internal.tail ++ s.path.blocked)
    (settings : y.settings = s.settings) (upstream : y.path.upstream = s.path.upstream) (requests : OwnRequestsAdded x y) :
    pump y = y := by
  obtain ⟨-, -, rests⟩ := chosen
  refine pump_eq_self (serveSilent_none_of_rests (s := s) (es := s.path.internal.tail ++ s.path.blocked) (by rw [settings])
    (by rw [settings]) (by rw [upstream]; exact rests) fun f hf => ?_)
  refine (requests.added f (mem_waiting_of_internal f hf)).imp (left f) fun own k image => ?_
  simp [isOwnWrite, image] at own

theorem pump_ownWrite (chosen : InternalChosen s e) (served : OwnWriteServed e s x) (changes : Changes ps x y)
    (rest : ∀ p ∈ [Part.settings, .upstream], p ∉ ps) (requests : OwnRequestsAdded x y) : pump y = y :=
  pump_afterInternal chosen served.left ((changes .settings (rest _ (by decide))).trans (served.changes.get .settings (by decide)))
    ((changes .upstream (rest _ (by decide))).trans served.upstream) requests

end

/-- While nothing waits for room, a request goes behind those that wait. -/
theorem waiting_placeInternal {s : State} (none : s.path.blocked = []) (e : InternalEntry) :
    waiting (placeInternal e s) = waiting s ++ [e] := by
  unfold placeInternal waiting
  split <;> simp [none]

theorem waiting_placeStatus {s : State} (none : s.path.blocked = []) :
    ∃ more, waiting (placeStatus s) = waiting s ++ more := by
  unfold placeStatus
  split
  · exact ⟨[], (List.append_nil _).symm⟩
  · exact ⟨[_], waiting_placeInternal (by exact none) _⟩

/-- The end of the step only adds a request behind those that wait. -/
theorem waiting_settle {x : State} (none : x.path.blocked = []) (b : State) :
    ∃ more, waiting (settle b x) = waiting x ++ more := by
  have requests := ((roundEdge_changes b x).mono (qs := [.nextRound, .link, .barLoads]) (by decide)).trans
    ((startExchange_changes (roundEdge b x)).mono (by decide)) |>.get .requests (by decide)
  obtain ⟨internal, blocked⟩ := requests
  have same : waiting (startExchange (roundEdge b x)) = waiting x := by rw [waiting, internal, blocked, waiting]
  unfold settle statusChange
  split
  · split
    · exact ⟨[], by rw [List.append_nil, ← same]; rfl⟩
    · rw [← same]
      exact waiting_placeStatus (blocked.trans none)
  · exact ⟨[], by rw [List.append_nil, same]⟩

theorem placeStatus_ownRequests (s : State) : OwnRequestsAdded s (placeStatus s) := by
  unfold placeStatus
  split
  · exact .of_path rfl
  · rename_i m _
    have placed := placeInternal_ownRequests (s := { s with ret := { s.ret with
        statusWaiting := true, statusAgain := false, statusPlacedAt := s.ms } })
      (e := { purpose := .statusWrite, addr := BitVec.ofNat 32 m.statusBase, data := statusBytes (shadowOf s) s.ms }) rfl
    exact ⟨placed.kept, placed.added⟩

/-! ## The obligation -/

section
variable {s x y : State} {e : InternalEntry}

theorem exec_accountWriteServed {i : Half} (chosen : InternalChosen s e) (purpose : e.purpose = .accountWrite i) :
    exec .accountWriteServed s = .next (settle s (accountPosted i (serveInternal e s))) := by
  have run : exec .accountWriteServed s = .next (settle s (accountWriteIsServed s)) := rfl
  have served := serveInternal_ownWrite (e := e) (by simp [isOwnWrite, purpose]) s
  have still := pump_ownWrite (y := accountPosted i (serveInternal e s)) chosen served
    (accountPosted_changes _ _) (by decide) (.of_path rfl)
  rw [run, accountWriteIsServed, arbiter_of_internalChosen chosen]
  simp only [purpose, still]

theorem exec_returnWriteServed {i : Half} (chosen : InternalChosen s e) (purpose : e.purpose = .returnWrite i) :
    exec .returnWriteServed s = .next (settle s (returnPosted i (serveInternal e s))) := by
  have run : exec .returnWriteServed s = .next (settle s (returnWriteIsServed s)) := rfl
  have served := serveInternal_ownWrite (e := e) (by simp [isOwnWrite, purpose]) s
  have still := pump_ownWrite (y := returnPosted i (serveInternal e s)) chosen served
    (returnPosted_changes _ _) (by decide) (.of_path rfl)
  rw [run, returnWriteIsServed, arbiter_of_internalChosen chosen]
  simp only [purpose, still]

theorem exec_statusWriteServed (chosen : InternalChosen s e) (purpose : e.purpose = .statusWrite) :
    exec .statusWriteServed s = .next (settle s (statusServed (serveInternal e s))) := by
  have run : exec .statusWriteServed s = .next (settle s (statusWriteIsServed s)) := rfl
  have served := serveInternal_ownWrite (e := e) (by simp [isOwnWrite, purpose]) s
  have placed : OwnRequestsAdded (serveInternal e s) (statusServed (serveInternal e s)) := by
    refine rel_ite (fun _ => ?_) fun _ => .of_path rfl
    have placed := placeStatus_ownRequests { serveInternal e s with ret := { (serveInternal e s).ret with statusWaiting := false } }
    exact ⟨placed.kept, placed.added⟩
  have still := pump_ownWrite (y := statusServed (serveInternal e s)) chosen served (statusServed_changes _) (by decide) placed
  rw [run, statusWriteIsServed, arbiter_of_internalChosen chosen]
  simp only [purpose, still]

end

/-- Settles O46. -/
theorem ownWritesServed : Obligations.OwnWritesServed := by
  intro s e m wf chosen map aligned whole short fits served
  have serves : ∀ {x y : State} {ps : List Part}, OwnWriteServed e s x → Changes ps x y →
      (∀ p ∈ [Part.memory, .waitCount], p ∉ ps) → (s.path.blocked = [] → ∃ more, waiting (settle s y) = waiting x ++ more) →
      served (settle s y) := by
    intro x y ps own changes rest more
    have left := (settle_changes s y)
    have memory : (settle s y).memory = x.memory := (left.get .memory (by decide)).trans (changes .memory (rest _ (by decide)))
    have count : (settle s y).path.waitCount = x.path.waitCount :=
      (left.get .waitCount (by decide)).trans (changes .waitCount (rest _ (by decide)))
    refine ⟨writeWords_holdsBytes wf aligned whole short fits (memory.trans own.memory), count.trans own.waitCount, fun none => ?_⟩
    rw [← (own.unblocked none).1]
    exact more none
  refine ⟨fun i purpose => ?_, fun i purpose => ?_, fun purpose => ?_⟩
  · have run := exec_accountWriteServed chosen purpose
    have own := serveInternal_ownWrite (e := e) (by simp [isOwnWrite, purpose]) s
    generalize serveInternal e s = x at run own
    have frame := accountPosted_changes i x
    have account : x.account = s.account := own.changes.get .account (by decide)
    have capacity : accountCapacity x = m.na := by
      rw [accountCapacity, mapOf, own.changes.get .settings (by decide), ← mapOf, map]
    refine ⟨_, run, serves own frame (by decide) fun none => ?_, ?_, ?_⟩
    · exact waiting_settle (x := accountPosted i x) (own.unblocked none).2 s
    · rw [settle_get s _ .account (by decide), accountPosted, capacity, account]
    · exact ((own.changes.mono (by decide)).trans (frame.mono (by decide))).settle_only
  · have run := exec_returnWriteServed chosen purpose
    have own := serveInternal_ownWrite (e := e) (by simp [isOwnWrite, purpose]) s
    generalize serveInternal e s = x at run own
    have frame := returnPosted_changes i x
    obtain ⟨producer, -, posted, readMarks⟩ := own.changes.get .returnRing (by decide)
    have capacity : returnCapacity x = m.nr := by
      rw [returnCapacity, mapOf, own.changes.get .settings (by decide), ← mapOf, map]
    obtain ⟨producer', postedProducer', posted', readMarks'⟩ := settle_get s (returnPosted i x) .returnRing (by decide)
    refine ⟨_, run, serves own frame (by decide) fun none => ?_, ?_, postedProducer', producer'.trans producer,
      readMarks'.trans readMarks, ?_⟩
    · exact waiting_settle (x := returnPosted i x) (own.unblocked none).2 s
    · rw [posted', returnPosted, capacity, posted]
    · exact ((own.changes.mono (by decide)).trans (frame.mono (by decide))).settle_only
  · have run := exec_statusWriteServed chosen purpose
    have own := serveInternal_ownWrite (e := e) (by simp [isOwnWrite, purpose]) s
    generalize serveInternal e s = x at run own
    have frame := statusServed_changes x
    obtain ⟨-, again, placedAt⟩ := own.changes.get .statusMarks (by decide)
    have shadow : shadowOf x = shadowOf s := shadowOf_congr own.changes (by decide)
    have shadow' : shadowOf (statusServed x) = shadowOf s := (shadowOf_congr frame (by decide)).trans shadow
    obtain ⟨ret, waits⟩ := settle_sameShadow shadow'
    have only : Only servingParts s (settle s (statusServed x)) :=
      settle_only ((own.changes.mono (by decide)).trans (frame.mono (by decide)))
    let x1 : State := { x with ret := { x.ret with statusWaiting := false } }
    cases owed : s.ret.statusAgain with
    | false =>
      have step : statusServed x = x1 := if_neg (by rw [again, owed]; decide)
      rw [step] at ret waits
      refine ⟨_, run, serves own frame (by decide) fun _ => ⟨[], ?_⟩, ?_, ?_, nofun, fun _ => ?_, only⟩
      · rw [step, List.append_nil]
        exact waits
      · rw [step, ret]
      · rw [step, ret]
        exact again.trans owed
      · rw [step, ret]
        exact placedAt
    | true =>
      have step : statusServed x = placeStatus x1 := if_pos (again.trans owed)
      have map1 : mapOf x1 = some m := by
        rw [← map]
        exact congrArg (fun z : SettingsUnit => z.working.map fun w => w.map) (own.changes.get .settings (by decide))
      have ms : x1.ms = s.ms := own.changes.get .ms (by decide)
      have shadow1 : shadowOf x1 = shadowOf s := shadow
      obtain ⟨placed, requested⟩ := placeStatus_places map1
      rw [step] at ret waits
      rw [shadow1, ms] at requested
      refine ⟨_, run, serves own frame (by decide) fun none => ?_, ?_, ?_, fun _ => ⟨?_, ?_⟩, nofun, only⟩
      · rw [step, waits]
        exact waiting_placeStatus (s := x1) (own.unblocked none).2
      · rw [step, ret, placed]
      · rw [step, ret, placed]
      · rw [step, ret, placed, ms]
      · rw [step]
        exact mem_settle s _ _ requested

end Sys2Proof.Machine
end

section
/-! SUPPORT. The fetch of tickets (R27, R28) and their arrival (R29 to R33). -/
namespace Sys2Proof.Machine

/-! ## The fetch -/

theorem exec_fetch (s : State) : exec .fetch s = .next (settle s (issueFetch s)) := rfl

theorem mayFetch_iff (s : State) :
    mayFetch s = true ↔ s.tickets.outstanding = 0 ∧ (s.settings.startup = .ready ∨ s.settings.startup = .bare)
      ∧ s.tickets.barrier = false ∧ (s.tickets.producer - s.tickets.fetchIndex).toNat ≠ 0 ∧ s.tickets.queue.length < 8 := by
  simp only [mayFetch, inService, announced, Bool.and_eq_true, decide_eq_true_eq, Bool.not_eq_true', and_assoc]
  exact and_congr .rfl (and_congr .rfl (and_congr .rfl (and_congr decide_eq_true_iff .rfl)))

theorem mem_placeTicketReads (m : MapSettings) (i : Half) (n : Nat) (s : State) :
    ∀ e ∈ waiting s, e ∈ waiting (placeTicketReads m i n s) := by
  induction n generalizing i s with
  | zero => exact fun _ he => he
  | succ n ih => exact fun e he => ih _ _ e ((mem_placeInternal _ _ _).2 (.inr he))

/-- R28: the reads of `n` tickets, in the order of their indexes. -/
theorem requested_placeTicketReads (m : MapSettings) (i : Half) (n : Nat) (s : State) : ∀ k < n,
    Requested (placeTicketReads m i n s) (.ticketRead (i + BitVec.ofNat 16 k))
      (BitVec.ofNat 32 (m.ticketBase + 64 * slotOf (i + BitVec.ofNat 16 k) m.nt)) [] := by
  induction n generalizing i s with
  | zero => exact fun k hk => absurd hk (Nat.not_lt_zero k)
  | succ n ih =>
    intro k hk
    cases k with
    | zero =>
      rw [show i + BitVec.ofNat 16 0 = i by simp]
      exact mem_placeTicketReads m (i + 1) n _ _ ((mem_placeInternal _ _ _).2 (.inl rfl))
    | succ k =>
      rw [← add_ofNat_succ]
      exact ih (i + 1) _ k (by omega)

/-- R27, R28. -/
theorem fetchRequestsTickets : FetchRequestsTickets := by
  intro s m map ahead may n
  have run := exec_fetch s
  refine ⟨fun mayNot => ?_, fun fetches => ?_⟩
  · have still : issueFetch s = s := by simp [issueFetch, map, mt (mayFetch_iff s).1 mayNot]
    rw [still] at run
    exact exec_holds run
  · have issues : issueFetch s = placeTicketReads m s.tickets.fetchIndex n { s with tickets := { s.tickets with
        fetchIndex := s.tickets.fetchIndex + BitVec.ofNat 16 n, outstanding := n } } := by
      simp only [issueFetch, map, (mayFetch_iff s).2 fetches, if_true]
      rfl
    have frame := issueFetch_changes s
    rw [issues] at run frame
    refine ⟨_, run, ?_, fun k hk => mem_settle s _ _ (requested_placeTicketReads _ _ _ _ k hk), frame.settle_only⟩
    exact (settle_get s _ .tickets (by decide)).trans ((placeTicketReads_changes _ _ _ _).get .tickets (by decide))

/-! ## The arrival of a ticket -/

theorem waits_admitFrom {o : Block} {s : State} {e : InternalEntry} (h : e ∈ waiting s) : e ∈ waiting (admitFrom o s) := by
  unfold admitFrom
  split
  · exact h
  · rename_i x found
    obtain ⟨owned, before, behind, blocked, unowned⟩ := List.find?_eq_some_iff_append.1 found
    have erased : s.path.blocked.eraseP (fun w => decide (ownerOf w = o)) = before ++ behind := by
      rw [blocked, List.eraseP_append_right _ (by simpa using unowned)]
      exact congrArg (before ++ ·) (List.eraseP_cons_of_pos (p := fun w => decide (ownerOf w = o)) owned)
    simp only [waiting, erased, List.mem_append, List.mem_singleton]
    simp only [waiting, blocked, List.mem_append, List.mem_cons] at h
    grind

theorem waits_admitBlocked {s : State} {e : InternalEntry} (h : e ∈ waiting s) : e ∈ waiting (admitBlocked s) := by
  unfold admitBlocked
  split
  · exact h
  · exact waits_admitFrom h
  · exact waits_admitFrom h

/-- What the service of a ticket read does before its ticket is taken. -/
structure TicketServed (s x : State) : Prop where
  changes : Changes fetchingParts s x
  upstream : x.path.upstream = s.path.upstream
  left : ∀ f ∈ waiting x, f ∈ s.path.internal.tail ++ s.path.blocked
  waits : ∀ f ∈ waiting (headServed s), f ∈ waiting x

theorem serveInternal_ticketServed {e : InternalEntry} {i : Half} (purpose : e.purpose = .ticketRead i) (s : State) :
    TicketServed s (serveInternal e s) := by
  have served : serveInternal e s = portRead e.addr 16 (leaveInternal s) := by
    unfold serveInternal
    rw [purpose]
  have upstream : (leaveInternal s).path.upstream = s.path.upstream := (leaveInternal_changes s).get .upstream (by decide)
  have changes := serveInternal_ticket e i s purpose
  rw [served] at changes ⊢
  exact {
    changes := changes
    upstream := upstream
    left := fun f hf => mem_admitBlocked (s := { s with path := { s.path with internal := s.path.internal.tail, waitCount := 0 } }) hf
    waits := fun f hf => waits_admitBlocked (s := { s with path := { s.path with internal := s.path.internal.tail, waitCount := 0 } }) hf }

/-- What a ticket read brings. -/
theorem ticketAt_eq {s : State} {e : InternalEntry} (i : Half) (fits : e.addr.toNat + 64 ≤ 4294967296) :
    { index := i, bytes := readBlock s.memory e.addr } = ticketAt s i e.addr.toNat := by
  have bytes := bytesOfWords_readWords s.memory 16 e.addr.toNat fits
  rw [BitVec.ofNat_toNat, BitVec.setWidth_eq] at bytes
  rw [readBlock, bytes]
  rfl

section
variable {s : State} {e : InternalEntry} {i : Half}

/-- R29: an arrival whose effect asks nothing of memory but writes of the controller's own. -/
theorem exec_ticketArrival (chosen : InternalChosen s e) (purpose : e.purpose = .ticketRead i) {y : State}
    (arrives : arrive i (readBlock s.memory e.addr) (serveInternal e s) = y) (settings : y.settings = s.settings)
    (upstream : y.path.upstream = s.path.upstream) (requests : OwnRequestsAdded (serveInternal e s) y) :
    exec .ticketArrival s = .next (settle s y) := by
  have run : exec .ticketArrival s = .next (settle s (ticketArrives s)) := rfl
  have served := serveInternal_ticketServed purpose s
  rw [run, ticketArrives, arbiter_of_internalChosen chosen]
  simp only [purpose, arrives, pump_afterInternal chosen served.left settings upstream requests]

end

/-! ## What a taken ticket does -/

section
variable {x : State} {t : Ticket}

theorem arrive_discards {i : Half} {bytes : List Byte} (discards : x.tickets.discarding = true) :
    arrive i bytes x = { x with tickets := { x.tickets with
      outstanding := x.tickets.outstanding - 1, discarding := decide (x.tickets.outstanding - 1 ≠ 0) } } :=
  if_pos discards

/-- The ticket unit with a ticket taken and queued, before a RESTART raises its barrier. -/
def queued (t : Ticket) (x : State) : State :=
  { x with tickets := { x.tickets with
    outstanding := x.tickets.outstanding - 1, taken := t.index + 1, queue := x.tickets.queue ++ [t] } }

/-- R29, R32: a ticket taken that is no HALT with its own index. -/
theorem arrive_takes {i : Half} {bytes : List Byte} (keeps : x.tickets.discarding = false)
    (which : { index := i, bytes := bytes } = t) (other : ¬ (ticketKind t = 11 ∧ ticketIndexField t = t.index)) :
    arrive i bytes x =
      let y := if ticketKind t = 15 then raiseBarrier (queued t x) else queued t x
      clearBadHeads y.tickets.queue.length y := by
  rw [arrive, if_neg (by simp [keeps]), which, takeTicket, if_neg other]
  rfl

/-- R33: a ticket of no known kind at the head of a queue of its own completes. -/
theorem clearBadHeads_unknown (alone : x.tickets.queue = [t]) (unknown : ∀ k, kindOf (ticketKind t) ≠ some k) :
    clearBadHeads x.tickets.queue.length x =
      complete (ticketKind t) (ticketTag t) .badKind 255 (ticketKind t) (popHead x) := by
  have none : kindOf (ticketKind t) = none := Option.eq_none_iff_forall_ne_some.2 unknown
  simp only [alone, List.length_singleton, clearBadHeads, none]

/-- R33: a HALT with an index not its own completes. -/
theorem clearBadHeads_misplacedHalt (alone : x.tickets.queue = [t]) (halt : ticketKind t = 11)
    (misplaced : ticketIndexField t ≠ t.index) :
    clearBadHeads x.tickets.queue.length x = complete 11 (ticketTag t) .badField 255 3 (popHead x) := by
  have kind : kindOf (ticketKind t) = some .halt := by rw [halt]; rfl
  simp only [alone, List.length_singleton, clearBadHeads, kind, headerFault, if_pos misplaced]

end

theorem withTickets_changes (z : TicketUnit) (s : State) : Changes [.tickets] s { s with tickets := z } := by
  intro p hp
  cases p <;> simp_all [Part.same]

/-- R33: an arrival whose ticket, alone in the queue, completes at once. -/
theorem exec_ticketArrival_completes {s : State} {e : InternalEntry} {i : Half} {t : Ticket} {o : OutcomeCode} {d : Nat}
    (chosen : InternalChosen s e) (purpose : e.purpose = .ticketRead i)
    (brought : { index := i, bytes := readBlock s.memory e.addr } = t)
    (effect : arrive i (readBlock s.memory e.addr) (serveInternal e s) =
      complete (ticketKind t) (ticketTag t) o 255 d (popHead (queued t (serveInternal e s))))
    (none : s.tickets.queue = []) :
    ∃ u, exec .ticketArrival s = .next u
      ∧ u.tickets = { s.tickets with outstanding := s.tickets.outstanding - 1, taken := i + 1 }
      ∧ Handed [completionOf t o 255 d s.ms] (headServed s) u ∧ Only (headParts ++ fetchingParts) s u := by
  have served := serveInternal_ticketServed purpose s
  have arrives := fun y => exec_ticketArrival (y := y) chosen purpose
  generalize serveInternal e s = x at served arrives effect
  have tickets : x.tickets = s.tickets := served.changes.get .tickets (by decide)
  have settings : x.settings = s.settings := served.changes.get .settings (by decide)
  have ms : x.ms = s.ms := served.changes.get .ms (by decide)
  have ret : x.ret = s.ret := served.changes.ret_eq (by decide)
  have popped : Changes [.tickets] x (popHead (queued t x)) := withTickets_changes _ x
  have left : (popHead (queued t x)).tickets =
      { s.tickets with outstanding := s.tickets.outstanding - 1, taken := i + 1 } := by
    simp only [popHead, queued, tickets, none, ← brought]
    rfl
  have handed : HandsOver [] (headServed s) (popHead (queued t x)) :=
    .unhanded (by simp only [popHead, queued, ret, headServed]) settings served.waits
  have upstream : (popHead (queued t x)).path = x.path := rfl
  have completes : complete (ticketKind t) (ticketTag t) o 255 d (popHead (queued t x)) =
      handReturn (completionOf t o 255 d s.ms) (popHead (queued t x)) := by
    rw [← ms]
    rfl
  rw [completes] at effect
  generalize popHead (queued t x) = y at effect popped left handed upstream
  have frame := handReturn_changes (completionOf t o 255 d s.ms) y
  have run := arrives _ effect ((frame.get .settings (by decide)).trans ((popped.get .settings (by decide)).trans settings))
    ((frame.get .upstream (by decide)).trans ((popped.get .upstream (by decide)).trans served.upstream))
    ((OwnRequestsAdded.of_path upstream).trans (handReturn_ownRequests _ _))
  refine ⟨_, run, ?_, (handed.trans (.hand (completionOf t o 255 d s.ms) _)).settle s, Changes.settle_only ?_⟩
  · exact (settle_get s _ .tickets (by decide)).trans ((frame.get .tickets (by decide)).trans left)
  · exact ((served.changes.mono (by decide)).trans (popped.mono (by decide))).trans (frame.mono (by decide))

/-- R29 to R33. -/
theorem arrivalTakesTicket : ArrivalTakesTicket := by
  intro s e i chosen purpose fits t left taken
  have served := serveInternal_ticketServed purpose s
  have brought : { index := i, bytes := readBlock s.memory e.addr } = t := ticketAt_eq (s := s) i fits
  have arrives := fun y => exec_ticketArrival (y := y) chosen purpose
  have hands := fun o d => exec_ticketArrival_completes (t := t) (o := o) (d := d) chosen purpose brought
  generalize serveInternal e s = x at served arrives hands
  have tickets : x.tickets = s.tickets := served.changes.get .tickets (by decide)
  have settings : x.settings = s.settings := served.changes.get .settings (by decide)
  have only : ∀ z : TicketUnit, Only (.tickets :: fetchingParts) s (settle s { x with tickets := z }) := fun z =>
    Changes.settle_only ((served.changes.mono (by decide)).trans ((withTickets_changes z x).mono (by decide)))
  have takes : s.tickets.discarding = false → ¬ (ticketKind t = 11 ∧ ticketIndexField t = i) → _ := fun keeps other =>
    arrive_takes (x := x) (i := i) (by rw [tickets]; exact keeps) brought other
  refine ⟨fun discards => ?_, fun keeps other => ⟨fun head => ⟨fun usual => ?_, fun restart => ?_⟩, fun none unknown => ?_,
    fun none misplaced => ?_⟩⟩
  · have run := arrives _ (arrive_discards (by rw [tickets]; exact discards)) settings served.upstream (.of_path rfl)
    exact ⟨_, run, (settle_get s _ .tickets (by decide)).trans (by simp only [tickets]; rfl), only _⟩
  · have effect := takes keeps other
    rw [if_neg usual, clearBadHeads_waits _ _ (by simpa only [queued, tickets] using head)] at effect
    have run := arrives _ effect settings served.upstream (.of_path rfl)
    refine ⟨_, run, (settle_get s _ .tickets (by decide)).trans ?_, only _⟩
    simp only [queued, tickets]
    rfl
  · have effect := takes keeps other
    rw [if_pos restart, clearBadHeads_waits _ _ (by simpa only [raiseBarrier, queued, tickets] using head)] at effect
    have run := arrives _ effect settings served.upstream (.of_path rfl)
    refine ⟨_, run, (settle_get s _ .tickets (by decide)).trans ?_, only _⟩
    simp only [raiseBarrier, queued, tickets]
    rfl
  · have usual : ticketKind t ≠ 15 := fun restart => unknown .restart (by rw [restart]; rfl)
    have effect := takes keeps other
    rw [if_neg usual, clearBadHeads_unknown (by simp only [queued, tickets, none]; rfl) unknown] at effect
    exact hands _ _ effect none
  · have usual : ticketKind t ≠ 15 := by rw [misplaced]; decide
    have effect := takes keeps other
    rw [if_neg usual, clearBadHeads_misplacedHalt (by simp only [queued, tickets, none]; rfl) misplaced
      fun own => other ⟨misplaced, own⟩, ← misplaced] at effect
    exact hands _ _ effect none

/-- Settles O48. -/
theorem ticketsFetchedAndTaken : Obligations.TicketsFetchedAndTaken := ⟨fetchRequestsTickets, arrivalTakesTicket⟩

end Sys2Proof.Machine
end

section
/-! SUPPORT. The FULL windows that a strobe's end completes, and the ends of a capture (R98, R99, R107): what they leave
is a function of the windows, the guards, the volumes, the account, the bars, the settings, the clock and the tone. -/
namespace Sys2Proof.Machine

/-! ## States alike to the frames -/

/-- What the end of a frame reads. -/
structure FramesAlike (x y : State) : Prop where
  frames : y.frames = x.frames
  volumes : y.volumes = x.volumes
  account : y.account = x.account
  ms : y.ms = x.ms
  settings : y.settings = x.settings
  lamps : y.lamps = x.lamps
  tone : y.ret.tone = x.ret.tone

theorem FramesAlike.refl (x : State) : FramesAlike x x := ⟨rfl, rfl, rfl, rfl, rfl, rfl, rfl⟩

theorem FramesAlike.trans {x y z : State} (h : FramesAlike x y) (k : FramesAlike y z) : FramesAlike x z :=
  ⟨k.frames.trans h.frames, k.volumes.trans h.volumes, k.account.trans h.account, k.ms.trans h.ms,
    k.settings.trans h.settings, k.lamps.trans h.lamps, k.tone.trans h.tone⟩

theorem Changes.lamps_eq {ps : List Part} {x y : State} (c : Changes ps x y) (apart : ∀ p ∈ [Part.bars, .barLoads], p ∉ ps) :
    y.lamps = x.lamps := by
  obtain ⟨lastingV, lastingR⟩ := c .bars (apart _ (by decide))
  obtain ⟨loadV, loadR⟩ := c .barLoads (apart _ (by decide))
  have whole : ∀ a b : Bar, a.lasting = b.lasting → a.load = b.load → a = b := by
    rintro ⟨⟩ ⟨⟩ lasting load
    simp_all [Bar.lasting]
  have v := whole _ _ lastingV loadV
  have r := whole _ _ lastingR loadR
  cases hy : y.lamps
  cases hx : x.lamps
  simp_all

theorem FramesAlike.of_changes {ps : List Part} {x y : State} (c : Changes ps x y)
    (apart : ∀ p ∈ [Part.frames, .volumes, .account, .ms, .settings, .bars, .barLoads, .tone], p ∉ ps) : FramesAlike x y where
  frames := c .frames (apart _ (by decide))
  volumes := c .volumes (apart _ (by decide))
  account := c .account (apart _ (by decide))
  ms := c .ms (apart _ (by decide))
  settings := c .settings (apart _ (by decide))
  lamps := c.lamps_eq fun p hp => apart p (by revert p; decide)
  tone := c .tone (apart _ (by decide))

section
variable {x y : State} {i : Nat} {w : Window} {f : FireData} {v : Volume}

theorem FramesAlike.windowAt_eq (h : FramesAlike x y) (i : Nat) : windowAt y i = windowAt x i := by
  rw [windowAt, windowAt, h.frames]

theorem FramesAlike.volumeAt_eq (h : FramesAlike x y) (slot : Nat) : volumeAt y slot = volumeAt x slot := by
  rw [volumeAt, volumeAt, h.volumes]

theorem FramesAlike.mapOf_eq (h : FramesAlike x y) : mapOf y = mapOf x := by
  rw [mapOf, mapOf, h.settings]

theorem FramesAlike.regulated_eq (h : FramesAlike x y) (st : FrameStatus) :
    regulated y w f st v = regulated x w f st v := by
  have mech : mechOf y = mechOf x := by rw [mechOf, mechOf, h.settings]
  have bound : effectiveMax y w.side = effectiveMax x w.side := by rw [effectiveMax, effectiveMax, h.lamps, mech]
  rw [regulated, mech, bound]
  rfl

theorem FramesAlike.frameTone_eq (h : FramesAlike x y) : frameTone w y = frameTone w x := by
  have chirp : chirpOn y = chirpOn x := by rw [chirpOn, chirpOn, h.mapOf_eq]
  unfold frameTone
  rw [h.tone, chirp, h.ms]

/-- A frame that ends leaves alike states alike. -/
theorem FramesAlike.frameLeft_eq (h : FramesAlike x y) (t : Nat) :
    FramesAlike (frameLeft i w f t v x) (frameLeft i w f t v y) := by
  have capacity : accountCapacity y = accountCapacity x := by rw [accountCapacity, accountCapacity, h.mapOf_eq]
  unfold frameLeft
  simp only [h.frames, h.volumes, h.account, h.ms, capacity]
  exact ⟨rfl, rfl, rfl, rfl, h.settings, h.lamps, h.frameTone_eq⟩

/-! ## The windows that are FULL -/

/-- Alike states end the same frames, and stay alike. -/
theorem FramesAlike.done (h : FramesAlike x y) (i : Nat) :
    FramesAlike (frameDone i x) (frameDone i y) ∧ frameRecords i y = frameRecords i x := by
  unfold frameDone frameRecords
  rw [h.windowAt_eq]
  cases windowAt x i with
  | none => exact ⟨h, rfl⟩
  | some w =>
    simp only [h.volumeAt_eq]
    cases w.fire with
    | none => exact ⟨h, rfl⟩
    | some f =>
      rcases w.strobeEnd with - | ⟨ended, t⟩
      · exact ⟨h, rfl⟩
      · cases volumeAt x w.slot with
        | none => exact ⟨h, rfl⟩
        | some v =>
          simp only [h.regulated_eq, h.account, h.ms]
          by_cases complete : w.filling = true ∧ w.full = true
          · simp only [if_pos complete]
            have left := h.frameLeft_eq (i := i) (w := w) (f := f) (v := regulated x w f (statusOf w) v) t
            rw [frameLeft, frameLeft, h.account, h.ms] at left
            exact ⟨left, trivial⟩
          · simp only [if_neg complete]
            exact ⟨h, trivial⟩

/-! ## Account records placed with them -/

theorem mem_placeRecords (rs : List (Half × List Byte)) (s : State) : ∀ e ∈ waiting s, e ∈ waiting (placeRecords rs s) := by
  induction rs generalizing s with
  | nil => exact fun _ he => he
  | cons r rs ih => exact fun e he => ih _ e (mem_placeAccountWrite _ _ _ he)

theorem placeRecords_changes (rs : List (Half × List Byte)) (s : State) : Changes [.requests] s (placeRecords rs s) :=
  Changes.foldl (fun _ _ => placeAccountWrite_changes _ _ _) _ _

theorem requested_placeRecords {m : MapSettings} (rs : List (Half × List Byte)) (s : State) (map : mapOf s = some m) :
    ∀ r ∈ rs, Requested (placeRecords rs s) (.accountWrite r.1) (accountAddress m r.1) r.2 := by
  induction rs generalizing s with
  | nil => exact fun r hr => by cases hr
  | cons r rs ih =>
    have map' : mapOf (placeAccountWrite r.1 r.2 s) = some m := by
      rw [mapOf, (placeAccountWrite_changes r.1 r.2 s).get .settings (by decide)]
      exact map
    intro q hq
    rcases List.mem_cons.1 hq with rfl | later
    · exact mem_placeRecords rs _ _ (requested_placeAccountWrite map _ _)
    · exact ih _ map' q later

/-- Frames that end in a state alike to `x`: the state they leave, and the writes of their records. -/
structure FramesEnded (x : State) (rs : List (Half × List Byte)) (done y z : State) : Prop where
  alike : FramesAlike done z
  requested : ∀ m, mapOf x = some m → ∀ r ∈ rs, Requested z (.accountWrite r.1) (accountAddress m r.1) r.2
  waits : ∀ e ∈ waiting y, e ∈ waiting z

theorem FramesAlike.completes (h : FramesAlike x y) (i : Nat) :
    FramesEnded x (frameRecords i x) (frameDone i x) y (completeIfFull i y) := by
  obtain ⟨alike, records⟩ := h.done i
  rw [completeIfFull_eq, records]
  have path : (frameDone i y).path = y.path := by
    unfold frameDone
    (repeat' split) <;> rfl
  have kept : ∀ e ∈ waiting y, e ∈ waiting (frameDone i y) := fun e he => by rwa [waiting, path]
  have settings : (frameDone i y).settings = y.settings := by
    unfold frameDone
    (repeat' split) <;> rfl
  refine ⟨alike.trans (.of_changes (placeRecords_changes _ _) (by decide)), fun m map => requested_placeRecords _ _ ?_,
    fun e he => mem_placeRecords _ _ e (kept e he)⟩
  rw [mapOf, settings, ← mapOf, h.mapOf_eq, map]

theorem FramesEnded.then {rs rs' : List (Half × List Byte)} {x1 x2 y1 y2 : State} (h : FramesEnded x rs x1 y y1)
    (k : FramesEnded x1 rs' x2 y1 y2) (map : mapOf x1 = mapOf x) : FramesEnded x (rs ++ rs') x2 y y2 where
  alike := k.alike
  requested m hm r hr := (List.mem_append.1 hr).elim (fun first => k.waits _ (h.requested m hm r first)) fun later =>
    k.requested m (map.trans hm) r later
  waits e he := k.waits e (h.waits e he)

theorem mapOf_frameDone (i : Nat) (x : State) : mapOf (frameDone i x) = mapOf x := by
  unfold frameDone
  (repeat' split) <;> rfl

/-- R99: the FULL windows complete in the order of their entries. -/
theorem FramesAlike.completesAll (h : FramesAlike x y) :
    FramesEnded x (framesRecords x) (framesDone x) y (completeFullWindows y) := by
  have k0 := h.completes 0
  have k1 := k0.then (k0.alike.completes 1) (mapOf_frameDone 0 x)
  have k2 := k1.then (k1.alike.completes 2) ((mapOf_frameDone 1 _).trans (mapOf_frameDone 0 x))
  exact k2.then (k2.alike.completes 3) ((mapOf_frameDone 2 _).trans ((mapOf_frameDone 1 _).trans (mapOf_frameDone 0 x)))

/-- R98, R99: the windows of a raised strobe have its end. -/
theorem giveStrobeEnd_eq (exposure : Nat) (isCut : Bool) (x : State) :
    giveStrobeEnd exposure isCut x = { x with frames := strobeGiven exposure isCut x } := by
  unfold giveStrobeEnd strobeGiven
  refine congrArg (fun ws => { x with frames := { x.frames with windows := ws } }) (List.map_congr_left fun w _ => ?_)
  cases w with
  | none => rfl
  | some z =>
    have lit : isLit (some z) = true ↔ z.filling = true ∧ z.strobeEnd = none := by simp [isLit]
    by_cases h : isLit (some z) = true
    · simp [h, lit.1 h]
    · simp [h, mt lit.2 h]

end

end Sys2Proof.Machine
end

section
/-! SUPPORT. The halt of the cradle and of the capture (R73, R98, R99), the flush of the fetched queue (R32), and the
STOP press (R164). -/
namespace Sys2Proof.Machine

/-! ## Records handed over -/

/-- The return writer stands as it did but for its tone. -/
theorem Changes.ret_eq_but_tone {ps : List Part} {s t : State} (h : Changes ps s t)
    (out : ∀ p ∈ [Part.returnRing, .returnConsumer, .returnQueue, .overruns, .latched, .statusMarks], p ∉ ps) :
    t.ret = { s.ret with tone := t.ret.tone } := by
  have ring := h .returnRing (out _ (by simp))
  have consumer := h .returnConsumer (out _ (by simp))
  have queue := h .returnQueue (out _ (by simp))
  have overruns := h .overruns (out _ (by simp))
  have latched := h .latched (out _ (by simp))
  have status := h .statusMarks (out _ (by simp))
  cases ht : t.ret
  cases hs : s.ret
  simp_all [Part.same]

/-- A frame that leaves the return writer hands nothing over. -/
theorem HandsOver.of_changes {ps : List Part} {s t : State} (h : Changes ps s t)
    (out : ∀ p ∈ [Part.returnRing, .returnConsumer, .returnQueue, .overruns, .latched, .statusMarks, .settings], p ∉ ps)
    (waits : ∀ e ∈ waiting s, e ∈ waiting t) : HandsOver [] s t :=
  .unhanded (h.ret_eq_but_tone fun p hp => out p (by revert p; decide)) (h .settings (out _ (by decide))) waits

/-! ## The sequencer stops (R73, R74) -/

/-- The cradle of a sequencer that stops in `goal`, its turn yet to end. -/
def cradleStopped (goal : ArmState) (s : State) : State :=
  { s with
    seq := { s.seq with arm := goal, armPhase := .none, platenPhase := .none, timer := none, attend := true }
    motion := hardStopped s.motion
    ret := { s.ret with tone := .attend true (s.ms + 250) } }

section
variable {s x y : State}

/-- A state of the arm other than IDLE is left with no capture to tell. -/
theorem setArm_eq (a : ArmState) (busy : s.seq.arm ≠ .idle ∨ a = .idle) :
    setArm a s = { s with seq := { s.seq with arm := a, armPhase := .none, platenPhase := .none } } :=
  if_neg fun h => busy.elim (fun moving => moving h.1) fun idle => h.2 idle

theorem cradleStops (goal : ArmState) (busy : s.seq.arm ≠ .idle) :
    attendArises (setArm goal (stopTimer (stopBoth s))) = cradleStopped goal s := by
  rw [setArm_eq (s := stopTimer (stopBoth s)) goal (.inl busy)]
  rfl

/-- What the end of a turn leaves, its completion handed over. -/
structure TurnEnded (o : OutcomeCode) (d : Nat) (s t : State) : Prop where
  handed : HandsOver (turnEnds o d s) s t
  seq : t.seq = { s.seq with turn := none }
  changes : Changes (.seq :: handParts) s t
  requests : OwnRequestsAdded s t

theorem endTurn_ended (o : OutcomeCode) (d : Nat) (s : State) : TurnEnded o d s (endTurn o d s) := by
  cases turn : s.seq.turn with
  | none =>
    have still : endTurn o d s = s := by simp only [endTurn, turn]
    have silent : turnEnds o d s = [] := by simp only [turnEnds, turn]
    have seq : s.seq = { s.seq with turn := none } := by rw [← turn]
    refine ⟨?_, ?_, ?_, ?_⟩
    · rw [still, silent]
      exact .unhanded rfl rfl fun _ he => he
    · rw [still]
      exact seq
    · rw [still]
      exact .refl _ s
    · rw [still]
      exact .of_path rfl
  | some t =>
    let r := ReturnRecord.completion (kindNumber t.kind) t.tag o t.slot d s.ms
    have ends : endTurn o d s = handReturn r (setSeq { s.seq with turn := none } s) := by
      simp only [endTurn, turn]
      rfl
    have told : turnEnds o d s = [r] := by simp only [turnEnds, turn, r]
    have handed : HandsOver [] s (setSeq { s.seq with turn := none } s) := .unhanded rfl rfl fun _ he => he
    have frame := handReturn_changes r (setSeq { s.seq with turn := none } s)
    refine ⟨?_, ?_, ?_, ?_⟩
    · rw [ends, told]
      exact handed.trans (.hand r _)
    · rw [ends]
      exact frame.get .seq (by decide)
    · rw [ends]
      exact ((setSeq_changes _ _).mono (by decide)).trans (frame.mono (by decide))
    · rw [ends]
      exact (OwnRequestsAdded.of_path (s := s) (t := setSeq { s.seq with turn := none } s) rfl).trans
        (handReturn_ownRequests r _)

/-- What a halt of a moving sequencer leaves. -/
structure CradleHalted (goal : ArmState) (rs : List ReturnRecord) (s t : State) : Prop where
  handed : HandsOver rs s t
  stopped : SequencerStopped goal s t
  changes : Changes ([.seq, .motion, .tone] ++ handParts) s t
  requests : OwnRequestsAdded s t

theorem endTurn_cradleStopped (goal : ArmState) (o : OutcomeCode) (d : Nat) (s : State) :
    CradleHalted goal (turnEnds o d s) s (endTurn o d (cradleStopped goal s)) := by
  have ended := endTurn_ended o d (cradleStopped goal s)
  have stops : Changes [.seq, .motion, .tone] s (cradleStopped goal s) := by
    intro p hp
    cases p <;> simp_all [Part.same, cradleStopped]
  have handed : HandsOver [] s (cradleStopped goal s) := .unhanded rfl rfl fun _ he => he
  exact ⟨handed.trans ended.handed, ⟨ended.seq, ended.changes.get .motion (by decide), ended.changes.get .tone (by decide)⟩,
    (stops.mono (by decide)).trans (ended.changes.mono (by decide)), (OwnRequestsAdded.of_path (s := s) (t := cradleStopped goal s) rfl).trans ended.requests⟩

theorem haltSequencer_moving (moving : Moving s) :
    haltSequencer s = endTurn .halted (armNumber s.seq.arm) (cradleStopped .halted s) := by
  obtain ⟨idle, halted, faulted⟩ := moving
  rw [← cradleStops .halted idle]
  unfold haltSequencer
  cases arm : s.seq.arm <;> first | rfl | exact absurd arm idle | exact absurd arm halted | exact absurd arm faulted

theorem haltSequencer_still (still : ¬ Moving s) : haltSequencer s = s := by
  unfold haltSequencer
  cases arm : s.seq.arm <;> first | rfl | exact absurd (by simp [Moving, arm]) still

/-! ## The capture ends (R98, R99) -/

/-- A later part of the step leaves what the end of a capture left. -/
structure CaptureKept (z u : State) : Prop where
  capture : u.capture = z.capture
  tone : u.ret.tone = z.ret.tone
  frames : u.frames = z.frames
  account : u.account = z.account
  volumes : u.volumes = z.volumes
  withdrawn : Withdrawn z → Withdrawn u
  waits : ∀ e ∈ waiting z, e ∈ waiting u

theorem CaptureKept.trans {z u w : State} (h : CaptureKept z u) (k : CaptureKept u w) : CaptureKept z w :=
  ⟨k.capture.trans h.capture, k.tone.trans h.tone, k.frames.trans h.frames, k.account.trans h.account,
    k.volumes.trans h.volumes, fun wd => k.withdrawn (h.withdrawn wd), fun e he => k.waits e (h.waits e he)⟩

theorem CaptureKept.of_changes {ps : List Part} {z u : State} (c : Changes ps z u)
    (apart : ∀ p ∈ [Part.capture, .tone, .frames, .account, .volumes, .link, .barLoads], p ∉ ps)
    (waits : ∀ e ∈ waiting z, e ∈ waiting u) : CaptureKept z u where
  capture := c .capture (apart _ (by decide))
  tone := c .tone (apart _ (by decide))
  frames := c .frames (apart _ (by decide))
  account := c .account (apart _ (by decide))
  volumes := c .volumes (apart _ (by decide))
  withdrawn := by
    have link : u.link = z.link := c .link (apart _ (by decide))
    obtain ⟨loadV, loadR⟩ := c .barLoads (apart _ (by decide))
    rintro ⟨loads, verifyV, verifyR, phaseV, phaseR⟩
    exact ⟨by rw [link, loads], by rw [link, verifyV], by rw [link, verifyR], loadV.trans phaseV, loadR.trans phaseR⟩
  waits := waits

/-- Handing a record over leaves the capture. -/
theorem CaptureKept.hand (r : ReturnRecord) (z : State) : CaptureKept z (handReturn r z) :=
  .of_changes (handReturn_changes r z) (by decide) fun e he => (mem_handReturn r z e).2 (.inr he)

theorem nextExchange_withdrawn {l : SensorLink} (none : l.loads = { v := none, r := none }) {c : Exchange}
    (next : nextExchange l = some c) : ∀ side code, c ≠ .load side code := by
  rintro side code rfl
  simp only [nextExchange, none] at next
  (repeat' split at next) <;> simp_all

/-- The free link starts no load of those withdrawn. -/
theorem withdrawn_startExchange {z : State} (h : Withdrawn z) : Withdrawn (startExchange z) := by
  obtain ⟨loads, verifyV, verifyR, phaseV, phaseR⟩ := h
  unfold startExchange
  split
  · split
    · exact ⟨loads, verifyV, verifyR, phaseV, phaseR⟩
    · rename_i c next
      cases c with
      | load side code => exact absurd rfl (nextExchange_withdrawn loads next side code)
      | sample head q => exact ⟨loads, verifyV, verifyR, phaseV, phaseR⟩
      | poll side =>
        cases side with
        | v => exact ⟨loads, rfl, verifyR, phaseV, phaseR⟩
        | r => exact ⟨loads, verifyV, rfl, phaseV, phaseR⟩
  · exact ⟨loads, verifyV, verifyR, phaseV, phaseR⟩

theorem CaptureKept.settle (b z : State) : CaptureKept z (settle b z) where
  capture := settle_get b z .capture (by decide)
  tone := settle_get b z .tone (by decide)
  frames := settle_get b z .frames (by decide)
  account := settle_get b z .account (by decide)
  volumes := settle_get b z .volumes (by decide)
  withdrawn h := by
    have edge := CaptureKept.of_changes (roundEdge_changes b z) (by decide) fun e he => by
      obtain ⟨internal, blocked⟩ := (roundEdge_changes b z).get .requests (by decide)
      rwa [waiting, internal, blocked]
    have status := statusChange_changes b (startExchange (roundEdge b z))
    have link := status.get .link (by decide)
    obtain ⟨loadV, loadR⟩ := status.get .barLoads (by decide)
    obtain ⟨loads, verifyV, verifyR, phaseV, phaseR⟩ := withdrawn_startExchange (edge.withdrawn h)
    exact ⟨(congrArg SensorLink.loads link).trans loads, (congrArg (fun l => l.polls.v.verify) link).trans verifyV,
      (congrArg (fun l => l.polls.r.verify) link).trans verifyR, loadV.trans phaseV, loadR.trans phaseR⟩
  waits := mem_settle b z

theorem strobeEnded_mono {z u : State} (k : CaptureKept z u) {exposure : Nat} {isCut : Bool}
    (h : StrobeEnded exposure isCut x z) : StrobeEnded exposure isCut x u := by
  obtain ⟨capture, frames, account, volumes, requested⟩ := h
  exact ⟨k.capture.trans capture, k.frames.trans frames, k.account.trans account, k.volumes.trans volumes,
    fun r hr m hm => k.waits _ (requested r hr m hm)⟩

theorem givenUp_mono {z u : State} (k : CaptureKept z u) (h : GivenUp x z) : GivenUp x u :=
  ⟨k.frames.trans h.1, k.account.trans h.2⟩

theorem framesKept_mono {z u : State} (k : CaptureKept z u) (h : FramesKept x z) : FramesKept x u :=
  ⟨k.frames.trans h.1, k.account.trans h.2.1, k.volumes.trans h.2.2⟩

theorem captureHalted_mono {z u : State} (k : CaptureKept z u) (h : CaptureHalted x z) : CaptureHalted x u := by
  unfold CaptureHalted at h ⊢
  cases state : x.capture.state with
  | free =>
    simp only [state] at h ⊢
    exact ⟨k.capture.trans h.1, k.tone.trans h.2.1, framesKept_mono k h.2.2⟩
  | holding c =>
    simp only [state] at h ⊢
    exact ⟨⟨k.capture.trans h.1.1, k.tone.trans h.1.2⟩, framesKept_mono k h.2⟩
  | exposing c st =>
    cases st with
    | gate wait =>
      simp only [state] at h ⊢
      exact ⟨⟨k.capture.trans h.1.1, k.tone.trans h.1.2⟩, givenUp_mono k h.2.1, k.volumes.trans h.2.2⟩
    | load f =>
      simp only [state] at h ⊢
      exact ⟨⟨k.capture.trans h.1.1, k.tone.trans h.1.2⟩, givenUp_mono k h.2.1, k.withdrawn h.2.2.1, k.volumes.trans h.2.2.2⟩
    | strobe f raisedAt =>
      simp only [state] at h ⊢
      by_cases over_ : f.exposure ≤ (x.ms - raisedAt).toNat
      · rw [if_pos over_] at h ⊢
        exact ⟨strobeEnded_mono k h.1, k.tone.trans h.2⟩
      · rw [if_neg over_] at h ⊢
        exact ⟨strobeEnded_mono k h.1, k.tone.trans h.2⟩

/-! ## What ends a capture -/

/-- The completion of a capture. -/
def captureEnds (c : CaptureRecord) (o : OutcomeCode) (d : Nat) (now : Word) : ReturnRecord :=
  .completion (kindNumber c.kind) c.tag o c.slot d now

theorem endCapture_eq {c : CaptureRecord} (held : heldCapture y = some c) (o : OutcomeCode) (d : Nat) :
    endCapture o d y = handReturn (captureEnds c o d y.ms) (setCapture .free y) := by
  simp only [endCapture, held]
  rfl

theorem giveUpWindows_givenUp (frames : y.frames = x.frames) (account : y.account = x.account) :
    GivenUp x (giveUpWindows y) := by
  have given : ∀ w : Option Window, isArmed w = w.any fun z => !z.filling := fun w => by cases w <;> rfl
  simp only [giveUpWindows, GivenUp, ← frames, ← account, ← given]
  exact ⟨rfl, rfl⟩

theorem mem_giveUpWindows (y : State) : ∀ e ∈ waiting y, e ∈ waiting (giveUpWindows y) := by
  obtain ⟨internal, blocked⟩ := (giveUpWindows_changes y).get .requests (by decide)
  intro e he
  rwa [waiting, internal, blocked]

theorem givenUp_congr {u : State} (frames : y.frames = x.frames) (account : y.account = x.account) (h : GivenUp y u) :
    GivenUp x u := by
  unfold GivenUp at h ⊢
  rw [← frames, ← account]
  exact h

/-- R98: a fire whose windows are given up, and whose capture ends. -/
structure FireGivenUp (r : ReturnRecord) (y z : State) : Prop where
  capture : z.capture = { y.capture with state := .free }
  tone : z.ret.tone = y.ret.tone
  givenUp : GivenUp y z
  volumes : z.volumes = y.volumes
  handed : HandsOver [r] y z

theorem endCapture_givesUp {w : State} {c : CaptureRecord} (changes : Changes [.link, .barLoads] y w)
    (waits : ∀ e ∈ waiting y, e ∈ waiting w) (held : heldCapture y = some c) (o : OutcomeCode) (d : Nat) :
    FireGivenUp (captureEnds c o d y.ms) y (endCapture o d (giveUpWindows w))
      ∧ (Withdrawn w → Withdrawn (endCapture o d (giveUpWindows w))) := by
  have given := giveUpWindows_givenUp (x := y) (changes.get .frames (by decide)) (changes.get .account (by decide))
  have capture : (giveUpWindows w).capture = y.capture := changes.get .capture (by decide)
  have held1 : heldCapture (giveUpWindows w) = some c := by rw [heldCapture, capture]; exact held
  have frame := giveUpWindows_changes w
  have both := (changes.mono (qs := [.link, .barLoads, .account, .frames]) (by decide)).trans (frame.mono (by decide))
  have ms : (giveUpWindows w).ms = y.ms := both.get .ms (by decide)
  rw [endCapture_eq held1, ms]
  have kept := CaptureKept.hand (captureEnds c o d y.ms) (setCapture .free (giveUpWindows w))
  have unhanded : HandsOver [] y (giveUpWindows w) :=
    .of_changes both (by decide) fun e he => mem_giveUpWindows w e (waits e he)
  have unhanded1 : HandsOver [] y (setCapture .free (giveUpWindows w)) :=
    unhanded.trans (.unhanded rfl rfl fun _ he => he)
  refine ⟨⟨?_, kept.tone.trans (both.get .tone (by decide)), givenUp_mono kept given,
    kept.volumes.trans (both.get .volumes (by decide)), unhanded1.trans (.hand _ _)⟩, fun withdrawn => kept.withdrawn ?_⟩
  · rw [kept.capture, ← capture]
    rfl
  · exact withdrawn

theorem refuseFire_ends {c : CaptureRecord} (held : heldCapture y = some c) (o : OutcomeCode) (d : Nat) :
    FireGivenUp (captureEnds c o d y.ms) y (refuseFire o d y) :=
  (endCapture_givesUp (.refl _ y) (fun _ he => he) held o d).1

theorem abandonFire_ends {c : CaptureRecord} (held : heldCapture y = some c) (o : OutcomeCode) (d : Nat) :
    FireGivenUp (captureEnds c o d y.ms) y (abandonFire o d y) ∧ Withdrawn (abandonFire o d y) := by
  obtain ⟨ends, withdrawn⟩ := endCapture_givesUp (w := withdrawLoads y) (withdrawLoads_changes y) (fun _ he => he) held o d
  exact ⟨ends, withdrawn ⟨rfl, rfl, rfl, rfl, rfl⟩⟩

/-- R99: a strobe that ends, with its windows and the capture's completion. -/
structure StrobeEnds (exposure : Nat) (isCut : Bool) (r : ReturnRecord) (x y z : State) : Prop where
  ended : StrobeEnded exposure isCut x z
  tone : z.ret.tone = (strobeOver exposure isCut x).ret.tone
  handed : HandsOver [r] y z

theorem strobeEnds_ends (alike : FramesAlike x y) {c : CaptureRecord} (held : heldCapture y = some c) (f : FireRecord)
    (exposure : Nat) (isCut : Bool) (o : OutcomeCode) :
    StrobeEnds exposure isCut (captureEnds c o (f.take % 256 + 256 * f.charge) y.ms) x y (strobeEnds f exposure isCut o y) := by
  let x1 : State := { x with frames := strobeGiven exposure isCut x }
  let y1 := giveStrobeEnd exposure isCut (lowerLines y)
  have given : y1 = { lowerLines y with frames := strobeGiven exposure isCut x } := by
    have same : strobeGiven exposure isCut (lowerLines y) = strobeGiven exposure isCut x := by
      simp only [strobeGiven, lowerLines, alike.frames, alike.ms]
    rw [← same]
    exact giveStrobeEnd_eq exposure isCut (lowerLines y)
  have alike1 : FramesAlike x1 y1 := by
    rw [given]
    exact ⟨rfl, alike.volumes, alike.account, alike.ms, alike.settings, alike.lamps, alike.tone⟩
  have done := alike1.completesAll
  have frame := completeFullWindows_changes y1
  have capture : y1.capture = (lowerLines y).capture := by rw [given]
  have ms : y1.ms = y.ms := by rw [given]; rfl
  have path : y1.path = y.path := by rw [given]; rfl
  have ret : y1.ret = y.ret := by rw [given]; rfl
  have settings : y1.settings = y.settings := by rw [given]; rfl
  have ends : strobeEnds f exposure isCut o y =
      endCapture o (f.take % 256 + 256 * f.charge) (completeFullWindows y1) := rfl
  clear_value y1
  generalize completeFullWindows y1 = w at done frame ends
  have lowered : w.capture = (lowerLines y).capture := (frame.get .capture (by decide)).trans capture
  have held1 : heldCapture w = some c := by rw [heldCapture, lowered]; exact held
  have ms1 : w.ms = y.ms := (frame.get .ms (by decide)).trans ms
  rw [ends, endCapture_eq held1, ms1]
  have kept := CaptureKept.hand (captureEnds c o (f.take % 256 + 256 * f.charge) y.ms) (setCapture .free w)
  have unhanded : HandsOver [] y (setCapture .free w) := by
    refine .unhanded ?_ ((frame.get .settings (by decide)).trans settings) fun e he => ?_
    · have quiet := frame.ret_eq_but_tone (by decide)
      rw [ret] at quiet
      exact quiet
    · refine done.waits e ?_
      rwa [waiting, path]
  have over_ : StrobeEnded exposure isCut x (setCapture .free w) :=
    ⟨by rw [setCapture, lowered]; rfl, done.alike.frames, done.alike.account, done.alike.volumes,
      fun r hr m hm => done.requested m hm r hr⟩
  exact ⟨strobeEnded_mono kept over_, kept.tone.trans done.alike.tone, unhanded.trans (.hand _ _)⟩

theorem cutStrobe_whole {f : FireRecord} {raisedAt : Word} (whole : f.exposure ≤ (y.ms - raisedAt).toNat) {o : OutcomeCode} :
    cutStrobe f raisedAt o y = strobeEnds f f.exposure false .done y := if_pos whole

theorem cutStrobe_short {f : FireRecord} {raisedAt : Word} (short : ¬ f.exposure ≤ (y.ms - raisedAt).toNat) {o : OutcomeCode} :
    cutStrobe f raisedAt o y = strobeEnds f (y.ms - raisedAt).toNat true o y := if_neg short

/-- R98: the capture of a halted cradle ends as its stage gives. -/
theorem haltCapture_halts (alike : FramesAlike x y) (capture : y.capture = x.capture) :
    CaptureHalted x (haltCapture y) ∧ HandsOver (haltedCapture x) y (haltCapture y) := by
  have freed : ∀ w : State, (setCapture .free w).capture = { w.capture with state := .free } := fun _ => rfl
  unfold CaptureHalted haltedCapture haltCapture
  rw [capture]
  cases state : x.capture.state with
  | free => exact ⟨⟨capture, alike.tone, alike.frames, alike.account, alike.volumes⟩, .unhanded rfl rfl fun _ he => he⟩
  | holding c =>
    have held : heldCapture y = some c := by rw [heldCapture, capture, state]
    have kept := CaptureKept.hand (captureEnds c .halted 0 y.ms) (setCapture .free y)
    have unhanded : HandsOver [] y (setCapture .free y) := .unhanded rfl rfl fun _ he => he
    simp only [endCapture_eq held]
    refine ⟨⟨⟨kept.capture.trans ?_, kept.tone.trans alike.tone⟩, framesKept_mono kept
      ⟨alike.frames, alike.account, alike.volumes⟩⟩, ?_⟩
    · rw [freed, capture]
    · rw [← alike.ms]
      exact unhanded.trans (.hand _ _)
  | exposing c st =>
    have held : heldCapture y = some c := by rw [heldCapture, capture, state]
    cases st with
    | gate wait =>
      have ends := refuseFire_ends held .halted 0
      refine ⟨⟨⟨ends.capture.trans (by rw [capture]), ends.tone.trans alike.tone⟩,
        givenUp_congr alike.frames alike.account ends.givenUp, ends.volumes.trans alike.volumes⟩, ?_⟩
      rw [← alike.ms]
      exact ends.handed
    | load f =>
      have ends := abandonFire_ends held .halted (f.take % 256 + 256 * f.charge)
      refine ⟨⟨⟨ends.1.capture.trans (by rw [capture]), ends.1.tone.trans alike.tone⟩,
        givenUp_congr alike.frames alike.account ends.1.givenUp, ends.2, ends.1.volumes.trans alike.volumes⟩, ?_⟩
      rw [← alike.ms]
      exact ends.1.handed
    | strobe f raisedAt =>
      simp only [← alike.ms]
      by_cases over_ : f.exposure ≤ (y.ms - raisedAt).toNat
      · simp only [cutStrobe_whole over_, if_pos over_]
        have ends := strobeEnds_ends alike held f f.exposure false .done
        exact ⟨⟨ends.ended, ends.tone⟩, ends.handed⟩
      · simp only [cutStrobe_short over_, if_neg over_]
        have ends := strobeEnds_ends alike held f (y.ms - raisedAt).toNat true .halted
        exact ⟨⟨ends.ended, ends.tone⟩, ends.handed⟩

/-! ## HALT and STOP -/

/-- The ATTEND pattern outlasts the frames of a step. -/
theorem framesDone_attend {on : Bool} {due : Word} (tone : x.ret.tone = .attend on due) :
    (framesDone x).ret.tone = .attend on due := by
  have one : ∀ i (z : State), z.ret.tone = .attend on due → (frameDone i z).ret.tone = .attend on due := by
    intro i z attends
    have stays : ∀ w, frameTone w z = .attend on due := fun w => by simp only [frameTone, attends]
    unfold frameDone
    (repeat' split) <;> first | exact attends | exact stays _
  exact one 3 _ (one 2 _ (one 1 _ (one 0 _ tone)))

theorem captureHalted_attend {u : State} {on : Bool} {due : Word} (h : CaptureHalted x u) (tone : x.ret.tone = .attend on due) :
    u.ret.tone = .attend on due := by
  unfold CaptureHalted at h
  have ended : ∀ exposure isCut, (strobeOver exposure isCut x).ret.tone = .attend on due := fun exposure isCut =>
    framesDone_attend (x := { x with frames := strobeGiven exposure isCut x }) tone
  cases state : x.capture.state with
  | free => simp only [state] at h; exact h.2.1.trans tone
  | holding c => simp only [state] at h; exact h.1.2.trans tone
  | exposing c st =>
    cases st with
    | gate wait => simp only [state] at h; exact h.1.2.trans tone
    | load f => simp only [state] at h; exact h.1.2.trans tone
    | strobe f raisedAt =>
      simp only [state] at h
      split at h
      · exact h.2.trans (ended _ _)
      · exact h.2.trans (ended _ _)

/-- The records of a halt but those of the flushed tickets. -/
def signalRecords (s : State) : List ReturnRecord :=
  (if s.seq.arm = .idle ∨ s.seq.arm = .halted ∨ s.seq.arm = .faulted then []
    else turnEnds .halted (armNumber s.seq.arm) s) ++ haltedCapture s

/-- R73, R98: what the signal of a halt does, in a state alike to `s` in what it reads. -/
theorem signalHalt_acts (alike : FramesAlike s y) (seq : y.seq = s.seq) (motion : y.motion = s.motion)
    (capture : y.capture = s.capture) :
    HaltActs s (signalHalt y) ∧ HandsOver (signalRecords s) y (signalHalt y) := by
  have sameMoving : Moving y ↔ Moving s := by unfold Moving; rw [seq]
  by_cases moving : Moving s
  · have sequencer := endTurn_cradleStopped .halted .halted (armNumber y.seq.arm) y
    rw [← haltSequencer_moving (sameMoving.2 moving)] at sequencer
    have signals : signalHalt y = haltCapture (haltSequencer y) := rfl
    generalize haltSequencer y = w at sequencer signals
    obtain ⟨handed, ⟨stopSeq, stopMotion, stopTone⟩, changes, -⟩ := sequencer
    rw [seq] at stopSeq
    rw [motion] at stopMotion
    rw [alike.ms] at stopTone
    have alike1 : FramesAlike { s with ret := { s.ret with tone := .attend true (s.ms + 250) } } w :=
      ⟨(changes.get .frames (by decide)).trans alike.frames, (changes.get .volumes (by decide)).trans alike.volumes,
        (changes.get .account (by decide)).trans alike.account, (changes.get .ms (by decide)).trans alike.ms,
        (changes.get .settings (by decide)).trans alike.settings, (changes.lamps_eq (by decide)).trans alike.lamps, stopTone⟩
    obtain ⟨halted, ended⟩ := haltCapture_halts alike1 ((changes.get .capture (by decide)).trans capture)
    have frame := haltCapture_changes w
    have told : turnEnds .halted (armNumber y.seq.arm) y = turnEnds .halted (armNumber s.seq.arm) s := by
      rw [turnEnds, turnEnds, seq, alike.ms]
    have records : signalRecords s = turnEnds .halted (armNumber s.seq.arm) s ++ haltedCapture s := by
      obtain ⟨idle, stopped, faulted⟩ := moving
      rw [signalRecords, if_neg (by rintro (h | h | h) <;> contradiction)]
    rw [signals, records, ← told]
    refine ⟨⟨fun _ => ⟨⟨(frame.get .seq (by decide)).trans stopSeq, (frame.get .motion (by decide)).trans stopMotion,
      captureHalted_attend halted rfl⟩, halted⟩, fun still => absurd moving still⟩, handed.trans ended⟩
  · have signals : signalHalt y = haltCapture y := by
      rw [signalHalt, haltSequencer_still (mt sameMoving.1 moving)]
    obtain ⟨halted, ended⟩ := haltCapture_halts alike capture
    have frame := haltCapture_changes y
    have records : signalRecords s = haltedCapture s := by
      rw [signalRecords, if_pos, List.nil_append]
      refine Classical.byContradiction fun busy => ?_
      exact moving ⟨fun h => busy (.inl h), fun h => busy (.inr (.inl h)), fun h => busy (.inr (.inr h))⟩
    rw [signals, records]
    exact ⟨⟨fun moves => absurd moves moving, fun _ => ⟨(frame.get .seq (by decide)).trans seq,
      (frame.get .motion (by decide)).trans motion, halted⟩⟩, ended⟩

theorem haltActs_mono {z u : State} (k : CaptureKept z u) (seq : u.seq = z.seq) (motion : u.motion = z.motion)
    (h : HaltActs s z) : HaltActs s u := by
  obtain ⟨moves, still⟩ := h
  refine ⟨fun moving => ?_, fun rests => ?_⟩
  · obtain ⟨⟨stopSeq, stopMotion, stopTone⟩, halted⟩ := moves moving
    exact ⟨⟨seq.trans stopSeq, motion.trans stopMotion, k.tone.trans stopTone⟩, captureHalted_mono k halted⟩
  · obtain ⟨sameSeq, sameMotion, halted⟩ := still rests
    exact ⟨seq.trans sameSeq, motion.trans sameMotion, captureHalted_mono k halted⟩

/-- What the flush of the tickets `ts` leaves (R32). -/
structure Flushed (ts : List Ticket) (y z : State) : Prop where
  handed : HandsOver (ts.map fun t => completionOf t .halted 255 0 y.ms) y z
  tickets : z.tickets = { y.tickets with barrier := y.tickets.barrier && !(ts.any fun t => decide (ticketKind t = 15)) }
  changes : Changes (.tickets :: handParts) y z
  requests : OwnRequestsAdded y z

theorem flushOne_flushed (t : Ticket) (y : State) : Flushed [t] y (flushOne t y) := by
  have frame := handReturn_changes (completionOf t .halted 255 0 y.ms) y
  have hands : HandsOver [completionOf t .halted 255 0 y.ms] y (handReturn (completionOf t .halted 255 0 y.ms) y) := .hand _ y
  have requests := handReturn_ownRequests (completionOf t .halted 255 0 y.ms) y
  have flushes : flushOne t y = dropBarrierFor (ticketKind t) (handReturn (completionOf t .halted 255 0 y.ms) y) := rfl
  rw [flushes]
  generalize handReturn (completionOf t .halted 255 0 y.ms) y = z at frame hands requests
  have tickets : z.tickets = y.tickets := frame.get .tickets (by decide)
  unfold dropBarrierFor
  by_cases restart : ticketKind t = 15
  · rw [if_pos restart]
    refine ⟨hands.trans (.unhanded rfl rfl fun _ he => he), ?_, ?_, requests.trans (.of_path rfl)⟩
    · simp [dropBarrier, tickets, restart]
    · exact (frame.mono (by decide)).trans ((withTickets_changes _ z).mono (by decide))
  · rw [if_neg restart]
    refine ⟨hands, ?_, frame.mono (by decide), requests⟩
    simp [tickets, restart]

theorem flushAll_flushed (ts : List Ticket) (y : State) : Flushed ts y (ts.foldl (fun x t => flushOne t x) y) := by
  induction ts generalizing y with
  | nil => exact ⟨.unhanded rfl rfl fun _ he => he, by simp, .refl _ y, .of_path rfl⟩
  | cons t ts ih =>
    have first := flushOne_flushed t y
    have rest := ih (flushOne t y)
    have ms : (flushOne t y).ms = y.ms := first.changes.get .ms (by decide)
    refine ⟨?_, ?_, first.changes.trans rest.changes, first.requests.trans rest.requests⟩
    · have handed := first.handed.trans rest.handed
      rwa [ms] at handed
    · rw [List.foldl_cons, rest.tickets, first.tickets]
      simp [Bool.and_assoc]

theorem flushQueue_flushed (y : State) :
    HandsOver (y.tickets.queue.map fun t => completionOf t .halted 255 0 y.ms) y (flushQueue y)
      ∧ (flushQueue y).tickets = flushedTickets y.tickets ∧ Changes (.tickets :: handParts) y (flushQueue y)
      ∧ OwnRequestsAdded y (flushQueue y) := by
  have emptied : HandsOver [] y { y with tickets := { y.tickets with queue := [] } } := .unhanded rfl rfl fun _ he => he
  have flushed := flushAll_flushed y.tickets.queue { y with tickets := { y.tickets with queue := [] } }
  exact ⟨emptied.trans flushed.handed, flushed.tickets, ((withTickets_changes _ y).mono (by decide)).trans flushed.changes,
    ⟨flushed.requests.kept, flushed.requests.added⟩⟩

theorem signalHalt_ownRequests (y : State) : OwnRequestsAdded y (signalHalt y) := by
  refine OwnRequestsAdded.trans ?_ (haltCapture_closed ownRequests_capture (haltSequencer y))
  by_cases moving : Moving y
  · rw [haltSequencer_moving moving]
    exact (endTurn_cradleStopped .halted .halted _ y).requests
  · rw [haltSequencer_still moving]
    exact .of_path rfl

/-- What a halt leaves, in a state alike to `s` in what it reads. -/
structure HaltDone (s y z : State) : Prop where
  acts : HaltActs s z
  handed : HandsOver (haltRecords s) y z
  tickets : z.tickets = flushedTickets y.tickets
  changes : Changes haltParts y z
  requests : OwnRequestsAdded y z

theorem halt_done (alike : FramesAlike s y) (seq : y.seq = s.seq) (motion : y.motion = s.motion)
    (capture : y.capture = s.capture) (queue : y.tickets.queue = s.tickets.queue) :
    HaltDone s y (flushQueue (signalHalt y)) := by
  obtain ⟨acts, signals⟩ := signalHalt_acts alike seq motion capture
  have frame := signalHalt_changes y
  have requests := signalHalt_ownRequests y
  generalize signalHalt y = w at acts signals frame requests
  obtain ⟨flushes, tickets, changes, added⟩ := flushQueue_flushed w
  have same : w.tickets = y.tickets := frame.get .tickets (by decide)
  have ms : w.ms = s.ms := (frame.get .ms (by decide)).trans alike.ms
  have kept : CaptureKept w (flushQueue w) := .of_changes changes (by decide) added.kept
  rw [same, queue, ms] at flushes
  exact ⟨haltActs_mono kept (changes.get .seq (by decide)) (changes.get .motion (by decide)) acts, signals.trans flushes,
    tickets.trans (by rw [same]), (frame.mono (by decide)).trans (changes.mono (by decide)), requests.trans added⟩

theorem haltActs_settle (b z : State) (h : HaltActs s z) : HaltActs s (settle b z) :=
  haltActs_mono (.settle b z) (settle_get b z .seq (by decide)) (settle_get b z .motion (by decide)) h

/-! ## The STOP press -/

theorem exec_stopPress (released : Nat) (s : State) :
    exec (.stopPress released) s =
      .next (settle s (if pressTaken released s.stopLine s then stopPressed s else s)) := rfl

theorem pressTaken_iff (released quiet : Nat) (s : State) :
    pressTaken released quiet s = true ↔
      (s.settings.startup = .ready ∨ s.settings.startup = .bare) ∧ 20 ≤ released ∧ 40 ≤ quiet := by
  simp [pressTaken, inService]

/-! ## The arrival of a HALT -/

theorem arrive_halt {i : Half} {bytes : List Byte} {t : Ticket} (keeps : x.tickets.discarding = false)
    (which : { index := i, bytes := bytes } = t) (halt : ticketKind t = 11) (own : ticketIndexField t = i) :
    arrive i bytes x =
      let y : State := { x with tickets := { x.tickets with outstanding := x.tickets.outstanding - 1, taken := i + 1 } }
      handReturn (.completion 11 (ticketTag t) .done 255 x.tickets.queue.length (flushQueue (signalHalt y)).ms)
        (flushQueue (signalHalt y)) := by
  have index : t.index = i := by rw [← which]
  have itself : ticketKind t = 11 ∧ ticketIndexField t = t.index := ⟨halt, by rw [own, index]⟩
  rw [arrive, if_neg (by simp [keeps]), which, takeTicket, if_pos itself, index]
  rfl

/-- Both commands that stand for the arrival of a HALT take it. -/
theorem exec_haltArrival {e : InternalEntry} {i : Half} {c : Instr} (either : c = .halt ∨ c = .ticketArrival)
    (chosen : InternalChosen s e) (purpose : e.purpose = .ticketRead i)
    (halt : isHaltTicket i { index := i, bytes := readBlock s.memory e.addr } = true) {y : State}
    (arrives : arrive i (readBlock s.memory e.addr) (serveInternal e s) = y) (settings : y.settings = s.settings)
    (upstream : y.path.upstream = s.path.upstream) (requests : OwnRequestsAdded (serveInternal e s) y) :
    exec c s = .next (settle s y) := by
  rcases either with rfl | rfl
  · have run : exec .halt s = .next (settle s (haltArrives s)) := rfl
    have served := serveInternal_ticketServed purpose s
    rw [run, haltArrives, arbiter_of_internalChosen chosen]
    simp only [purpose, halt, if_true, arrives, pump_afterInternal chosen served.left settings upstream requests]
  · exact exec_ticketArrival chosen purpose arrives settings upstream requests

end

/-- Settles O49. -/
theorem haltStopsAndFlushes : Obligations.HaltStopsAndFlushes := by
  intro s
  refine ⟨?_, fun released => ?_⟩
  · intro c e i either chosen purpose fits keeps t halt own
    have served := serveInternal_ticketServed purpose s
    have brought : { index := i, bytes := readBlock s.memory e.addr } = t := ticketAt_eq (s := s) i fits
    have halts : isHaltTicket i { index := i, bytes := readBlock s.memory e.addr } = true := by
      rw [brought]
      exact decide_eq_true ⟨halt, own⟩
    have arrives := fun y => exec_haltArrival (y := y) either chosen purpose halts
    generalize serveInternal e s = x at served arrives
    have tickets : x.tickets = s.tickets := served.changes.get .tickets (by decide)
    have effect := arrive_halt (x := x) (by rw [tickets]; exact keeps) brought halt own
    let x1 : State := { x with tickets := { x.tickets with outstanding := x.tickets.outstanding - 1, taken := i + 1 } }
    have moved : Changes (.tickets :: fetchingParts) s x1 :=
      (served.changes.mono (by decide)).trans ((withTickets_changes _ x).mono (by decide))
    have halted := halt_done (s := s) (y := x1) (.of_changes moved (by decide)) (moved.get .seq (by decide))
      (moved.get .motion (by decide)) (moved.get .capture (by decide)) (by simp only [x1, tickets])
    rw [tickets] at effect
    have handed : HandsOver [] (headServed s) x1 :=
      .unhanded (by rw [moved.ret_eq (by decide)]; rfl) (moved.get .settings (by decide)) served.waits
    have ticketsAfter : x1.tickets = { s.tickets with outstanding := s.tickets.outstanding - 1, taken := i + 1 } := by
      simp only [x1, tickets]
    have path : x1.path = x.path := rfl
    have effect' : arrive i (readBlock s.memory e.addr) x = handReturn (.completion 11 (ticketTag t) .done 255
        s.tickets.queue.length (flushQueue (signalHalt x1)).ms) (flushQueue (signalHalt x1)) := by
      rw [effect]
      simp only [x1, tickets]
    clear_value x1
    generalize flushQueue (signalHalt x1) = z at effect' halted
    have ms : z.ms = s.ms := (halted.changes.get .ms (by decide)).trans (moved.get .ms (by decide))
    let r := completionOf t .done 255 s.tickets.queue.length s.ms
    have told : ReturnRecord.completion 11 (ticketTag t) .done 255 s.tickets.queue.length z.ms = r := by
      rw [ms, ← halt]
      rfl
    rw [told] at effect'
    have frame := handReturn_changes r z
    have settings := (frame.get .settings (by decide)).trans
      ((halted.changes.get .settings (by decide)).trans (moved.get .settings (by decide)))
    have upstream := (frame.get .upstream (by decide)).trans ((halted.changes.get .upstream (by decide)).trans
      ((congrArg ThroughPath.upstream path).trans served.upstream))
    have run := arrives _ effect' settings upstream (((OwnRequestsAdded.of_path path).trans halted.requests).trans
      (handReturn_ownRequests _ z))
    have whole := halted.handed.trans (.hand r z)
    refine ⟨_, run, haltActs_settle _ _ (haltActs_mono (.hand _ z) (frame.get .seq (by decide)) (frame.get .motion (by decide))
      halted.acts), ?_, ?_, ?_⟩
    · rw [settle_get s _ .tickets (by decide), frame.get .tickets (by decide), halted.tickets, ticketsAfter]
      rfl
    · exact (handed.trans whole).settle s
    · exact Changes.settle_only (((moved.mono (by decide)).trans (halted.changes.mono (by decide))).trans
        (frame.mono (by decide)))
  · intro taken
    have run := exec_stopPress released s
    refine ⟨fun untaken => ?_, fun takes => ?_⟩
    · rw [if_neg (mt (pressTaken_iff _ _ _).1 untaken)] at run
      exact exec_holds run
    rw [if_pos ((pressTaken_iff _ _ _).2 takes)] at run
    let r := ReturnRecord.event .stopPressed 0 (armNumber s.seq.arm) s.ms
    have pressed : HandsOver [] s { s with stopLine := 0 } := .unhanded rfl rfl fun _ he => he
    have line : Changes [.buttons] s { s with stopLine := 0 } := by
      intro p hp
      cases p <;> simp_all [Part.same]
    have frame := handReturn_changes r { s with stopLine := 0 }
    have told := pressed.trans (.hand r { s with stopLine := 0 })
    have stops : stopPressed s = flushQueue (signalHalt (handReturn r { s with stopLine := 0 })) := rfl
    have lines := frame.get .buttons (by decide)
    generalize handReturn r { s with stopLine := 0 } = x at frame told stops lines
    have moved : Changes (.buttons :: handParts) s x := (line.mono (by decide)).trans (frame.mono (by decide))
    have tickets : x.tickets = s.tickets := moved.get .tickets (by decide)
    have halted := halt_done (s := s) (y := x) (.of_changes moved (by decide)) (moved.get .seq (by decide))
      (moved.get .motion (by decide)) (moved.get .capture (by decide)) (by rw [tickets])
    rw [← stops] at halted
    obtain ⟨stopLine, resumeLine⟩ := (settle_get s (stopPressed s) .buttons (by decide))
    obtain ⟨stopLine', resumeLine'⟩ := halted.changes.get .buttons (by decide)
    refine ⟨_, run, haltActs_settle _ _ halted.acts, ?_, stopLine.trans (stopLine'.trans lines.1),
      resumeLine.trans (resumeLine'.trans lines.2), ?_, ?_⟩
    · rw [settle_get s _ .tickets (by decide), halted.tickets, tickets]
    · exact (told.trans halted.handed).settle s
    · exact Changes.settle_only ((moved.mono (by decide)).trans (halted.changes.mono (by decide)))

end Sys2Proof.Machine
end

section
/-! SUPPORT. The sequencer of the cradle (4.3 to 4.5): what each of its parts leaves at the end of the step. -/
namespace Sys2Proof.Machine

/-! ## The end of the step -/

/-- What `u` keeps of the state `z` that the sequencer left. -/
structure Ends (z u : State) : Prop where
  seq : u.seq = z.seq
  motion : u.motion = z.motion
  volumes : u.volumes = z.volumes
  tone : u.ret.tone = z.ret.tone
  handed : ∀ {rs : List ReturnRecord} {x : State}, HandsOver rs x z → Handed rs x u

theorem Ends.settle (b z : State) : Ends z (settle b z) where
  seq := settle_get b z .seq (by decide)
  motion := settle_get b z .motion (by decide)
  volumes := settle_get b z .volumes (by decide)
  tone := settle_get b z .tone (by decide)
  handed h := h.settle b

/-- Nothing is handed over by a change that leaves the return writer, the settings and the path. -/
theorem handsOver_same {x y : State} (ret : y.ret = { x.ret with tone := y.ret.tone }) (settings : y.settings = x.settings)
    (path : y.path = x.path) : HandsOver [] x y :=
  .unhanded ret settings fun e he => by rwa [waiting, path]

/-- The arm is neither IDLE nor FAULTED, so that a fault is entered and no capture is told. -/
def Busy (q : Sequencer) : Prop := q.arm ≠ .idle ∧ q.arm ≠ .faulted

/-! ## Faults (R74) -/

/-- What a cause of a fault latches, with the event it raises. -/
def causeLatched (c : FaultCause) (x : State) : Option (LatchedFault × EventCode × Nat) :=
  match c with
  | .platen => some (.platen, .platen, armNumber x.seq.arm)
  | .slip target fused => some (.slip, .slip, twoPart target fused)
  | .split => none
  | .noPosition => none

/-- `x` with another tone output and another time of the RESUME line, on which no part of the sequencer depends. -/
def withPanel (t : Tone) (n : Nat) (x : State) : State := { x with ret := { x.ret with tone := t }, resumeLine := n }

section
variable {x y z u : State} {t : Tone} {n : Nat} {sw : Switches}

theorem withPanel_handsOver (t : Tone) (n : Nat) (x : State) : HandsOver [] x (withPanel t n x) := handsOver_same rfl rfl rfl

/-- What latching a fault with its event hands over. -/
theorem latch_withPanel_handsOver (f : LatchedFault) (c : EventCode) (d : Nat) (t : Tone) (n : Nat) (x : State) :
    if f ∈ x.ret.latched then HandsOver [] x (latch f c 0 d (withPanel t n x))
    else HandsOver [.event c 0 d x.ms] (enterLatched f x) (latch f c 0 d (withPanel t n x)) := by
  by_cases latched : f ∈ x.ret.latched
  · rw [if_pos latched, latch_latched (by exact latched)]
    exact withPanel_handsOver t n x
  · rw [if_neg latched, latch_fresh (by exact latched)]
    have entered : HandsOver [] (enterLatched f x) (enterLatched f (withPanel t n x)) := handsOver_same rfl rfl rfl
    exact entered.trans (.hand _ _)

/-- R74: the arm enters FAULTED, its turn ends, and the cause is latched. -/
theorem enterFaulted_faulted (c : FaultCause) (busy : Busy x.seq) (e : Ends (enterFaulted c (withPanel t n x)) u) :
    Faulted (causeCode c) (causeLatched c x) x u := by
  have frame := latchCause_changes c (withPanel t n x)
  let w := latchCause c (withPanel t n x)
  have seq : w.seq = x.seq := frame.get .seq (by decide)
  have motion : w.motion = x.motion := frame.get .motion (by decide)
  have volumes : w.volumes = x.volumes := frame.get .volumes (by decide)
  have ms : w.ms = x.ms := frame.get .ms (by decide)
  have enters : enterFaulted c (withPanel t n x) =
      endTurn .armFault (armNumber x.seq.arm + 256 * causeCode c) (cradleStopped .faulted w) := by
    rw [← cradleStops (s := w) .faulted (by rw [seq]; exact busy.1)]
    exact if_neg busy.2
  have told : turnEnds .armFault (armNumber x.seq.arm + 256 * causeCode c) w =
      turnEnds .armFault (armNumber x.seq.arm + 256 * causeCode c) x := by rw [turnEnds, turnEnds, seq, ms]
  obtain ⟨handed, ⟨stopSeq, stopMotion, stopTone⟩, changes, -⟩ :=
    endTurn_cradleStopped .faulted .armFault (armNumber x.seq.arm + 256 * causeCode c) w
  rw [enters] at e
  rw [told] at handed
  refine ⟨⟨e.seq.trans (by rw [stopSeq, seq]), e.motion.trans (by rw [stopMotion, motion]),
    e.tone.trans (by rw [stopTone, ms])⟩, (e.volumes.trans (changes.get .volumes (by decide))).trans volumes, ?_⟩
  cases c with
  | platen =>
    have latched := latch_withPanel_handsOver .platen .platen (armNumber x.seq.arm) t n x
    simp only [causeLatched]
    split
    · rw [if_pos ‹_›] at latched
      exact e.handed (latched.trans handed)
    · rw [if_neg ‹_›] at latched
      exact e.handed (latched.trans handed)
  | slip target fused =>
    have latched := latch_withPanel_handsOver .slip .slip (twoPart target fused) t n x
    simp only [causeLatched]
    split
    · rw [if_pos ‹_›] at latched
      exact e.handed (latched.trans handed)
    · rw [if_neg ‹_›] at latched
      exact e.handed (latched.trans handed)
  | split => exact e.handed ((withPanel_handsOver t n x).trans handed)
  | noPosition => exact e.handed ((withPanel_handsOver t n x).trans handed)

/-! ## Moves of the arm (R57, R58) -/

theorem angleDifference_way {spr a g : Nat} (ha : a < 4096) (hg : g < 4096) :
    Way spr a g (angleDifference a g) (moveSteps spr a g) := by
  unfold Way moveSteps angleDifference
  simp only []
  split
  · exact ⟨by omega, by omega, ⟨-1, by omega⟩, trivial⟩
  · split
    · exact ⟨by omega, by omega, ⟨1, by omega⟩, trivial⟩
    · exact ⟨by omega, by omega, ⟨0, by omega⟩, trivial⟩

/-- The arm engine is offered a move. -/
theorem offerArm_offered {angle top : Nat} (hangle : angle < 4096) (htarget : x.seq.target < 4096)
    (some_ : moveSteps (mechOf x).spr angle x.seq.target ≠ 0)
    (e : Ends (offerArm angle (moveSteps (mechOf x).spr angle x.seq.target) top (withPanel t n x)) u) :
    ArmOffered (mechOf x).spr angle x.seq.target top x.seq.corrections x x.seq u ∧ u.volumes = x.volumes ∧ Handed [] x u :=
  ⟨⟨_, _, angleDifference_way hangle htarget, some_, e.seq, e.motion⟩, e.volumes, e.handed (handsOver_same rfl rfl rfl)⟩

/-! ## The platen raised (R66, R67) -/

theorem modifyVolume_eq {slot : Nat} {v : Volume} (hv : volumeAt y slot = some v) (f : Volume → Volume) :
    modifyVolume slot f y = setVolume slot (some (f v)) y := by
  rw [modifyVolume, hv]

/-- R67: what the flag of a raised platen leaves. -/
theorem raisedFlag_left (sw : Switches) (y : State) :
    (y.volumes.active = none → (raisedFlag sw y).volumes = y.volumes
        ∧ HandsOver (if sw.contact then [] else [.event .unpressed 0 255 y.ms]) y (raisedFlag sw y))
      ∧ (∀ slot v, y.volumes.active = some slot → volumeAt y slot = some v →
        (raisedFlag sw y).volumes =
            { y.volumes with entries := y.volumes.entries.set slot (some { v with unpressed := !sw.contact }) }
          ∧ HandsOver (if sw.contact then [] else [.event .unpressed 0 slot y.ms]) y (raisedFlag sw y))
      ∧ Changes (.volumes :: handParts) y (raisedFlag sw y) := by
  refine ⟨fun none => ?_, fun slot v active hv => ?_, raisedFlag_changes sw y⟩
  · have inactive : activeVolume y = Option.none := by simp [activeVolume, none]
    rw [raisedFlag, inactive]
    cases sw.contact with
    | true => exact ⟨rfl, handsOver_same rfl rfl rfl⟩
    | false => exact ⟨(handReturn_changes _ y).get .volumes (by decide), .hand _ y⟩
  · rw [raisedFlag, activeVolume_eq_some active hv]
    cases contact : sw.contact with
    | true =>
      simp only [if_true, modifyVolume_eq hv]
      exact ⟨rfl, handsOver_same rfl rfl rfl⟩
    | false =>
      simp only [if_neg Bool.false_ne_true, modifyVolume_eq hv]
      have written : HandsOver [] y (setVolume slot (some { v with unpressed := true }) y) := handsOver_same rfl rfl rfl
      exact ⟨(handReturn_changes _ _).get .volumes (by decide), written.trans (.hand _ _)⟩

/-- R67, R70: the platen at the end of its raising. -/
theorem afterRaise_eq (busy : y.seq.arm ≠ .idle) :
    afterRaise y =
      if y.seq.arm = .homing then { y with seq := { y.seq with arm := .idle, armPhase := .none, platenPhase := .none } }
      else { y with seq := { y.seq with
        arm := .settling, armPhase := .none, platenPhase := .none
        timer := some { kind := .settle, due := y.ms + BitVec.ofNat 32 (mechOf y).settleTime } } } := by
  unfold afterRaise enterSettling
  rw [setArm_eq .idle (.inr rfl), setArm_eq .settling (.inl busy)]
  rfl

theorem raiseEnded_raised (busy : x.seq.arm ≠ .idle) (e : Ends (raiseEnded .limit sw (withPanel t n x)) u) :
    RaiseEnded sw x u := by
  obtain ⟨inactive, active, frame⟩ := raisedFlag_left sw (withPanel t n x)
  have raises : raiseEnded .limit sw (withPanel t n x) = afterRaise (raisedFlag sw (withPanel t n x)) := rfl
  rw [raises] at e
  generalize raisedFlag sw (withPanel t n x) = w at inactive active frame e
  have seq : w.seq = x.seq := frame.get .seq (by decide)
  have ms : w.ms = x.ms := frame.get .ms (by decide)
  have mech : mechOf w = mechOf x := by rw [mechOf, frame.get .settings (by decide)]; rfl
  rw [afterRaise_eq (by rwa [seq]), seq, ms, mech] at e
  have motion : w.motion = x.motion := frame.get .motion (by decide)
  have told {rs : List ReturnRecord} (handed : HandsOver rs (withPanel t n x) w) : Handed rs x u := by
    have left := (withPanel_handsOver t n x).trans handed
    refine e.handed ?_
    split <;> exact List.append_nil rs ▸ left.trans (handsOver_same rfl rfl rfl)
  refine ⟨fun homing => ?_, fun other => ?_, ?_, fun none => ?_, fun slot v held hv => ?_⟩
  · rw [if_pos homing] at e
    exact e.seq
  · rw [if_neg other] at e
    exact e.seq
  · refine e.motion.trans ?_
    split <;> exact motion
  · obtain ⟨volumes, handed⟩ := inactive none
    refine ⟨e.volumes.trans ?_, told handed⟩
    split <;> exact volumes
  · obtain ⟨volumes, handed⟩ := active slot v held hv
    refine ⟨e.volumes.trans ?_, told handed⟩
    split <;> exact volumes

/-- R66: the platen is raised, or its engine's end awaited. -/
theorem beginRaise_begins (busy : x.seq.arm ≠ .idle) (e : Ends (beginRaise sw (withPanel t n x)) u) : RaiseBegins sw x u := by
  refine ⟨fun moves => ?_, fun none up contact => ?_, fun none sought => ?_⟩
  · have owes : beginRaise sw (withPanel t n x) = withPanel t n { x with seq := { x.seq with platenPhase := .owed } } := if_pos moves
    rw [owes] at e
    exact ⟨e.seq, e.motion, e.volumes, e.handed (handsOver_same rfl rfl rfl)⟩
  · have offers : beginRaise sw (withPanel t n x) = withPanel t n { x with
        seq := { x.seq with platenPhase := .offered }
        motion := { x.motion with
          switches := sw, platen := some { down := false, ramp := newRamp (mechOf x).platenMax 7 } } } := by
      have rests : ¬ (withPanel t n x).motion.platen.isSome = true := by
        rw [show (withPanel t n x).motion.platen = Option.none from none]
        decide
      have open_ : ¬ soughtClosed false sw = true := by simp [soughtClosed, up, contact]
      rw [beginRaise, if_neg rests, if_neg open_]
      rfl
    rw [offers] at e
    exact ⟨e.seq, e.volumes, e.handed (handsOver_same rfl rfl rfl), e.motion⟩
  · have closes : beginRaise sw (withPanel t n x) =
        raiseEnded .limit sw (withPanel t n { x with motion := platenEnded .limit 0 sw x.motion }) := by
      have rests : ¬ (withPanel t n x).motion.platen.isSome = true := by
        rw [show (withPanel t n x).motion.platen = Option.none from none]
        decide
      have closed : soughtClosed false sw = true := by simpa [soughtClosed] using sought
      rw [beginRaise, if_neg rests, if_pos closed]
      rfl
    rw [closes] at e
    exact raiseEnded_raised (x := { x with motion := platenEnded .limit 0 sw x.motion }) busy e

/-! ## The arm reached (R60 to R66) -/

theorem armReached_arrives (e : Ends (armReached sw (withPanel t n x)) u) : ArmArrives sw x u := by
  refine ⟨fun reaching => ?_, fun sweeping => ?_, fun returning => ?_, fun homing => ?_⟩
  · have busy : (withPanel t n x).seq.arm ≠ .idle := by rw [show (withPanel t n x).seq.arm = _ from reaching]; decide
    have grips : armReached sw (withPanel t n x) = withPanel t n { x with seq := { x.seq with
        arm := .gripping, armPhase := .none, platenPhase := .none, retries := 0, vacuum := true
        timer := some { kind := .grip, due := x.ms + BitVec.ofNat 32 (mechOf x).gripTime } } } := by
      rw [armReached, show (withPanel t n x).seq.arm = _ from reaching]
      simp only [enterGripping, setArm_eq .gripping (.inl busy)]
      rfl
    rw [grips] at e
    exact ⟨e.motion, e.handed (handsOver_same rfl rfl rfl), e.seq⟩
  · have busy : (withPanel t n x).seq.arm ≠ .idle := by rw [show (withPanel t n x).seq.arm = _ from sweeping]; decide
    have releases : armReached sw (withPanel t n x) = withPanel t n { x with seq := { x.seq with
        arm := .releasing, armPhase := .none, platenPhase := .none, vacuum := false
        timer := some { kind := .release, due := x.ms + BitVec.ofNat 32 (mechOf x).releaseTime } } } := by
      rw [armReached, show (withPanel t n x).seq.arm = _ from sweeping]
      simp only [enterReleasing, setArm_eq .releasing (.inl busy)]
      rfl
    rw [releases] at e
    exact ⟨e.motion, e.handed (handsOver_same rfl rfl rfl), e.seq⟩
  · have busy : (withPanel t n x).seq.arm ≠ .idle := by rw [show (withPanel t n x).seq.arm = _ from returning]; decide
    have raises : armReached sw (withPanel t n x) = beginRaise sw (withPanel t n { x with seq := { x.seq with
        arm := .raising, armPhase := .none, platenPhase := .none } }) := by
      rw [armReached, show (withPanel t n x).seq.arm = _ from returning]
      simp only [setArm_eq .raising (.inl busy)]
      rfl
    rw [raises] at e
    exact beginRaise_begins (x := { x with seq := { x.seq with arm := .raising, armPhase := .none, platenPhase := .none } })
      nofun e
  · have raises : armReached sw (withPanel t n x) = beginRaise sw (withPanel t n { x with seq := { x.seq with
        homing := .platenRaise, armPhase := .none } }) := by
      rw [armReached, show (withPanel t n x).seq.arm = _ from homing]
      rfl
    rw [raises] at e
    exact beginRaise_begins (x := { x with seq := { x.seq with homing := .platenRaise, armPhase := .none } })
      (by rw [show _ = _ from homing]; decide) e

/-! ## The slip check and the moves of the arm (R57, R58) -/

theorem slipCheck_checked (busy : Busy x.seq) (e : Ends (slipCheck sw (withPanel t n x)) u) : SlipChecked sw x u := by
  refine ⟨fun lost => ?_, fun f fused => ⟨fun near => ?_, fun missed corrected => ?_, fun missed fresh still => ?_,
    fun missed fresh moves hangle htarget => ?_⟩⟩
  · have faults : slipCheck sw (withPanel t n x) = enterFaulted .noPosition (withPanel t n x) := by
      rw [slipCheck, show (withPanel t n x).position.fused = _ from lost]
    exact enterFaulted_faulted .noPosition busy (faults ▸ e)
  all_goals
    have checks : slipCheck sw (withPanel t n x) =
        if withinTolerance x f.angle then armReached sw (withPanel t n x)
        else if x.seq.corrections = 0 then
          if moveSteps (mechOf x).spr f.angle x.seq.target = 0 then
            enterFaulted (.slip x.seq.target f.angle) (withPanel t n { x with seq := { x.seq with corrections := 1 } })
          else offerArm f.angle (moveSteps (mechOf x).spr f.angle x.seq.target) 0
            (withPanel t n { x with seq := { x.seq with corrections := 1 } })
        else enterFaulted (.slip x.seq.target f.angle) (withPanel t n x) := by
      rw [slipCheck, show (withPanel t n x).position.fused = _ from fused]
      rfl
    rw [checks] at e
  · rw [if_pos (by simpa [withinTolerance] using near)] at e
    exact armReached_arrives e
  all_goals rw [if_neg (by simpa [withinTolerance] using missed)] at e
  · rw [if_neg corrected] at e
    exact enterFaulted_faulted (.slip x.seq.target f.angle) busy e
  · rw [if_pos fresh, if_pos still] at e
    exact enterFaulted_faulted (x := { x with seq := { x.seq with corrections := 1 } }) (.slip x.seq.target f.angle) busy e
  · rw [if_pos fresh, if_neg moves] at e
    obtain ⟨offered, -, handed⟩ :=
      offerArm_offered (x := { x with seq := { x.seq with corrections := 1 } }) hangle htarget moves e
    exact ⟨offered, handed⟩

/-- R57: the arm is told to go to an angle. -/
theorem beginArm_made {target top : Nat} {q : Sequencer} (htarget : target < 4096) (busy : Busy q)
    (e : Ends (beginArm target top sw (withPanel t n { x with seq := q })) u) : MoveMade target top sw x q u := by
  refine ⟨fun moves => ?_, fun rests lost => ?_, fun f rests fused hangle => ⟨fun some_ => ?_, fun none_ => ?_⟩⟩
  · have owes : beginArm target top sw (withPanel t n { x with seq := q }) =
        withPanel t n { x with seq := { q with target := target, top := top, armPhase := .owed } } := if_pos moves
    rw [owes] at e
    exact ⟨e.seq, e.motion, e.volumes, e.handed (handsOver_same rfl rfl rfl)⟩
  all_goals
    have makes : beginArm target top sw (withPanel t n { x with seq := q }) =
        makeArmMove sw (withPanel t n { x with seq := { q with target := target, top := top } }) :=
      if_neg (by rw [show (withPanel t n { x with seq := q }).motion.arm = none from rests]; decide)
    rw [makes] at e
  · have faults : makeArmMove sw (withPanel t n { x with seq := { q with target := target, top := top } }) =
        enterFaulted .noPosition (withPanel t n { x with seq := { q with target := target, top := top } }) := by
      rw [makeArmMove, show (withPanel t n { x with seq := _ }).position.fused = _ from lost]
    exact enterFaulted_faulted (x := { x with seq := { q with target := target, top := top } }) .noPosition busy (faults ▸ e)
  all_goals
    have goes : makeArmMove sw (withPanel t n { x with seq := { q with target := target, top := top } }) =
        if moveSteps (mechOf x).spr f.angle target = 0 then
          slipCheck sw (withPanel t n { x with seq := { q with target := target, top := top, corrections := 0 } })
        else offerArm f.angle (moveSteps (mechOf x).spr f.angle target) top
          (withPanel t n { x with seq := { q with target := target, top := top, corrections := 0 } }) := by
      rw [makeArmMove, show (withPanel t n { x with seq := _ }).position.fused = _ from fused]
      rfl
    rw [goes] at e
  · rw [if_neg some_] at e
    exact offerArm_offered (x := { x with seq := { q with target := target, top := top, corrections := 0 } })
      hangle htarget some_ e
  · rw [if_pos none_] at e
    exact slipCheck_checked (x := { x with seq := { q with target := target, top := top, corrections := 0 } }) busy e

/-! ## The platen lowered (R59, R70) -/

theorem lowerEnded_ends (within : AnglesWithin x) (e : Ends (lowerEnded .limit sw (withPanel t n x)) u) :
    LowerEnded sw x u := by
  obtain ⟨park, pickup, drop⟩ := within
  refine ⟨fun homing => ?_, fun turn lowering held => ?_⟩
  · have begins : lowerEnded .limit sw (withPanel t n x) = beginArm (mechOf x).park 2 sw
        (withPanel t n { x with seq := { x.seq with homing := .armToPark, platenPhase := .none } }) := if_pos homing
    rw [begins] at e
    exact beginArm_made park ⟨by simp [homing], by simp [homing]⟩ e
  · have other : (withPanel t n x).seq.arm ≠ .homing := by rw [show (withPanel t n x).seq.arm = _ from lowering]; decide
    have busy : (withPanel t n x).seq.arm ≠ .idle := by rw [show (withPanel t n x).seq.arm = _ from lowering]; decide
    have begins : lowerEnded .limit sw (withPanel t n x) =
        beginArm (if turn.forward then (mechOf x).pickup else (mechOf x).drop) 7 sw
          (withPanel t n { x with seq := { x.seq with arm := .reaching, armPhase := .none, platenPhase := .none } }) := by
      have forward : turnForward (withPanel t n x) = turn.forward := by
        rw [turnForward, show (withPanel t n x).seq.turn = _ from held]
      calc lowerEnded .limit sw (withPanel t n x)
          = enterReaching sw (withPanel t n x) := if_neg other
        _ = _ := by
          rw [enterReaching, setArm_eq .reaching (.inl busy), forward]
          rfl
    rw [begins] at e
    refine beginArm_made ?_ ⟨nofun, nofun⟩ e
    split
    · exact pickup
    · exact drop

theorem beginLower_owes (moves : y.motion.platen.isSome) :
    beginLower sw y = { y with seq := { y.seq with platenPhase := .owed } } := if_pos moves

theorem beginLower_offers (rests : y.motion.platen = none) (above : sw.down = false) :
    beginLower sw y = { y with
      seq := { y.seq with platenPhase := .offered }
      motion := { y.motion with
        switches := sw, platen := some { down := true, ramp := newRamp (mechOf y).platenMax 7 } } } := by
  have sought : ¬ soughtClosed true sw = true := by simp [soughtClosed, above]
  rw [beginLower, if_neg (by simp [rests]), if_neg sought]
  rfl

theorem beginLower_finds (rests : y.motion.platen = none) (below : sw.down = true) :
    beginLower sw y = lowerEnded .limit sw { y with motion := platenEnded .limit 0 sw y.motion } := by
  have sought : soughtClosed true sw = true := by simp [soughtClosed, below]
  rw [beginLower, if_neg (by simp [rests]), if_pos sought]
  rfl

end

end Sys2Proof.Machine
end

section
/-! SUPPORT. A step of either move engine (3.1, 3.2, R56), and what it leaves of the arm and the platen. -/
namespace Sys2Proof.Machine

/-! ## The parts that a sequencer under way changes -/

section
variable {s : State} (busy : s.seq.arm ≠ .idle)
include busy

theorem setArm_moves (a : ArmState) : Changes [.seq] s (setArm a s) := by
  rw [setArm_eq a (.inl busy)]
  exact setSeq_changes _ s

theorem enterFaulted_moves (c : FaultCause) : Changes moveParts s (enterFaulted c s) := by
  have cause := latchCause_changes c s
  have running : (latchCause c s).seq.arm ≠ .idle := by rwa [cause.get .seq (by decide)]
  refine Changes.ite (.refl _ s) ?_
  rw [cradleStops .faulted running]
  exact (cause.mono (by decide)).trans ((endTurn_cradleStopped .faulted _ _ _).changes.mono (by decide))

theorem afterRaise_moves : Changes moveParts s (afterRaise s) := by
  rw [afterRaise_eq busy]
  exact Changes.ite ((setSeq_changes _ s).mono (by decide)) ((setSeq_changes _ s).mono (by decide))

theorem raiseEnded_moves (k : EndKind) (sw : Switches) : Changes moveParts s (raiseEnded k sw s) := by
  cases k with
  | limit =>
    have flag := raisedFlag_changes sw s
    exact (flag.mono (by decide)).trans (afterRaise_moves (by rwa [flag.get .seq (by decide)]))
  | max => exact enterFaulted_moves busy .platen
  | count => exact .refl _ s
  | stopped => exact .refl _ s

theorem beginRaise_moves (sw : Switches) : Changes moveParts s (beginRaise sw s) := by
  unfold beginRaise
  refine Changes.ite ((setSeq_changes _ s).mono (by decide)) (Changes.ite ?_ ?_)
  · exact (((sampleSwitches_changes sw s).trans (endPlaten_changes _ _ _)).mono (by decide)).trans
      (raiseEnded_moves (by exact busy) _ _)
  · exact (((setSeq_changes _ s).mono (by decide)).trans ((sampleSwitches_changes _ _).mono (by decide))).trans
      ((takePlatenMove_changes _ _).mono (by decide))

theorem armReached_moves (sw : Switches) : Changes moveParts s (armReached sw s) := by
  unfold armReached
  split
  · exact (((setArm_moves busy _).trans (setSeq_changes _ _)).trans (beginGrip_changes _)).mono (by decide)
  · exact (((setArm_moves busy _).trans (setVacuum_changes _ _)).trans (startTimer_changes _ _ _)).mono (by decide)
  · exact ((setArm_moves busy _).mono (by decide)).trans (beginRaise_moves (by rw [setArm_seq]; nofun) sw)
  · exact ((setSeq_changes _ s).mono (by decide)).trans (beginRaise_moves (by exact busy) sw)
  all_goals exact .refl _ s

theorem slipCheck_moves (sw : Switches) : Changes moveParts s (slipCheck sw s) := by
  unfold slipCheck
  split
  · exact enterFaulted_moves (by exact busy) _
  · refine Changes.ite (armReached_moves (by exact busy) sw) (Changes.ite ?_ (enterFaulted_moves (by exact busy) _))
    exact Changes.ite (((setSeq_changes _ s).mono (by decide)).trans (enterFaulted_moves (by exact busy) _))
      (((setSeq_changes _ s).mono (by decide)).trans ((offerArm_changes _ _ _ _).mono (by decide)))

theorem makeArmMove_moves (sw : Switches) : Changes moveParts s (makeArmMove sw s) := by
  unfold makeArmMove
  split
  · exact enterFaulted_moves (by exact busy) _
  · exact Changes.ite (((setSeq_changes _ s).mono (by decide)).trans (slipCheck_moves (by exact busy) sw))
      (((setSeq_changes _ s).mono (by decide)).trans ((offerArm_changes _ _ _ _).mono (by decide)))

theorem beginArm_moves (target top : Nat) (sw : Switches) : Changes moveParts s (beginArm target top sw s) :=
  Changes.ite (((setSeq_changes _ s).trans (setSeq_changes _ _)).mono (by decide))
    (((setSeq_changes _ s).mono (by decide)).trans (makeArmMove_moves (by exact busy) sw))

theorem enterReaching_moves (sw : Switches) : Changes moveParts s (enterReaching sw s) :=
  ((setArm_moves busy _).mono (by decide)).trans (beginArm_moves (by rw [setArm_seq]; nofun) _ _ sw)

theorem enterReturning_moves (top : Nat) (sw : Switches) : Changes moveParts s (enterReturning top sw s) :=
  ((setArm_moves busy _).mono (by decide)).trans (beginArm_moves (by rw [setArm_seq]; nofun) _ _ sw)

theorem enterSweeping_moves (sw : Switches) : Changes moveParts s (enterSweeping sw s) :=
  (((setArm_moves busy _).trans (setSeq_changes _ _)).mono (by decide)).trans
    (beginArm_moves (by rw [setSeq_seq, setArm_seq]; nofun) _ _ sw)

theorem lowerEnded_moves (k : EndKind) (sw : Switches) : Changes moveParts s (lowerEnded k sw s) := by
  cases k with
  | limit =>
    exact Changes.ite (((setSeq_changes _ s).mono (by decide)).trans (beginArm_moves (by exact busy) _ _ sw))
      (enterReaching_moves (by exact busy) sw)
  | max => exact enterFaulted_moves (by exact busy) .platen
  | count => exact .refl _ s
  | stopped => exact .refl _ s

theorem beginLower_moves (sw : Switches) : Changes moveParts s (beginLower sw s) := by
  unfold beginLower
  refine Changes.ite ((setSeq_changes _ s).mono (by decide)) (Changes.ite ?_ ?_)
  · exact (((sampleSwitches_changes sw s).trans (endPlaten_changes _ _ _)).mono (by decide)).trans
      (lowerEnded_moves (by exact busy) _ _)
  · exact (((setSeq_changes _ s).mono (by decide)).trans ((sampleSwitches_changes _ _).mono (by decide))).trans
      ((takePlatenMove_changes _ _).mono (by decide))

end

/-! ## The rung (R53) -/

theorem reviewRung_stepTaken (top : Nat) (r : Ramp) : reviewRung top (stepTaken r) = steppedRamp top r := by
  simp only [reviewRung, stepTaken, steppedRamp, reviewed, remaining, gt_iff_lt]
  split
  · rfl
  · split
    · rfl
    · split <;> rfl

theorem remaining_stepTaken (r : Ramp) : remaining (stepTaken r) = r.requested - (r.taken + 1) := rfl

theorem armTop_eq (s : State) (r : Ramp) :
    armTop s r = if s.position.heads.a.up = false ∨ s.position.heads.b.up = false then min r.top 3 else r.top := by
  have down : eitherDown s = true ↔ s.position.heads.a.up = false ∨ s.position.heads.b.up = false := by
    simp [eitherDown]
  exact ite_congr (propext down) (fun _ => rfl) fun _ => rfl

theorem soughtClosed_iff (down : Bool) (sw : Switches) :
    soughtClosed down sw = true ↔ if down = true then sw.down = true else sw.up = true ∨ sw.contact = true := by
  cases down <;> simp [soughtClosed]

/-! ## The engines (R52 to R56) -/

section
variable {s : State} {sw : Switches} {arm : ArmMove} {platen : PlatenMove}

theorem busy_of_moving (moving : Moving s) : Busy s.seq := ⟨moving.1, moving.2.2⟩

/-- The state in which the ARM engine has ended and no end of it is awaited. -/
def armRested (k : EndKind) (taken : Nat) (s : State) : State :=
  { s with motion := armEnded k taken s.motion, seq := { s.seq with armPhase := .none } }

/-- The state in which the PLATEN engine has ended and no end of it is awaited. -/
def platenRested (k : EndKind) (taken : Nat) (sampled : Switches) (s : State) : State :=
  { s with motion := platenEnded k taken sampled s.motion, seq := { s.seq with platenPhase := .none } }

theorem armRested_changes (k : EndKind) (taken : Nat) (s : State) : Changes [.seq, .motion] s (armRested k taken s) := by
  intro p hp
  cases p <;> simp_all [Part.same, armRested]

theorem platenRested_changes (k : EndKind) (taken : Nat) (sampled : Switches) (s : State) :
    Changes [.seq, .motion] s (platenRested k taken sampled s) := by
  intro p hp
  cases p <;> simp_all [Part.same, platenRested]

theorem armStep_goesOn (moves : s.motion.arm = some arm)
    (on : ¬ (arm.ramp.stopOrdered = true ∨ arm.ramp.requested ≤ arm.ramp.taken + 1)) :
    armStep sw s = { s with motion := { s.motion with
      arm := some { arm with ramp := steppedRamp (armTop s arm.ramp) arm.ramp } } } := by
  obtain ⟨unstopped, left⟩ := not_or.mp on
  have more : ¬ remaining (stepTaken arm.ramp) = 0 := by
    rw [remaining_stepTaken]
    omega
  simp only [armStep, moves]
  rw [if_neg (by exact unstopped), if_neg more, reviewRung_stepTaken]
  rfl

theorem armStep_ends (moves : s.motion.arm = some arm)
    (ends : arm.ramp.stopOrdered = true ∨ arm.ramp.requested ≤ arm.ramp.taken + 1) :
    armStep sw s =
      armEnds (if arm.ramp.stopOrdered then .stopped else .count) (arm.ramp.taken + 1) sw s := by
  simp only [armStep, moves]
  by_cases stopped : arm.ramp.stopOrdered = true
  · rw [if_pos (by exact stopped), if_pos stopped]
    rfl
  · have none : remaining (stepTaken arm.ramp) = 0 := by
      have few := ends.resolve_left stopped
      rw [remaining_stepTaken]
      omega
    rw [if_neg (by exact stopped), if_neg stopped, if_pos none]
    rfl

/-- The end of the ARM engine, by what the sequencer awaits of it. -/
theorem armEnds_eq (k : EndKind) (taken : Nat) (sw : Switches) (s : State) :
    (s.seq.armPhase = .none ∨ (s.seq.armPhase = .offered ∧ k = .stopped) → armEnds k taken sw s = armRested k taken s)
      ∧ (s.seq.armPhase = .owed → armEnds k taken sw s = makeArmMove sw (armRested k taken s))
      ∧ (s.seq.armPhase = .offered → k = .count → armEnds k taken sw s = slipCheck sw (armRested k taken s)) := by
  have report : armEnds k taken sw s = armReport { kind := k, taken := taken } sw (endArm k taken s) := rfl
  have phase : (endArm k taken s).seq.armPhase = s.seq.armPhase := rfl
  refine ⟨fun idle => ?_, fun owed => ?_, fun offered counted => ?_⟩
  · rcases idle with none | ⟨offered, rfl⟩
    · have kept : { s.seq with armPhase := .none } = s.seq := by rw [← none]
      rw [report, armReport, phase, none, armRested, kept]
      rfl
    · rw [report, armReport, phase, offered]
      rfl
  · rw [report, armReport, phase, owed]
    rfl
  · subst counted
    rw [report, armReport, phase, offered]
    rfl

theorem armSteps (sw : Switches) (s : State) : ArmSteps sw s := by
  intro m moves
  refine ⟨settle s (armStep sw s), rfl, fun on => ?_, fun ends idle => ?_, fun ends moving within owed => ?_,
    fun ends moving unstopped offered => ?_⟩
  · rw [armStep_goesOn moves on, armTop_eq]
    exact ⟨settle_get s _ .motion (by decide), (setMotion_changes _ s).settle_only⟩
  all_goals rw [armStep_ends moves ends]
  · obtain ⟨rests, -, -⟩ := armEnds_eq (if m.ramp.stopOrdered then .stopped else .count) (m.ramp.taken + 1) sw s
    rw [rests (idle.imp id fun ⟨offered, stopped⟩ => ⟨offered, if_pos stopped⟩)]
    exact ⟨settle_get s _ .seq (by decide), settle_get s _ .motion (by decide), (armRested_changes _ _ s).settle_only⟩
  · obtain ⟨-, makes, -⟩ := armEnds_eq (if m.ramp.stopOrdered then .stopped else .count) (m.ramp.taken + 1) sw s
    rw [makes owed]
    refine ⟨?_, (((armRested_changes _ _ s).mono (by decide)).trans
      (makeArmMove_moves (s := armRested _ _ s) moving.1 sw)).settle_only⟩
    refine beginArm_made (t := s.ret.tone) (n := s.resumeLine) (x := armRested _ _ s) within
      (busy_of_moving moving) ?_
    exact Ends.settle s _
  · obtain ⟨-, -, checks⟩ := armEnds_eq (if m.ramp.stopOrdered then .stopped else .count) (m.ramp.taken + 1) sw s
    rw [checks offered (if_neg (by simp [unstopped]))]
    exact ⟨slipCheck_checked (t := s.ret.tone) (n := s.resumeLine) (x := armRested _ _ s) (busy_of_moving moving)
      (Ends.settle s _), (((armRested_changes _ _ s).mono (by decide)).trans
      (slipCheck_moves (s := armRested _ _ s) moving.1 sw)).settle_only⟩

/-! The PLATEN engine. -/

theorem lowersPlaten_iff (s : State) :
    lowersPlaten s = true ↔ s.seq.arm = .lowering ∨ (s.seq.arm = .homing ∧ s.seq.homing = .platenDown) :=
  decide_eq_true_iff

theorem platenStep_stops (moves : s.motion.platen = some platen) (stopped : platen.ramp.stopOrdered = true) :
    platenStep sw s = platenEnds .stopped (platen.ramp.taken + 1) sw s := by
  simp only [platenStep, moves]
  exact if_pos stopped

theorem platenStep_finds (moves : s.motion.platen = some platen) (unstopped : platen.ramp.stopOrdered = false)
    (sought : soughtClosed platen.down sw = true) :
    platenStep sw s = platenEnds .limit (platen.ramp.taken + 1) sw (sampleSwitches sw s) := by
  simp only [platenStep, moves]
  rw [if_neg (by simp [stepTaken, unstopped]), if_pos sought]
  rfl

theorem platenStep_counts (moves : s.motion.platen = some platen) (unstopped : platen.ramp.stopOrdered = false)
    (unsought : ¬ soughtClosed platen.down sw = true) (counted : platen.ramp.requested ≤ platen.ramp.taken + 1) :
    platenStep sw s = platenEnds .max (platen.ramp.taken + 1) sw (sampleSwitches sw s) := by
  simp only [platenStep, moves]
  rw [if_neg (by simp [stepTaken, unstopped]), if_neg unsought, if_pos (by rw [remaining_stepTaken]; omega)]
  rfl

theorem platenStep_goesOn (moves : s.motion.platen = some platen) (unstopped : platen.ramp.stopOrdered = false)
    (unsought : ¬ soughtClosed platen.down sw = true) (left : ¬ platen.ramp.requested ≤ platen.ramp.taken + 1) :
    platenStep sw s = { s with motion := { s.motion with
      switches := sw, platen := some { platen with ramp := steppedRamp platen.ramp.top platen.ramp } } } := by
  simp only [platenStep, moves]
  rw [if_neg (by simp [stepTaken, unstopped]), if_neg unsought, if_neg (by rw [remaining_stepTaken]; omega),
    reviewRung_stepTaken]
  rfl

/-- The end of the PLATEN engine, by what the sequencer awaits of it; `s` has its switches as sampled. -/
theorem platenEnds_eq (k : EndKind) (taken : Nat) (sw : Switches) (s : State) :
    (s.seq.platenPhase = .none →
        platenEnds k taken sw s = { s with motion := platenEnded k taken s.motion.switches s.motion })
      ∧ (s.seq.platenPhase = .owed → platenEnds k taken sw s =
        if lowersPlaten s then beginLower sw (platenRested k taken s.motion.switches s)
        else beginRaise sw (platenRested k taken s.motion.switches s))
      ∧ (s.seq.platenPhase = .offered → platenEnds k taken sw s =
        if lowersPlaten s then lowerEnded k sw (platenRested k taken s.motion.switches s)
        else raiseEnded k s.motion.switches (platenRested k taken s.motion.switches s)) := by
  have report : platenEnds k taken sw s =
      platenReport { kind := k, taken := taken, switches := s.motion.switches } sw (endPlaten k taken s) := rfl
  have phase : (endPlaten k taken s).seq.platenPhase = s.seq.platenPhase := rfl
  refine ⟨fun none => ?_, fun owed => ?_, fun offered => ?_⟩
  · rw [report, platenReport, phase, none]
    rfl
  · rw [report, platenReport, phase, owed]
    rfl
  · rw [report, platenReport, phase, offered]
    rfl

theorem platenRested_of_none {k : EndKind} {taken : Nat} {sampled : Switches} (none : s.seq.platenPhase = .none) :
    platenRested k taken sampled s = { s with motion := platenEnded k taken sampled s.motion } := by
  have kept : { s.seq with platenPhase := .none } = s.seq := by rw [← none]
  rw [platenRested, kept]

theorem platenStep_stopped (moves : s.motion.platen = some platen) (stopped : platen.ramp.stopOrdered = true)
    (awaited : s.seq.platenPhase ≠ .owed) :
    platenStep sw s = platenRested .stopped (platen.ramp.taken + 1) s.motion.switches s := by
  obtain ⟨idle, -, ends⟩ := platenEnds_eq .stopped (platen.ramp.taken + 1) sw s
  rw [platenStep_stops moves stopped]
  cases phase : s.seq.platenPhase with
  | none => rw [idle phase, platenRested_of_none phase]
  | owed => exact absurd phase awaited
  | offered =>
    rw [ends phase]
    split <;> rfl

/-- A platen engine stopped while a move is owed: the move begins. -/
theorem platenStep_owed (moves : s.motion.platen = some platen) (stopped : platen.ramp.stopOrdered = true)
    (owed : s.seq.platenPhase = .owed) :
    platenStep sw s =
      if lowersPlaten s then beginLower sw (platenRested .stopped (platen.ramp.taken + 1) s.motion.switches s)
      else beginRaise sw (platenRested .stopped (platen.ramp.taken + 1) s.motion.switches s) := by
  rw [platenStep_stops moves stopped, (platenEnds_eq _ _ sw s).2.1 owed]

theorem platenSteps (sw : Switches) (s : State) : PlatenSteps sw s := by
  intro m moves
  have sought := soughtClosed_iff m.down sw
  have lowers := lowersPlaten_iff s
  obtain ⟨idleLimit, -, endsLimit⟩ := platenEnds_eq .limit (m.ramp.taken + 1) sw (sampleSwitches sw s)
  obtain ⟨idleMax, -, endsMax⟩ := platenEnds_eq .max (m.ramp.taken + 1) sw (sampleSwitches sw s)
  have rests (k : EndKind) : Changes moveParts s (platenRested k (m.ramp.taken + 1) sw s) :=
    (platenRested_changes _ _ _ s).mono (by decide)
  refine ⟨settle s (platenStep sw s), rfl, fun unstopped unsought left => ?_, fun stopped awaited => ?_,
    fun unstopped ended none => ?_, fun unstopped closed offered moving => ⟨?_, fun within low => ?_, fun high => ?_⟩,
    fun unstopped unsought counted offered moving => ?_, fun stopped owed moving => ⟨?_, fun low above => ?_,
    fun low below within => ?_, fun high => ?_⟩⟩
  · rw [platenStep_goesOn moves unstopped (mt sought.mp unsought) left]
    exact ⟨settle_get s _ .motion (by decide), (setMotion_changes _ s).settle_only⟩
  · rw [platenStep_stopped moves stopped awaited]
    exact ⟨settle_get s _ .seq (by decide), settle_get s _ .motion (by decide), (platenRested_changes _ _ _ s).settle_only⟩
  · have kind : (if m.down then (if sw.down then EndKind.limit else .max)
        else (if sw.up || sw.contact then .limit else .max)) = if soughtClosed m.down sw then .limit else .max := by
      cases down : m.down <;> simp [soughtClosed]
    simp only [kind]
    by_cases closed : soughtClosed m.down sw = true
    · rw [platenStep_finds moves unstopped closed, idleLimit none, if_pos closed]
      exact ⟨settle_get s _ .motion (by decide), (setMotion_changes _ s).settle_only⟩
    · rw [platenStep_counts moves unstopped closed (ended.resolve_left (mt sought.mpr closed)), idleMax none, if_neg closed]
      exact ⟨settle_get s _ .motion (by decide), (setMotion_changes _ s).settle_only⟩
  · rw [platenStep_finds moves unstopped (sought.mpr closed), endsLimit offered]
    exact (Changes.ite ((rests .limit).trans (lowerEnded_moves (s := platenRested _ _ _ s) moving.1 .limit sw))
      ((rests .limit).trans (raiseEnded_moves (s := platenRested _ _ _ s) moving.1 .limit sw))).settle_only
  · rw [platenStep_finds moves unstopped (sought.mpr closed), endsLimit offered, if_pos (by exact lowers.mpr low)]
    exact lowerEnded_ends (t := s.ret.tone) (n := s.resumeLine) (x := platenRested _ _ _ s) within (Ends.settle s _)
  · rw [platenStep_finds moves unstopped (sought.mpr closed), endsLimit offered, if_neg (by exact mt lowers.mp high)]
    exact raiseEnded_raised (t := s.ret.tone) (n := s.resumeLine) (x := platenRested _ _ _ s) moving.1 (Ends.settle s _)
  · have faults : platenEnds .max (m.ramp.taken + 1) sw (sampleSwitches sw s) =
        enterFaulted .platen (platenRested .max (m.ramp.taken + 1) sw s) := (endsMax offered).trans (ite_self _)
    rw [platenStep_counts moves unstopped (mt sought.mp unsought) counted, faults]
    exact ⟨enterFaulted_faulted (t := s.ret.tone) (n := s.resumeLine) (x := platenRested _ _ _ s) .platen
      (busy_of_moving moving) (Ends.settle s _),
      ((rests .max).trans (enterFaulted_moves (s := platenRested _ _ _ s) moving.1 .platen)).settle_only⟩
  all_goals
    have begins := platenStep_owed (sw := sw) moves stopped owed
    rw [begins]
  · have rests : Changes moveParts s (platenRested .stopped (m.ramp.taken + 1) s.motion.switches s) :=
      (platenRested_changes _ _ _ s).mono (by decide)
    exact (Changes.ite (rests.trans (beginLower_moves (s := platenRested _ _ _ s) moving.1 sw))
      (rests.trans (beginRaise_moves (s := platenRested _ _ _ s) moving.1 sw))).settle_only
  · rw [if_pos (lowers.mpr low), beginLower_offers (y := platenRested _ _ _ s) rfl above]
    exact ⟨settle_get s _ .seq (by decide), settle_get s _ .motion (by decide)⟩
  · rw [if_pos (lowers.mpr low), beginLower_finds (y := platenRested _ _ _ s) rfl below]
    exact lowerEnded_ends (t := s.ret.tone) (n := s.resumeLine)
      (x := { platenRested _ _ _ s with motion := platenEnded .limit 0 sw _ }) within (Ends.settle s _)
  · rw [if_neg (mt lowers.mp high)]
    exact beginRaise_begins (t := s.ret.tone) (n := s.resumeLine) (x := platenRested _ _ _ s) moving.1 (Ends.settle s _)

end

end Sys2Proof.Machine
end

section
/-! SUPPORT. The turn timers (4.3 to 4.6) and the RESUME button (4.5). -/
namespace Sys2Proof.Machine

section
variable {s : State} {sw : Switches} {leaf multi : Bool}

theorem timerExpired_iff (k : TimerKind) (s : State) : timerExpired k s = true ↔ Expired k s := by
  cases timer : s.seq.timer <;> simp [timerExpired, Expired, timer]

/-! ## The moves that the timers begin -/

theorem enterReturning_eq (busy : s.seq.arm ≠ .idle) (top : Nat) (sw : Switches) :
    enterReturning top sw s =
      beginArm (mechOf s).park top sw
        { s with seq := { s.seq with arm := .returning, armPhase := .none, platenPhase := .none } } := by
  rw [enterReturning, setArm_eq .returning (.inl busy)]

theorem enterSweeping_eq {turn : Turn} (busy : s.seq.arm ≠ .idle) (held : s.seq.turn = some turn) (sw : Switches) :
    enterSweeping sw s =
      beginArm (if turn.forward then (mechOf s).drop else (mechOf s).pickup) 7 sw
        { s with seq := { s.seq with
            arm := .sweeping, armPhase := .none, platenPhase := .none, lowReads := 0, nextLeaf := s.ms } } := by
  have forward : turnForward s = turn.forward := by rw [turnForward, held]
  rw [enterSweeping, setArm_eq .sweeping (.inl busy), forward]
  rfl

/-! ## GRIPPING (R62, R63) -/

theorem gripExpired_retries (failed : ¬ (leaf = true ∧ ¬ multi = true)) (left : s.seq.retries < (mechOf s).gripRetries) :
    gripExpired leaf multi sw s = { s with seq := { s.seq with
      vacuum := false, retries := s.seq.retries + 1
      timer := some { kind := .release, due := s.ms + BitVec.ofNat 32 (mechOf s).releaseTime } } } := by
  rw [gripExpired, if_neg failed, if_pos left]
  rfl

theorem gripExpired_fails (busy : s.seq.arm ≠ .idle) (failed : ¬ (leaf = true ∧ ¬ multi = true))
    (spent : (mechOf s).gripRetries ≤ s.seq.retries) :
    gripExpired leaf multi sw s = beginArm (mechOf s).park 7 sw { s with seq := { s.seq with
      arm := .returning, vacuum := false, timer := none, armPhase := .none, platenPhase := .none
      outcome := if leaf then .doubleLeaf else .noLeaf } } := by
  have double : (leaf && multi) = leaf := by
    cases leaf <;> cases multi <;> simp_all
  rw [gripExpired, if_neg failed, if_neg (Nat.not_lt.mpr spent), gripFailed, double, enterReturning_eq (by exact busy)]
  rfl

theorem gripExpired_sweeps {turn : Turn} (busy : s.seq.arm ≠ .idle) (held : s.seq.turn = some turn)
    (one : leaf = true ∧ ¬ multi = true) :
    gripExpired leaf multi sw s = beginArm (if turn.forward then (mechOf s).drop else (mechOf s).pickup) 7 sw
      { s with seq := { s.seq with
        arm := .sweeping, timer := none, lowReads := 0, nextLeaf := s.ms, armPhase := .none, platenPhase := .none } } := by
  rw [gripExpired, if_pos one, enterSweeping_eq (by exact busy) (by exact held)]
  rfl

theorem gripExpired_moves (busy : s.seq.arm ≠ .idle) (leaf multi : Bool) (sw : Switches) :
    Changes moveParts s (gripExpired leaf multi sw s) := by
  refine Changes.ite (((stopTimer_changes s).mono (by decide)).trans (enterSweeping_moves (by exact busy) sw))
    (Changes.ite (((setSeq_changes _ s).trans (startTimer_changes _ _ _)).mono (by decide)) ?_)
  exact ((setSeq_changes _ s).mono (by decide)).trans (enterReturning_moves (by exact busy) 7 sw)

/-! ## SWEEPING (R64) -/

theorem leafDropped_returns (busy : s.seq.arm ≠ .idle) :
    leafDropped sw s = beginArm (mechOf s).park 7 sw { s with
      motion := { s.motion with arm := (hardStopped s.motion).arm }
      seq := { s.seq with
        arm := .returning, vacuum := false, outcome := .leafDropped, armPhase := .none, platenPhase := .none } } := by
  rw [leafDropped, enterReturning_eq (by exact busy)]
  rfl

theorem leafDropped_moves (busy : s.seq.arm ≠ .idle) (sw : Switches) : Changes moveParts s (leafDropped sw s) :=
  (((stopArm_changes s).mono (by decide)).trans ((setSeq_changes _ _).mono (by decide))).trans
    (enterReturning_moves (by exact busy) 7 sw)

theorem sweepReads (leaf : Bool) (sw : Switches) (s : State) : SweepReads leaf sw s := by
  let counted : State := { s with seq := { s.seq with
    lowReads := if leaf then 0 else s.seq.lowReads + 1, nextLeaf := s.seq.nextLeaf + 1 } }
  have reads : leafRead leaf sw s = if 5 ≤ counted.seq.lowReads then leafDropped sw counted else counted := rfl
  have counts : Changes [.seq] s counted := setSeq_changes _ s
  refine ⟨_, rfl, fun idle => ?_, fun due few => ?_, fun due many within => ?_⟩
  · rw [if_neg idle]
    exact (Changes.refl [] s).settle_only
  · rw [if_pos due, reads, if_neg (Nat.not_le.mpr few)]
    exact ⟨settle_get s _ .seq (by decide), counts.settle_only⟩
  · have busy : counted.seq.arm ≠ .idle := by rw [show counted.seq.arm = _ from due.1]; decide
    rw [if_pos due, reads, if_pos many]
    refine ⟨((counts.mono (by decide)).trans (leafDropped_moves busy sw)).settle_only, ?_⟩
    rw [leafDropped_returns busy]
    exact beginArm_made (t := s.ret.tone) (n := s.resumeLine)
      (x := { s with motion := { s.motion with arm := (hardStopped s.motion).arm } }) within.1 ⟨nofun, nofun⟩ (Ends.settle s _)

/-! ## RELEASING (R65) -/

theorem releaseExpired_returns {turn : Turn} {v : Volume} (busy : s.seq.arm ≠ .idle) (held : s.seq.turn = some turn)
    (hv : volumeAt s turn.slot = some v) :
    releaseExpired sw s = beginArm (mechOf s).park 7 sw { s with
      volumes := { s.volumes with
        entries := s.volumes.entries.set turn.slot
          (some { v with opening := if turn.forward then v.opening + 1 else v.opening - 1, take := 0 }) }
      seq := { s.seq with arm := .returning, timer := none, armPhase := .none, platenPhase := .none } } := by
  rw [releaseExpired, held]
  simp only []
  rw [modifyVolume_eq (by exact hv), enterReturning_eq (by exact busy)]
  rfl

theorem releaseExpired_moves (busy : s.seq.arm ≠ .idle) (sw : Switches) : Changes moveParts s (releaseExpired sw s) := by
  have stopped : Changes moveParts s (stopTimer s) := (stopTimer_changes s).mono (by decide)
  unfold releaseExpired
  split
  · exact stopped.trans (enterReturning_moves (by exact busy) 7 sw)
  · rename_i turn _
    have moved := modifyVolume_changes turn.slot
      (fun v => { v with opening := turnedOpening turn.forward v.opening, take := 0 }) (stopTimer s)
    refine (stopped.trans (moved.mono (by decide))).trans (enterReturning_moves ?_ 7 sw)
    rw [moved.get .seq (by decide)]
    exact busy

theorem releaseMoves (sw : Switches) (s : State) : ReleaseMoves sw s := by
  refine ⟨_, rfl, fun idle => ?_, fun turn v due held hv within => ?_⟩
  · rw [if_neg (by rwa [timerExpired_iff])]
    exact (Changes.refl [] s).settle_only
  · have busy : s.seq.arm ≠ .idle := by rw [due.1]; decide
    rw [← timerExpired_iff] at due
    rw [if_pos due]
    refine ⟨(releaseExpired_moves busy sw).settle_only, ?_⟩
    rw [releaseExpired_returns busy held hv]
    exact beginArm_made (t := s.ret.tone) (n := s.resumeLine) (x := { s with volumes := _ }) within.1 ⟨nofun, nofun⟩
      (Ends.settle s _)

/-! ## SETTLING (R68, R69) -/

theorem attendClears_eq (s : State) :
    attendClears s = { s with
      seq := { s.seq with attend := false }, ret := { s.ret with tone := silencedTone s.ret.tone } } := by
  unfold attendClears
  cases tone : s.ret.tone <;> simp [silencedTone, ← tone]

/-- The state with the arm at rest after a turn, the turn still to be ended. -/
def turnRested (s : State) : State :=
  { s with seq := { s.seq with arm := .idle, timer := none, armPhase := .none, platenPhase := .none } }

theorem turnRested_changes (s : State) : Changes [.seq] s (turnRested s) := setSeq_changes _ s

theorem turnRested_rests (s : State) : setArm .idle (stopTimer s) = turnRested s := by
  rw [setArm_eq .idle (.inr rfl)]
  rfl

theorem settleExpired_rests (none : s.seq.turn = none) : settleExpired s = turnRested s := by
  rw [settleExpired, turnRested_rests, show (turnRested s).seq.turn = _ from none]

theorem settleExpired_finishes {turn : Turn} (held : s.seq.turn = some turn) :
    settleExpired s = finishTurn turn (turnRested s) := by
  rw [settleExpired, turnRested_rests, show (turnRested s).seq.turn = _ from held]

section
variable {turn : Turn} {v : Volume} {o : OutcomeCode} {d : Nat} {y u : State}

/-- The end of a turn with its completion, from a state `y` that has handed nothing over. -/
theorem endTurn_completes (held : y.seq.turn = some turn) (silent : HandsOver [] s y) (ms : y.ms = s.ms) :
    HandsOver [.completion (kindNumber turn.kind) turn.tag o turn.slot d s.ms] s (endTurn o d y) := by
  have told := silent.trans (endTurn_ended o d y).handed
  rwa [turnEnds, held, ms] at told

/-- A turn that ends with the attend condition: its completion first. -/
theorem endTurn_attends (held : s.seq.turn = some turn) :
    let u := settle s (attendArises (endTurn o d (turnRested s)))
    (u.seq = { s.seq with
        arm := .idle, timer := none, armPhase := .none, platenPhase := .none, turn := none, attend := true }
      ∧ u.ret.tone = .attend true (s.ms + 250))
      ∧ Handed [.completion (kindNumber turn.kind) turn.tag o turn.slot d s.ms] s u
      ∧ Only ([.seq, .tone] ++ handParts) s u := by
  have ended := endTurn_ended o d (turnRested s)
  have told := endTurn_completes (o := o) (d := d) (y := turnRested s) held (handsOver_same rfl rfl rfl) rfl
  have rings : HandsOver [] (endTurn o d (turnRested s)) (attendArises (endTurn o d (turnRested s))) :=
    handsOver_same rfl rfl rfl
  have seq : (attendArises (endTurn o d (turnRested s))).seq =
      { (turnRested s).seq with turn := none, attend := true } :=
    congrArg (fun q : Sequencer => { q with attend := true }) ended.seq
  have tone : (attendArises (endTurn o d (turnRested s))).ret.tone = .attend true (s.ms + 250) :=
    congrArg (fun ms => Tone.attend true (ms + 250)) (ended.changes.get .ms (by decide))
  exact ⟨⟨(settle_get s _ .seq (by decide)).trans seq, (settle_get s _ .tone (by decide)).trans tone⟩,
    (told.trans rings).settle s,
    ((((turnRested_changes s).mono (by decide)).trans (ended.changes.mono (by decide))).trans
      ((attendArises_changes _).mono (by decide))).settle_only⟩

/-- The state with the arm at rest after a turn DONE, the attend condition cleared. -/
def turnCleared (s : State) : State :=
  { turnRested s with
    seq := { (turnRested s).seq with attend := false }, ret := { s.ret with tone := silencedTone s.ret.tone } }

theorem turnCleared_changes (s : State) : Changes [.seq, .tone] s (turnCleared s) := by
  intro p hp
  cases p <;> simp_all [Part.same, turnCleared, turnRested]

theorem turnCleared_eq (s : State) : attendClears (turnRested s) = turnCleared s := attendClears_eq _

/-- A turn DONE that ends with its completion. -/
theorem endTurn_clears (held : s.seq.turn = some turn) :
    let u := settle s (endTurn o d (turnCleared s))
    (u.seq = { s.seq with
        arm := .idle, timer := none, armPhase := .none, platenPhase := .none, turn := none, attend := false }
      ∧ u.ret.tone = silencedTone s.ret.tone)
      ∧ Handed [.completion (kindNumber turn.kind) turn.tag o turn.slot d s.ms] s u
      ∧ Only ([.seq, .tone] ++ handParts) s u := by
  have ended := endTurn_ended o d (turnCleared s)
  have told := endTurn_completes (o := o) (d := d) (y := turnCleared s) held (handsOver_same rfl rfl rfl) rfl
  exact ⟨⟨(settle_get s _ .seq (by decide)).trans ended.seq,
    (settle_get s _ .tone (by decide)).trans (ended.changes.get .tone (by decide))⟩, told.settle s,
    (((turnCleared_changes s).mono (by decide)).trans (ended.changes.mono (by decide))).settle_only⟩

/-- A turn DONE that is handed over to the capture unit. -/
theorem handOver_holds (turn : Turn) (p : CaptureParams) (s : State) :
    let u := settle s (handOver turn p (turnCleared s))
    (u.seq = { s.seq with
        arm := .idle, timer := none, armPhase := .none, platenPhase := .none, turn := none, attend := false }
      ∧ u.ret.tone = silencedTone s.ret.tone)
      ∧ Only [.seq, .tone, .capture] s u
      ∧ u.capture = { s.capture with
          state := .holding { kind := turn.kind, tag := turn.tag, slot := turn.slot, params := p } } := by
  let z := handOver turn p (turnCleared s)
  have changes : Changes [.seq, .tone, .capture] s z := by
    intro q hq
    cases q <;> simp_all [Part.same, z, handOver, setCapture, setSeq, turnCleared, turnRested]
  exact ⟨⟨settle_get s z .seq (by decide), settle_get s z .tone (by decide)⟩, changes.settle_only,
    settle_get s z .capture (by decide)⟩

theorem finishTurn_done (done : s.seq.outcome = .done) (none : turn.capture = none) :
    finishTurn turn (turnRested s) = endTurn .done (openingOf (turnRested s) turn.slot) (turnCleared s) := by
  rw [finishTurn, show (turnRested s).seq.outcome = _ from done, turnCleared_eq]
  simp only [none]

theorem finishTurn_handsOver {p : CaptureParams} (done : s.seq.outcome = .done) (captures : turn.capture = some p) :
    finishTurn turn (turnRested s) = handOver turn p (turnCleared s) := by
  rw [finishTurn, show (turnRested s).seq.outcome = _ from done, turnCleared_eq]
  simp only [captures]

end

theorem settleEnds (s : State) : SettleEnds s := by
  refine ⟨_, rfl, fun idle => ?_, fun due none => ?_, fun turn v due held hv => ?_⟩
  · rw [if_neg (by rwa [timerExpired_iff])]
    exact (Changes.refl [] s).settle_only
  · rw [← timerExpired_iff] at due
    rw [if_pos due, settleExpired_rests none]
    have kept : turnRested s = { s with seq := { s.seq with
        arm := .idle, timer := Option.none, armPhase := .none, platenPhase := .none, turn := Option.none } } := by
      rw [turnRested, ← none]
    refine ⟨(settle_get s _ .seq (by decide)).trans ?_, (turnRested_changes s).settle_only⟩
    rw [kept]
  · rw [← timerExpired_iff] at due
    rw [if_pos due, settleExpired_finishes held]
    have opening : openingOf (turnRested s) turn.slot = v.opening := by
      rw [openingOf, show volumeAt (turnRested s) turn.slot = _ from hv]
    refine ⟨fun done => ?_, fun done none => ?_, fun p done captures => ?_, fun failed => ?_, fun failed => ?_,
      fun failed => ?_⟩
    · cases captures : turn.capture with
      | none =>
        rw [finishTurn_done done captures, opening]
        exact (endTurn_clears held).1
      | some p =>
        rw [finishTurn_handsOver done captures]
        exact (handOver_holds turn p s).1
    · rw [finishTurn_done done none, opening]
      exact (endTurn_clears held).2
    · rw [finishTurn_handsOver done captures]
      exact (handOver_holds turn p s).2
    all_goals
      rw [finishTurn, show (turnRested s).seq.outcome = _ from failed]
      simp only [opening]
      exact endTurn_attends held

/-! ## The homing limit (R70) -/

theorem homingEnds (s : State) : HomingEnds s := by
  refine ⟨_, rfl, fun idle => ?_, fun due => ?_⟩
  · rw [if_neg (by rwa [timerExpired_iff])]
    exact (Changes.refl [] s).settle_only
  · have busy : Busy s.seq := by
      rw [Busy, due.1]
      decide
    rw [← timerExpired_iff] at due
    rw [if_pos due]
    exact ⟨enterFaulted_faulted (t := s.ret.tone) (n := s.resumeLine) .noPosition busy
      (Ends.settle s _), (enterFaulted_moves busy.1 _).settle_only⟩

/-! ## RESUME (R70, R71) -/

/-- Handing a record over neither reads nor writes the time of the RESUME line. -/
theorem handReturn_resumeLine (r : ReturnRecord) (n : Nat) (s : State) :
    handReturn r { s with resumeLine := n } = { handReturn r s with resumeLine := n } := by
  have place (e : InternalEntry) (x : State) :
      placeInternal e { x with resumeLine := n } = { placeInternal e x with resumeLine := n } := by
    by_cases room : x.path.internal.length < 32 ∧ (x.path.blocked.all fun w => decide (ownerOf w ≠ ownerOf e))
    · unfold placeInternal
      rw [if_pos room, if_pos room]
    · unfold placeInternal
      rw [if_neg room, if_neg room]
  by_cases free : s.ret.queue = [] ∧ returnUnread s < returnCapacity s
  · rw [handReturn, handReturn, if_pos free, if_pos (by exact free)]
    cases map : mapOf s with
    | none => simp only [placeReturn, map, show mapOf { s with resumeLine := n } = _ from map]
    | some m =>
      simp only [placeReturn, map, show mapOf { s with resumeLine := n } = _ from map]
      rw [← place]
  · rw [handReturn, handReturn, if_neg free, if_neg (by exact free)]
    by_cases queued : s.ret.queue.length < 16
    · rw [if_pos queued, if_pos (by exact queued)]
    · rw [if_neg queued, if_neg (by exact queued), discardReturn, discardReturn]
      by_cases latched : LatchedFault.returnOverrun ∈ s.ret.latched
      · rw [if_pos latched, if_pos (by exact latched)]
      · rw [if_neg latched, if_neg (by exact latched)]

section
variable {x : State} {t : Tone} {n : Nat}

/-- R71: the arm returns to park, its turn over. -/
theorem resumeSequencer_returns (halted : x.seq.arm = .halted) :
    resumeSequencer sw (withPanel t n x) =
      beginArm (mechOf x).park 2 sw (withPanel (silencedTone t) n { x with seq := { x.seq with
        arm := .returning, vacuum := false, attend := false, armPhase := .none, platenPhase := .none } }) := by
  have busy : x.seq.arm ≠ .idle := by rw [halted]; decide
  rw [resumeSequencer, show (withPanel t n x).seq.arm = _ from halted]
  simp only [attendClears_eq]
  rw [enterReturning_eq (by exact busy)]
  rfl

/-- R70: homing begins, its heads waited for. -/
def homingBegun (x : State) : Sequencer :=
  { x.seq with
    arm := .homing, vacuum := false, attend := false, armPhase := .none, platenPhase := .none, homing := .heads
    timer := some { kind := .homing, due := x.ms + 500 } }

theorem resumeSequencer_homes (faulted : x.seq.arm = .faulted) :
    resumeSequencer sw (withPanel t n x) = homingHeads sw (withPanel (silencedTone t) n { x with seq := homingBegun x }) := by
  have busy : x.seq.arm ≠ .idle := by rw [faulted]; decide
  rw [resumeSequencer, show (withPanel t n x).seq.arm = _ from faulted]
  simp only [attendClears_eq, enterHoming]
  rw [setArm_eq .homing (.inl (by exact busy))]
  rfl

theorem headsReady_iff (s : State) :
    headsReady s = true ↔ ∃ h, (s.position.heads.get h).up = true ∧ (s.position.heads.get h).goodCount = 3 := by
  rw [headsReady, Bool.or_eq_true, Bool.and_eq_true, Bool.and_eq_true, decide_eq_true_iff, decide_eq_true_iff]
  constructor
  · rintro (ready | ready)
    · exact ⟨.a, ready⟩
    · exact ⟨.b, ready⟩
  · rintro ⟨h, ready⟩
    cases h
    · exact .inl ready
    · exact .inr ready

theorem homingHeads_waits (unready : ¬ headsReady s = true) : homingHeads sw s = s :=
  if_neg fun h => unready h.2.2

theorem homingHeads_lowers (ready : headsReady x = true) :
    homingHeads sw (withPanel t n { x with seq := homingBegun x }) =
      beginLower sw (withPanel t n { x with seq := { homingBegun x with timer := none, homing := .platenDown } }) :=
  if_pos ⟨rfl, rfl, ready⟩

theorem lowerEnded_homes (homing : x.seq.arm = .homing) :
    lowerEnded .limit sw x =
      beginArm (mechOf x).park 2 sw { x with seq := { x.seq with homing := .armToPark, platenPhase := .none } } :=
  if_pos homing

theorem resumeSequencer_still (other : x.seq.arm ≠ .halted ∧ x.seq.arm ≠ .faulted) : resumeSequencer sw x = x := by
  unfold resumeSequencer
  split
  · exact absurd ‹_› other.1
  · exact absurd ‹_› other.2
  all_goals rfl

theorem beginArm_owes {g top : Nat} (moves : x.motion.arm.isSome) :
    beginArm g top sw x = { x with seq := { x.seq with target := g, top := top, armPhase := .owed } } := if_pos moves

theorem beginArm_offers {g top : Nat} {f : Fix} (rests : x.motion.arm = none) (fused : x.position.fused = some f)
    (moves : moveSteps (mechOf x).spr f.angle g ≠ 0) :
    beginArm g top sw x = offerArm f.angle (moveSteps (mechOf x).spr f.angle g) top
      { x with seq := { x.seq with target := g, top := top, corrections := 0 } } := by
  have makes : beginArm g top sw x = makeArmMove sw { x with seq := { x.seq with target := g, top := top } } :=
    if_neg (by rw [rests]; decide)
  rw [makes, makeArmMove, show State.position { x with seq := _ } = x.position from rfl, fused]
  exact if_neg moves

end

end

end Sys2Proof.Machine
end

section
/-! SUPPORT. The RESUME button (R70, R71), and the obligations on the sequencer. -/
namespace Sys2Proof.Machine

section
variable {s x u : State} {sw : Switches} {r : ReturnRecord}

theorem resumePressed_eq (sw : Switches) (s : State) :
    let x := handReturn (.event .resumePressed 0 (armNumber s.seq.arm) s.ms) s
    resumePressed sw s =
      if s.settings.startup = .ready then resumeSequencer sw (withPanel x.ret.tone 0 x) else withPanel x.ret.tone 0 x := by
  let r := ReturnRecord.event .resumePressed 0 (armNumber s.seq.arm) s.ms
  have told : handReturn r { s with resumeLine := 0 } = withPanel (handReturn r s).ret.tone 0 (handReturn r s) :=
    handReturn_resumeLine r 0 s
  have presses : resumePressed sw s =
      if s.settings.startup = .ready then resumeSequencer sw (handReturn r { s with resumeLine := 0 })
      else handReturn r { s with resumeLine := 0 } := rfl
  rw [presses, told]

/-- What the record of a press leaves as it was. -/
structure Told (r : ReturnRecord) (s x : State) : Prop where
  seq : x.seq = s.seq
  motion : x.motion = s.motion
  heads : x.position.heads = s.position.heads
  fused : x.position.fused = s.position.fused
  mech : mechOf x = mechOf s
  ms : x.ms = s.ms
  tone : x.ret.tone = s.ret.tone
  handed : ∀ {rs u}, Handed rs x u → Handed (r :: rs) s u

theorem handReturn_told (r : ReturnRecord) (s : State) : Told r s (handReturn r s) := by
  have frame := handReturn_changes r s
  exact ⟨frame.get .seq (by decide), frame.get .motion (by decide), frame.get .heads (by decide), frame.get .fused (by decide),
    by rw [mechOf, handReturn_settings]; rfl, frame.get .ms (by decide),
    frame.get .tone (by decide), id⟩

/-- What was handed over does not depend on the state beyond the return writer, the settings and the path. -/
theorem Handed.of_same {rs : List ReturnRecord} {x y u : State} (ret : y.ret = x.ret) (settings : y.settings = x.settings)
    (path : y.path = x.path) (h : Handed rs y u) : Handed rs x u := by
  obtain ⟨producer, queue, overruns, pending, latched, waits⟩ := h
  rw [handAll_ret rs ret settings] at producer queue overruns pending latched
  exact ⟨producer, queue, overruns, pending, latched, fun e he => waits e
    (mem_handAll rs ret settings (fun e he => by rwa [waiting, path]) e he)⟩

/-- RESUME with the arm HALTED: the record, and the return to park. -/
theorem resume_halted {t : Told r s x} (park : (mechOf s).park < 4096) (halted : s.seq.arm = .halted)
    (e : Ends (resumeSequencer sw (withPanel x.ret.tone 0 x)) u) :
    let silenced := silencedTone s.ret.tone
    let returning : Sequencer := { s.seq with
      arm := .returning, vacuum := false, attend := false, platenPhase := .none, target := (mechOf s).park, top := 2 }
    (s.motion.arm.isSome → Handed [r] s u ∧ u.seq = { returning with armPhase := .owed }
        ∧ u.ret.tone = silenced ∧ u.motion = s.motion)
      ∧ (s.motion.arm = none → ∀ f, s.position.fused = some f → f.angle < 4096 →
        moveSteps (mechOf s).spr f.angle (mechOf s).park ≠ 0 →
        Handed [r] s u ∧ u.ret.tone = silenced ∧ ArmOffered (mechOf s).spr f.angle (mechOf s).park 2 0 s returning u)
      ∧ (s.motion.arm = none → s.position.fused = none →
        Handed (r :: turnEnds .armFault (7 + 256 * 4) s) s u ∧ SequencerStopped .faulted { s with seq := returning } u)
      ∧ MoveMade (mechOf s).park 2 sw x { returning with armPhase := .none } u := by
  intro silenced returning
  rw [resumeSequencer_returns (by rwa [t.seq]), t.tone, t.mech, t.seq] at e
  have made : MoveMade (mechOf s).park 2 sw x { returning with armPhase := .none } u :=
    beginArm_made (t := silenced) (n := 0) park ⟨nofun, nofun⟩ e
  have whole := made
  obtain ⟨owes, lost, goes⟩ := made
  refine ⟨fun moves => ?_, fun rests f fused hangle moves => ?_, fun rests none => ?_, whole⟩
  · obtain ⟨seq, motion, -, handed⟩ := owes (by rwa [t.motion])
    rw [beginArm_owes (by rwa [← t.motion] at moves)] at e
    exact ⟨t.handed handed, seq, e.tone, motion.trans t.motion⟩
  · obtain ⟨⟨⟨d, steps, way, some_, seq, motion⟩, -, handed⟩, -⟩ :=
      (goes f (by rwa [t.motion]) (by rwa [t.fused]) hangle).imp_left (· (by rwa [t.mech]))
    rw [t.mech] at way
    rw [t.motion] at motion
    rw [beginArm_offers (f := f) (by exact t.motion ▸ rests) (by exact t.fused ▸ fused) (by exact t.mech ▸ moves)] at e
    exact ⟨t.handed handed, e.tone, d, steps, way, some_, seq, motion⟩
  · obtain ⟨⟨seq, motion, tone⟩, -, handed⟩ := lost (by rwa [t.motion]) (by rwa [t.fused])
    rw [show State.motion { x with seq := _ } = x.motion from rfl, t.motion] at motion
    rw [show State.ms { x with seq := _ } = x.ms from rfl, t.ms] at tone
    have told : turnEnds .armFault (7 + 256 * 4) { x with seq := { returning with armPhase := .none } } =
        turnEnds .armFault (7 + 256 * 4) s := by
      simp only [turnEnds, returning, t.ms]
    have after : Handed (turnEnds .armFault (7 + 256 * 4) { x with seq := { returning with armPhase := .none } }) x u :=
      .of_same (y := { x with seq := { returning with armPhase := .none, target := (mechOf s).park, top := 2 } })
        rfl rfl rfl handed
    rw [told] at after
    exact ⟨t.handed after, seq, motion, tone⟩

/-- RESUME with the arm FAULTED: the record, and homing. -/
theorem resume_faulted {t : Told r s x} (park : (mechOf s).park < 4096) (faulted : s.seq.arm = .faulted)
    (e : Ends (resumeSequencer sw (withPanel x.ret.tone 0 x)) u) :
    let silenced := silencedTone s.ret.tone
    let homing : Sequencer := { s.seq with
      arm := .homing, vacuum := false, attend := false, armPhase := .none, platenPhase := .none, homing := .heads
      timer := some { kind := .homing, due := s.ms + 500 } }
    let ready := (∃ h, (s.position.heads.get h).up = true ∧ (s.position.heads.get h).goodCount = 3)
    (¬ ready → Handed [r] s u ∧ u.ret.tone = silenced ∧ u.seq = homing ∧ u.motion = s.motion)
      ∧ (ready → s.motion.platen.isSome → Handed [r] s u ∧ u.ret.tone = silenced ∧ u.motion = s.motion
        ∧ u.seq = { homing with timer := none, homing := .platenDown, platenPhase := .owed })
      ∧ (ready → s.motion.platen = none → sw.down = false → Handed [r] s u ∧ u.ret.tone = silenced
        ∧ u.seq = { homing with timer := none, homing := .platenDown, platenPhase := .offered }
        ∧ u.motion = { s.motion with
            switches := sw, platen := some { down := true, ramp := newRamp (mechOf s).platenMax 7 } })
      ∧ (ready → s.motion.platen = none → sw.down = true →
        MoveMade (mechOf s).park 2 sw { x with motion := platenEnded .limit 0 sw s.motion }
          { homing with timer := none, homing := .armToPark } u) := by
  intro silenced homing ready
  have begun : homingBegun x = homing := by rw [homingBegun, t.seq, t.ms]
  have readies : headsReady x = true ↔ ready := by rw [headsReady_iff, t.heads]
  rw [resumeSequencer_homes (by rwa [t.seq]), t.tone] at e
  refine ⟨fun unready => ?_, fun heads moves => ?_, fun heads rests above => ?_, fun heads rests below => ?_⟩
  · rw [homingHeads_waits (by exact mt readies.mp unready), begun] at e
    exact ⟨t.handed (e.handed (handsOver_same rfl rfl rfl)), e.tone, e.seq, e.motion.trans t.motion⟩
  all_goals rw [homingHeads_lowers (readies.mpr heads), begun] at e
  · rw [beginLower_owes (by exact t.motion ▸ moves)] at e
    exact ⟨t.handed (e.handed (handsOver_same rfl rfl rfl)), e.tone, e.motion.trans t.motion, e.seq⟩
  · rw [beginLower_offers (by exact t.motion ▸ rests) above] at e
    refine ⟨t.handed (e.handed (handsOver_same rfl rfl rfl)), e.tone, e.seq, e.motion.trans ?_⟩
    rw [← t.motion, ← t.mech]
    rfl
  · rw [beginLower_finds (by exact t.motion ▸ rests) below] at e
    have begins : lowerEnded .limit sw (withPanel silenced 0 { x with
          seq := { homing with timer := none, homing := .platenDown }, motion := platenEnded .limit 0 sw x.motion }) =
        beginArm (mechOf x).park 2 sw (withPanel silenced 0
          { x with
            motion := platenEnded .limit 0 sw x.motion, seq := { homing with timer := none, homing := .armToPark } }) :=
      lowerEnded_homes rfl
    rw [← t.motion]
    refine beginArm_made (t := silenced) (n := 0) (x := { x with motion := platenEnded .limit 0 sw x.motion }) park
      ⟨nofun, nofun⟩ ?_
    rw [← t.mech, ← begins]
    exact e

end

/-- Settles O50: the press as it is told, and the sequencer as each state of the arm recovers. -/
theorem resumePressActs : Obligations.ResumePressActs := by
  intro s released sw park taken event silenced returning homing ready
  have run : exec (.resumePress released sw) s =
      .next (settle s (if pressTaken released s.resumeLine s then resumePressed sw s else s)) := rfl
  refine ⟨fun untaken => ?_, fun takes => ?_⟩
  · rw [if_neg (mt (pressTaken_iff _ _ _).1 untaken)] at run
    exact exec_holds run
  rw [if_pos ((pressTaken_iff _ _ _).2 takes)] at run
  have told := handReturn_told event s
  have changes := resumePressed_changes sw s
  have ends := Ends.settle s (resumePressed sw s)
  have still : Handed [event] s (settle s (withPanel (handReturn event s).ret.tone 0 (handReturn event s))) :=
    told.handed ((withPanel_handsOver _ _ _).settle s)
  have lines : (resumePressed sw s).stopLine = s.stopLine ∧ (resumePressed sw s).resumeLine = 0 := by
    have panel : (withPanel (handReturn event s).ret.tone 0 (handReturn event s)).stopLine = s.stopLine :=
      ((handReturn_changes event s).get .buttons (by decide)).1
    rw [resumePressed_eq]
    split
    · obtain ⟨stopLine, resumeLine⟩ := (resumeSequencer_changes sw
        (withPanel (handReturn event s).ret.tone 0 (handReturn event s))).get .buttons (by decide)
      exact ⟨stopLine.trans panel, resumeLine⟩
    · exact ⟨panel, rfl⟩
  obtain ⟨stopLine, resumeLine⟩ := settle_get s (resumePressed sw s) .buttons (by decide)
  refine ⟨_, run, resumeLine.trans lines.2, stopLine.trans lines.1, changes.settle_only, fun quiet => ?_, ?_, ?_⟩
  · have presses : resumePressed sw s = withPanel (handReturn event s).ret.tone 0 (handReturn event s) := by
      rw [resumePressed_eq]
      refine ite_eq_right_iff.mpr fun startup => resumeSequencer_still ?_
      rw [show (withPanel _ 0 (handReturn _ s)).seq = (handReturn event s).seq from rfl, told.seq]
      exact quiet.resolve_left (by rw [startup]; decide)
    have panel : Changes [.buttons] (handReturn event s) (withPanel (handReturn event s).ret.tone 0 (handReturn event s)) := by
      intro p hp
      cases p <;> simp_all [Part.same, withPanel]
    rw [presses]
    exact ⟨still, (((handReturn_changes event s).mono (by decide)).trans (panel.mono (by decide))).settle_only⟩
  · intro startup halted
    rw [resumePressed_eq, if_pos startup] at ends ⊢
    exact resume_halted (t := told) park halted ends
  · intro startup faulted
    rw [resumePressed_eq, if_pos startup] at ends ⊢
    exact resume_faulted (t := told) park faulted ends

/-- Settles O51: each end of an engine by what the sequencer awaits of it. -/
theorem enginesStep : Obligations.EnginesStep := by
  intro s sw
  have rests {e : Engine} (still : engineStep e sw s = s) : exec (.moveStep e sw) s = .next (settle s s) :=
    congrArg (fun x => Host.Outcome.next (settle s x)) still
  refine ⟨armSteps sw s, platenSteps sw s, fun none => exec_holds (rests ?_), fun none => exec_holds (rests ?_)⟩
  · simp only [engineStep, armStep, none]
  · simp only [engineStep, platenStep, none]

/-- Settles O52. -/
theorem gripAttempts : Obligations.GripAttempts := by
  intro s leaf multi sw
  refine ⟨fun idle => ?_, fun idle => ?_, fun gripping expired within => ?_, fun gripping expired => ?_⟩
  · have run : exec (.gripTimer leaf multi sw) s = .next (settle s
        (if s.seq.arm = .gripping ∧ timerExpired .grip s then gripExpired leaf multi sw s else s)) := rfl
    rw [← Classical.not_and_iff_not_or_not, ← timerExpired_iff] at idle
    rw [if_neg idle] at run
    exact exec_holds run
  · have run : exec .gripReleaseWait s = .next (settle s
        (if s.seq.arm = .gripping ∧ timerExpired .release s then beginGrip s else s)) := rfl
    rw [← Classical.not_and_iff_not_or_not, ← timerExpired_iff] at idle
    rw [if_neg idle] at run
    exact exec_holds run
  · have run : exec (.gripTimer leaf multi sw) s = .next (settle s
        (if s.seq.arm = .gripping ∧ timerExpired .grip s then gripExpired leaf multi sw s else s)) := rfl
    rw [← timerExpired_iff] at expired
    rw [if_pos ⟨gripping, expired⟩] at run
    have busy : s.seq.arm ≠ .idle := by rw [gripping]; decide
    refine ⟨_, run, (gripExpired_moves busy leaf multi sw).settle_only, fun one single turn held => ?_,
      fun failed left => ?_, fun failed spent => ?_⟩
    · rw [gripExpired_sweeps busy held (by simp [one, single])]
      refine beginArm_made (t := s.ret.tone) (n := s.resumeLine) ?_ ⟨nofun, nofun⟩ (Ends.settle s _)
      split
      · exact within.2.2
      · exact within.2.1
    · rw [gripExpired_retries (by rcases failed with none | double <;> simp [*]) left]
      exact ⟨(setSeq_changes _ s).settle_only, settle_get s _ .seq (by decide)⟩
    · rw [gripExpired_fails busy (by rcases failed with none | double <;> simp [*]) spent]
      exact beginArm_made (t := s.ret.tone) (n := s.resumeLine) within.1 ⟨nofun, nofun⟩ (Ends.settle s _)
  · have run : exec .gripReleaseWait s = .next (settle s
        (if s.seq.arm = .gripping ∧ timerExpired .release s then beginGrip s else s)) := rfl
    rw [← timerExpired_iff] at expired
    rw [if_pos ⟨gripping, expired⟩] at run
    exact ⟨_, run, (beginGrip_changes s).settle_only, settle_get s _ .seq (by decide)⟩

/-- Settles O53. -/
theorem turnTimersAct : Obligations.TurnTimersAct := fun s leaf sw =>
  ⟨sweepReads leaf sw s, releaseMoves sw s, settleEnds s, homingEnds s⟩

end Sys2Proof.Machine
end

section
/-! SUPPORT. The sensor link and the sampling rounds at the end of a step (3.3, 3.4). -/
namespace Sys2Proof.Machine

/-! ## The link at the end of a step -/

theorem serving_iff (s : State) : inService s = true ↔ Serving s := by
  simp [inService, Serving]

theorem fastSampling_iff (s : State) : fastSampling s = true ↔ Fast s := by
  simp [fastSampling, Fast, or_assoc]

theorem nextExchange_eq (l : SensorLink) : nextExchange l = firstPending l := by
  unfold nextExchange firstPending pollPending
  cases l.loads.v <;> cases l.loads.r <;> cases l.samples.a <;> cases l.samples.b <;> rfl

theorem roundEdge_link (b x : State) : (roundEdge b x).link = x.link := (roundEdge_changes b x).get .link (by decide)

theorem settle_link (b x : State) : (settle b x).link = (startExchange (roundEdge b x)).link :=
  (statusChange_changes b _).get .link (by decide)

theorem inService_congr {x y : State} (h : y.settings = x.settings) : inService y = inService x := by
  rw [inService, inService, h]

theorem roundEdge_settings (b x : State) : (roundEdge b x).settings = x.settings :=
  (roundEdge_changes b x).get .settings (by decide)

/-- R40: the free link starts the request that stands first. -/
theorem linkServes_settle {l : SensorLink} {s x : State} (link : x.link = l) (settings : x.settings.startup = s.settings.startup)
    (b : State) : LinkServes l s (settle b x) := by
  have serves : inService (roundEdge b x) = true ↔ s.settings.startup = .ready ∨ s.settings.startup = .bare := by
    rw [serving_iff, Serving, roundEdge_settings, settings]
  have same := roundEdge_link b x
  rw [link] at same
  refine ⟨fun idle => ?_, fun service none => ?_, fun e service first => ?_⟩
  · rw [settle_link, startExchange, if_neg (by rwa [serves, same]), same]
  all_goals rw [settle_link, startExchange, if_pos (by rwa [serves, same])]
  · rw [same, nextExchange_eq, none]
    exact same
  · rw [same, nextExchange_eq, first]

/-! ## The rounds at the end of a step -/

theorem roundTimes_of_changes {ps : List Part} {x y : State} (c : Changes ps x y) (apart : .nextRound ∉ ps) :
    roundTimes y = roundTimes x := by
  obtain ⟨nextRound, lastRound, due⟩ := c.get .nextRound apart
  rw [roundTimes, roundTimes, nextRound, lastRound, due]

theorem fast_of_changes {ps : List Part} {x y : State} (c : Changes ps x y) (motion : .motion ∉ ps) (seq : .seq ∉ ps) :
    Fast y ↔ Fast x := by
  rw [Fast, Fast, c.get .motion motion, c.get .seq seq]

theorem roundTimes_settle (b x : State) : roundTimes (settle b x) = roundTimes (roundEdge b x) :=
  (roundTimes_of_changes (statusChange_changes b _) (by decide)).trans
    (roundTimes_of_changes (startExchange_changes _) (by decide))

/-- R39: what the end of the fast condition, and its beginning, do to the times of the rounds. -/
theorem roundTimes_roundEdge (b x : State) :
    ((Fast b ↔ Fast x) ∨ ¬ Serving x → roundTimes (roundEdge b x) = roundTimes x)
      ∧ (Serving x → ¬ Fast b → Fast x →
        (x.position.due.getLast? = some x.ms →
          roundTimes (roundEdge b x) = (x.position.due, x.position.lastRound, x.ms + 1))
        ∧ (x.position.due.getLast? ≠ some x.ms →
          roundTimes (roundEdge b x) = (x.position.due ++ [x.ms], x.ms, x.ms + 1)))
      ∧ (Serving x → Fast b → ¬ Fast x →
        roundTimes (roundEdge b x) = (x.position.due, x.position.lastRound, x.position.lastRound + 20)) := by
  simp only [← fastSampling_iff, ← serving_iff]
  refine ⟨fun still => ?_, fun serves slow fast => ⟨fun last => ?_, fun last => ?_⟩, fun serves fast slow => ?_⟩
  · have begins : ¬ (inService x = true ∧ fastSampling x = true ∧ ¬ fastSampling b = true) := by grind
    have ends : ¬ (inService x = true ∧ fastSampling b = true ∧ ¬ fastSampling x = true) := by grind
    rw [roundEdge, if_neg begins, if_neg ends]
  · rw [roundEdge, if_pos ⟨serves, fast, slow⟩, fastBegins, if_pos last]
    rfl
  · have period : roundPeriod x = 1 := if_pos fast
    rw [roundEdge, if_pos ⟨serves, fast, slow⟩, fastBegins, if_neg last, roundFallsDue, period]
    rfl
  · rw [roundEdge, if_neg (fun h => slow h.2.1), if_pos ⟨serves, fast, slow⟩]
    rfl

theorem nextRound_notMem {i : Instr} (restart : ∀ prof1 prof0, i ≠ .restart prof1 prof0) (takes : i ≠ .restartTakeEffect)
    (reads : ∀ r, i ≠ .eepromReadAttempt r) (resetn : i ≠ .resetnAssert) (samples : i ≠ .sampleRound) :
    Part.nextRound ∉ partsOf i := by
  cases i
  case restart => exact absurd rfl (restart _ _)
  case restartTakeEffect => exact absurd rfl takes
  case eepromReadAttempt => exact absurd rfl (reads _)
  case resetnAssert => exact absurd rfl resetn
  case sampleRound => exact absurd rfl samples
  all_goals
    rw [partsOf]
    decide

/-- A command either leaves the counter or leaves the fast condition. -/
theorem ms_notMem_or {i : Instr} (resetn : i ≠ .resetnAssert) :
    Part.ms ∉ partsOf i ∨ (Part.motion ∉ partsOf i ∧ Part.seq ∉ partsOf i) := by
  cases i
  case resetnAssert => exact absurd rfl resetn
  case resetnRelease =>
    right
    rw [partsOf]
    decide
  all_goals
    left
    rw [partsOf]
    decide

theorem roundsFollowFastCondition (i : Instr) (s : State) : RoundsFollowFastCondition i s := by
  intro restart takes reads resetn samples u run
  obtain ⟨-, rfl⟩ := (exec_next run).resolve_left fun h => resetn h.1
  have parts := effect_changes i s
  have clock := ms_notMem_or resetn
  have times := roundTimes_of_changes parts (nextRound_notMem restart takes reads resetn samples)
  generalize effect i s = x at parts times
  have fast : Fast (settle s x) ↔ Fast x := fast_of_changes (settle_changes s x) (by decide) (by decide)
  have serving : Serving (settle s x) ↔ Serving x := by
    rw [Serving, Serving, settle_get s x .settings (by decide)]
  obtain ⟨still, begins, ends⟩ := roundTimes_roundEdge s x
  obtain ⟨due, lastRound, -⟩ : x.position.due = s.position.due ∧ x.position.lastRound = s.position.lastRound
      ∧ x.position.nextRound = s.position.nextRound := by simpa [roundTimes] using times
  rw [fast, serving, roundTimes_settle]
  rw [due, lastRound] at begins ends
  refine ⟨fun same => (still same).trans times, fun serves slow quick => ?_, ends⟩
  have ms : x.ms = s.ms := by
    rcases clock with kept | ⟨motion, seq⟩
    · exact parts.get .ms kept
    · exact absurd ((fast_of_changes parts motion seq).mp quick) slow
  rw [ms] at begins
  exact begins serves slow quick

/-! ## A step that is a millisecond -/

theorem position_of_changes {ps : List Part} {x y : State} (c : Changes ps x y)
    (apart : ∀ p ∈ [Part.heads, .fused, .rounds, .nextRound], p ∉ ps) : y.position = x.position := by
  have heads : y.position.heads = x.position.heads := c.get .heads (apart _ (by decide))
  have fused : y.position.fused = x.position.fused := c.get .fused (apart _ (by decide))
  obtain ⟨number, checks⟩ := c.get .rounds (apart _ (by decide))
  obtain ⟨nextRound, lastRound, due⟩ := c.get .nextRound (apart _ (by decide))
  cases hx : x.position
  cases hy : y.position
  simp_all

theorem roundsFallDue_times (s : State) : RoundsFallDue s := by
  intro idle
  have pumped := pump_changes s
  let y := countMs (pump s)
  have counted : Changes (.ms :: silentParts) s y :=
    (pumped.mono (by decide)).trans ((countMs_changes _).mono (by decide))
  have position : y.position = s.position := position_of_changes counted (by decide)
  have startup : y.settings.startup = s.settings.startup := by
    have kept : y.settings = (pump s).settings := (countMs_changes (pump s)).get .settings (by decide)
    rw [kept, pump_settings]
  have fast : fastSampling y = true ↔ Fast s :=
    (fastSampling_iff y).trans (fast_of_changes counted (by decide) (by decide))
  have serves : inService y = true ↔ Serving s := by rw [serving_iff, Serving, startup, Serving]
  have ticks : step s = .next (ageButtons (roundsFallDue y)) := by
    rw [step, idle]
    rfl
  have ms (serving : Serving s) : y.ms = s.ms + 1 := by
    have held : (pump s).settings.startup ≠ .resetHeld := by
      rw [pump_settings]
      rcases serving with ready | bare
      · simp [ready]
      · simp [bare]
    rw [countMs_ms, if_neg held, pumped.get .ms (by decide)]
  refine ⟨_, ticks, fun waits => ?_, fun serving due => ?_⟩
  · have quiet : ¬ (inService y = true ∧ reached y.ms y.position.nextRound = true) := by
      rintro ⟨service, falls⟩
      have serving := serves.mp service
      rw [ms serving, position] at falls
      rcases waits with out | early
      · exact out serving
      · exact absurd (early.symm.trans falls) (by decide)
    rw [roundsFallDue, if_neg quiet]
    exact position
  · have falls : roundsFallDue y = roundFallsDue y := if_pos ⟨serves.mpr serving, by rwa [ms serving, position]⟩
    have left : (ageButtons (roundsFallDue y)).position = { s.position with
        due := s.position.due ++ [s.ms + 1], lastRound := s.ms + 1
        nextRound := after (s.ms + 1) (roundPeriod y) } := by
      rw [falls, ← ms serving, ← position]
      rfl
    rw [left]
    refine ⟨fun quick => ?_, fun slow => ?_⟩
    · rw [roundPeriod, if_pos (fast.mpr quick), after, BitVec.add_assoc]
      rfl
    · rw [roundPeriod, if_neg (mt fast.mp slow), after, BitVec.add_assoc]
      rfl

/-! ## A round, and a routine POLL -/

theorem placeSample_samples (head : Head) (q : SampleRequest) (s : State) :
    (placeSample head q s).link =
      { s.link with samples := s.link.samples.set head (some ((s.link.samples.get head).getD q)) } := by
  unfold placeSample
  cases asked : s.link.samples.get head with
  | none => rfl
  | some r =>
    have kept : s.link.samples.set head (some r) = s.link.samples := by
      cases head <;> rw [← asked] <;> rfl
    show s.link = { s.link with samples := s.link.samples.set head (some r) }
    rw [kept]

theorem placeRound_link (time : Word) (s : State) :
    let q : SampleRequest := { round := s.position.roundNumber, time := time }
    (placeRound time s).link = { s.link with samples :=
      { a := some (s.link.samples.a.getD q), b := some (s.link.samples.b.getD q) } } := by
  intro q
  have link : (placeRound time s).link = (placeSample .b q (placeSample .a q s)).link := rfl
  rw [link, placeSample_samples, placeSample_samples]
  rfl

theorem placeRound_times {s : State} {time : Word} {later : List Word} (held : s.position.due = time :: later) :
    roundTimes (placeRound time s) = (later, s.position.lastRound, s.position.nextRound) := by
  have apart := (placeSample_changes .a { round := s.position.roundNumber, time := time } s).trans
    (placeSample_changes .b { round := s.position.roundNumber, time := time } _)
  obtain ⟨nextRound, lastRound, -⟩ := apart.get .nextRound (by decide)
  have due : (placeRound time s).position.due = later := by
    show s.position.due.tail = later
    rw [held]
    rfl
  exact Prod.ext due (Prod.ext lastRound nextRound)

/-- The end of a step changes no bar but for where its load stands. -/
theorem settle_lasting (b x : State) (side : Side) :
    ((settle b x).lamps.get side).lasting = (x.lamps.get side).lasting := by
  obtain ⟨v, r⟩ := settle_get b x .bars (by decide)
  cases side
  · exact v
  · exact r

theorem pollFallsDue_lasting (side : Side) (s : State) (x : Side) :
    ((pollFallsDue side s).lamps.get x).lasting = { (s.lamps.get x).lasting with
      pollDue := if x = side then (s.lamps.get x).pollDue + 100 else (s.lamps.get x).pollDue } := by
  cases side <;> cases x <;> rfl

/-- Settles O54. -/
theorem roundsAndPollsFallDue : Obligations.RoundsAndPollsFallDue := by
  intro s i side pollDue
  have round : exec .sampleRound s = .next (settle s (if inService s then placeDueRound s else s)) := rfl
  have poll : exec (.lampPollDue side) s = .next (settle s
      (if inService s ∧ reached s.ms (s.lamps.get side).pollDue then pollFallsDue side s else s)) := rfl
  have due : (inService s = true ∧ reached s.ms (s.lamps.get side).pollDue = true) ↔ pollDue :=
    and_congr (serving_iff s) Iff.rfl
  refine ⟨roundsFallDue_times s, roundsFollowFastCondition i s, fun idle => exec_holds ?_, fun time later serving held => ?_,
    fun early => exec_holds ?_, fun falls => ?_⟩
  · rw [round]
    rcases idle with out | none
    · rw [if_neg (mt (serving_iff s).mp out)]
    · have still : placeDueRound s = s := by rw [placeDueRound, none]
      rw [still, ite_self]
  · have places : placeDueRound s = placeRound time s := by rw [placeDueRound, held]
    rw [if_pos ((serving_iff s).mpr serving), places] at round
    have frame := placeRound_changes time s
    have settings : (placeRound time s).settings = s.settings := frame.get .settings (by decide)
    have fast : Fast s ↔ Fast (placeRound time s) := (fast_of_changes frame (by decide) (by decide)).symm
    have times : roundTimes (settle s (placeRound time s)) = roundTimes (placeRound time s) :=
      (roundTimes_settle s _).trans ((roundTimes_roundEdge s _).1 (.inl fast))
    obtain ⟨number, checks⟩ := settle_get s (placeRound time s) .rounds (by decide)
    refine ⟨_, round, settle_only (frame.mono (by decide)), times.trans (placeRound_times held), number, fun both => ?_,
      fun both => ?_, linkServes_settle (placeRound_link time s) (by rw [settings]) s⟩
    · have fresh : s.link.samples.a.isNone ∧ s.link.samples.b.isNone := by simp [both.1, both.2]
      exact checks.trans (congrArg (s.position.checks ++ ·) (if_pos fresh))
    · have asked : ¬ (s.link.samples.a.isNone ∧ s.link.samples.b.isNone) := by simpa using both
      exact checks.trans ((congrArg (s.position.checks ++ ·) (if_neg asked)).trans (List.append_nil _))
  · rw [poll, if_neg (mt due.mp early)]
  · rw [if_pos (due.mpr falls)] at poll
    exact ⟨_, poll, settle_only ((pollFallsDue_changes side s).mono (by decide)),
      fun x => (settle_lasting s _ x).trans (pollFallsDue_lasting side s x),
      linkServes_settle (x := pollFallsDue side s) rfl rfl s⟩

end Sys2Proof.Machine
end

section
/-! SUPPORT. What a reply of a bar leaves (5.1): its judgement, its faults, and the verification of its load. -/
namespace Sys2Proof.Machine

/-! ## Latching and the records -/

theorem insertFault_comm (l : List LatchedFault) (f g : LatchedFault) :
    insertFault (insertFault l f) g = insertFault (insertFault l g) f := by
  refine List.filter_congr fun h _ => ?_
  simp only [mem_insertFault, decide_eq_decide]
  exact or_left_comm

/-- A record handed over neither reads nor writes a fault but RETURN_OVERRUN. -/
theorem handReturn_enterLatched {f : LatchedFault} (other : f ≠ .returnOverrun) (r : ReturnRecord) (s : State) :
    handReturn r (enterLatched f s) = enterLatched f (handReturn r s) := by
  have place (e : InternalEntry) (x : State) : placeInternal e (enterLatched f x) = enterLatched f (placeInternal e x) := by
    by_cases room : x.path.internal.length < 32 ∧ (x.path.blocked.all fun w => decide (ownerOf w ≠ ownerOf e))
    · rw [placeInternal, placeInternal, if_pos room]
      exact if_pos room
    · rw [placeInternal, placeInternal, if_neg room]
      exact if_neg room
  by_cases free : s.ret.queue = [] ∧ returnUnread s < returnCapacity s
  · rw [handReturn, handReturn, if_pos free, if_pos (by exact free)]
    cases map : mapOf s with
    | none => simp only [placeReturn, map, show mapOf (enterLatched f s) = _ from map]
    | some m =>
      simp only [placeReturn, map, show mapOf (enterLatched f s) = _ from map]
      rw [← place]
      rfl
  · rw [handReturn, handReturn, if_neg free, if_neg (by exact free)]
    by_cases queued : s.ret.queue.length < 16
    · rw [if_pos queued, if_pos (by exact queued)]
      rfl
    · have same : LatchedFault.returnOverrun ∈ (enterLatched f s).ret.latched ↔
          LatchedFault.returnOverrun ∈ s.ret.latched := by
        rw [show (enterLatched f s).ret.latched = insertFault s.ret.latched f from rfl, mem_insertFault]
        exact or_iff_right other.symm
      rw [if_neg queued, if_neg (by exact queued), discardReturn, discardReturn]
      by_cases latched : LatchedFault.returnOverrun ∈ s.ret.latched
      · rw [if_pos latched, if_pos (same.mpr latched)]
        rfl
      · rw [if_neg latched, if_neg (mt same.mp latched)]
        simp only [enterLatched, insertFault_comm s.ret.latched f .returnOverrun]

section
variable {f : LatchedFault} {rs : List ReturnRecord} {s x : State}

theorem handAll_enterLatched (other : f ≠ .returnOverrun) (rs : List ReturnRecord) (s : State) :
    handAll rs (enterLatched f s) = enterLatched f (handAll rs s) := by
  induction rs generalizing s with
  | nil => rfl
  | cons r rs ih =>
    show handAll rs (handReturn r (enterLatched f s)) = enterLatched f (handAll rs (handReturn r s))
    rw [handReturn_enterLatched other, ih]

/-- A fault may be latched before the records of a part of a step as well as after them. -/
theorem HandsOver.enterLatched (h : HandsOver rs s x) (other : f ≠ .returnOverrun) :
    HandsOver rs (Machine.enterLatched f s) (Machine.enterLatched f x) := by
  refine ⟨?_, h.settings, fun e he => h.waits e ?_⟩
  · rw [handAll_enterLatched other]
    simp only [Machine.enterLatched]
    rw [h.ret]
  · rw [handAll_enterLatched other] at he
    exact he

theorem mem_latched_handAll (other : f ≠ .returnOverrun) (rs : List ReturnRecord) (s : State) :
    f ∈ (handAll rs s).ret.latched ↔ f ∈ s.ret.latched := by
  induction rs generalizing s with
  | nil => exact Iff.rfl
  | cons r rs ih =>
    refine (ih (handReturn r s)).trans ⟨fun latched => ?_, fun latched => mem_latched_handReturn latched r⟩
    have placed : (placeReturn r s).ret.latched = s.ret.latched := (placeReturn_changes r s).get .latched (by decide)
    unfold handReturn at latched
    split at latched
    · rwa [placed] at latched
    · split at latched
      · exact latched
      · unfold discardReturn at latched
        split at latched
        · exact latched
        · exact ((mem_insertFault _ _ _).mp latched).resolve_left other

theorem HandsOver.mem_latched (h : HandsOver rs s x) (other : f ≠ .returnOverrun) :
    f ∈ x.ret.latched ↔ f ∈ s.ret.latched := by
  rw [h.ret]
  exact mem_latched_handAll other rs s

end

/-! ## The words of a bar -/

theorem lampVerdict_answered (b : Bar) (w : Half) : lampVerdict b w = .answered ↔ LampAnswered b w := by
  unfold lampVerdict LampAnswered noReply lampLife
  by_cases silent : w = 0xFFFF <;> by_cases stale : b.life = some ((w >>> 4).setWidth 2) <;> simp_all

/-- The kind of failure that the fault field of an in-word names. -/
theorem lampFaultField_eq (w : Half) :
    lampFaultField w = if lampFaultBits w = 0 then none
      else some (if lampFaultBits w = 1 then .openString else if lampFaultBits w = 2 then .short else .selfOvertemp) := by
  have bits : ((w >>> 6).setWidth 2 : BitVec 2).toNat = lampFaultBits w := by
    rw [BitVec.toNat_setWidth, lampFaultBits]
  have small : lampFaultBits w < 4 := Nat.mod_lt _ (by decide)
  rw [lampFaultField, bits]
  generalize lampFaultBits w = n at small
  obtain rfl | rfl | rfl | rfl : n = 0 ∨ n = 1 ∨ n = 2 ∨ n = 3 := by omega
  all_goals rfl

theorem lampEcho_eq (w : Half) : lampEcho w = w.toNat % 16 := by rw [lampEcho, BitVec.toNat_setWidth]

theorem thermalNext_eq (m : MechSettings) (temp : Nat) (b : BarState) :
    thermalNext m.warnTemp m.errorTemp temp b = thermalStep m temp b := by cases b <;> rfl

/-! ## What a part of the judgement leaves -/

/-- A part of the judgement leaves one bar, the link and the state of the capture as given. -/
structure LampLeft (side : Side) (n : Bar) (l : SensorLink) (kept : CaptureState) (s x : State) : Prop where
  lamps : x.lamps = s.lamps.set side n
  link : x.link = l
  capture : x.capture = { s.capture with state := kept }
  changes : Changes barParts s x

/-- The events of the temperature of a bar. -/
def hotEvents (side : Side) (b j : Bar) (w : Half) (latched : List LatchedFault) (now : Word) : List ReturnRecord :=
  if LampAnswered b w ∧ lampFaultBits w = 0 ∧ j.state = .hot ∧ (b.state ≠ .hot ∨ LatchedFault.lampHot ∉ latched) then
    [.event .lampHot (sideNumber side) (w >>> 8).toNat now]
  else if LampAnswered b w ∧ lampFaultBits w = 0 ∧ j.state = .warm ∧ b.state ≠ .warm then
    [.event .lampWarm (sideNumber side) (w >>> 8).toNat now]
  else []

def hotLatched (b j : Bar) (w : Half) (s : State) : State :=
  if LampAnswered b w ∧ lampFaultBits w = 0 ∧ j.state = .hot ∧ LatchedFault.lampHot ∉ s.ret.latched then
    enterLatched .lampHot s
  else s

section
variable {side : Side} {w : Half} {s : State}

theorem failBar_eq (side : Side) (k : FailKind) (s : State) :
    failBar side k s = setBar side { s.lamps.get side with state := failedWith k (s.lamps.get side).state } s := by
  unfold failBar failedWith
  split
  · have kept : s.lamps.set side (s.lamps.get side) = s.lamps := by cases side <;> rfl
    rw [setBar, kept]
  · rfl

theorem setBar_left (side : Side) (n : Bar) (s : State) : LampLeft side n s.link s.capture.state s (setBar side n s) :=
  ⟨rfl, rfl, rfl, (setBar_changes side n s).mono (by decide)⟩

theorem bar_setBar (side : Side) (n : Bar) (s : State) : (setBar side n s).lamps.get side = n :=
  PerSide.get_set_same s.lamps side n

theorem LampLeft.trans_changes {n : Bar} {l : SensorLink} {kept : CaptureState} {x y : State} (h : LampLeft side n l kept s x)
    (c : Changes handParts x y) : LampLeft side n l kept s y where
  lamps := (c.lamps_eq (by decide)).trans h.lamps
  link := (c.get .link (by decide)).trans h.link
  capture := (c.get .capture (by decide)).trans h.capture
  changes := h.changes.trans (c.mono (by decide))

theorem setBar_setBar (side : Side) (m n : Bar) (s : State) : setBar side m (setBar side n s) = setBar side m s := by
  cases side <;> rfl

/-- R84: what the temperature of a bar tells. -/
theorem thermalEvents_tells {x : State} {b j : Bar} (answered : LampAnswered b w) (sound : lampFaultBits w = 0)
    (state : (x.lamps.get side).state = j.state) (unhanded : HandsOver [] s x) (ms : x.ms = s.ms) :
    HandsOver (hotEvents side b j w s.ret.latched s.ms) (hotLatched b j w s) (thermalEvents side (w >>> 8).toNat b.state x) := by
  have same := unhanded.mem_latched (f := .lampHot) (by decide)
  let hotEvent := ReturnRecord.event .lampHot (sideNumber side) (w >>> 8).toNat s.ms
  by_cases hot : j.state = .hot
  · have fires : hotEvents side b j w s.ret.latched s.ms = if b.state = .hot ∧ LatchedFault.lampHot ∈ s.ret.latched then []
        else [hotEvent] := by
      by_cases quiet : b.state = .hot ∧ LatchedFault.lampHot ∈ s.ret.latched
      · rw [if_pos quiet, hotEvents, if_neg fun h => h.2.2.2.elim (· quiet.1) (· quiet.2), if_neg (by simp [hot])]
      · rw [if_neg quiet, hotEvents, if_pos ⟨answered, sound, hot, Classical.not_and_iff_not_or_not.mp quiet⟩]
    have thermal : thermalEvents side (w >>> 8).toNat b.state x =
        if b.state = .hot then latch .lampHot .lampHot (sideNumber side) (w >>> 8).toNat x
        else latchWithEvent .lampHot .lampHot (sideNumber side) (w >>> 8).toNat x := by
      rw [thermalEvents, state]
      exact if_pos hot
    rw [fires, thermal]
    by_cases latched : LatchedFault.lampHot ∈ s.ret.latched
    · have kept : hotLatched b j w s = s := if_neg fun h => h.2.2.2 latched
      rw [kept]
      by_cases already : b.state = .hot
      · rw [if_pos already, if_pos ⟨already, latched⟩, latch_latched (same.mpr latched)]
        exact unhanded
      · rw [if_neg already, if_neg fun h => already h.1, latchWithEvent, if_pos (same.mpr latched), raise, ms]
        have told := unhanded.trans (.hand (.event .lampHot (sideNumber side) (w >>> 8).toNat x.ms) x)
        rwa [ms] at told
    · have entered : hotLatched b j w s = enterLatched .lampHot s := if_pos ⟨answered, sound, hot, latched⟩
      have told := (unhanded.enterLatched (f := .lampHot) (by decide)).trans
        (.hand (.event .lampHot (sideNumber side) (w >>> 8).toNat x.ms) _)
      rw [ms] at told
      have both : (if b.state = .hot then latch .lampHot .lampHot (sideNumber side) (w >>> 8).toNat x
          else latchWithEvent .lampHot .lampHot (sideNumber side) (w >>> 8).toNat x) =
          handReturn hotEvent (enterLatched .lampHot x) := by
        rw [latch_fresh (mt same.mp latched), latchWithEvent, if_neg (mt same.mp latched), ite_self, raise]
        exact congrArg (fun n => handReturn (.event .lampHot (sideNumber side) (w >>> 8).toNat n) _) ms
      rw [entered, both, if_neg fun h => latched h.2]
      exact told
  · have kept : hotLatched b j w s = s := if_neg fun h => hot h.2.2.1
    have thermal : thermalEvents side (w >>> 8).toNat b.state x =
        if j.state = .warm ∧ b.state ≠ .warm then raise .lampWarm (sideNumber side) (w >>> 8).toNat x else x := by
      rw [thermalEvents, state]
      exact if_neg hot
    rw [kept, thermal]
    by_cases warmer : j.state = .warm ∧ b.state ≠ .warm
    · rw [if_pos warmer, hotEvents, if_neg fun h => hot h.2.2.1, if_pos ⟨answered, sound, warmer⟩, raise, ms]
      have told := unhanded.trans (.hand (.event .lampWarm (sideNumber side) (w >>> 8).toNat x.ms) x)
      rwa [ms] at told
    · rw [if_neg warmer, hotEvents, if_neg fun h => hot h.2.2.1, if_neg fun h => warmer h.2.2]
      exact unhanded

/-- R82 to R85: the judgement of an in-word. -/
theorem judgeLamp_judges (side : Side) (w : Half) (s : State) :
    let b := s.lamps.get side
    let j := judgedBar (mechOf s) b w
    LampLeft side j s.link s.capture.state s (judgeLamp side w s)
      ∧ HandsOver (hotEvents side b j w s.ret.latched s.ms) (hotLatched b j w s) (judgeLamp side w s) := by
  intro b j
  by_cases answered : LampAnswered b w
  · have judges : judgeLamp side w s = takeAnswer side w s := by
      rw [judgeLamp, (lampVerdict_answered b w).mpr answered]
    have given : j = { b with
        noReply := 0, life := some ((w >>> 4).setWidth 2), temp := some (w >>> 8).toNat
        state := if lampFaultBits w = 0 then thermalStep (mechOf s) (w >>> 8).toNat b.state
          else failedWith (if lampFaultBits w = 1 then .openString else if lampFaultBits w = 2 then .short
            else .selfOvertemp) b.state } := if_pos answered
    by_cases sound : lampFaultBits w = 0
    · rw [if_pos sound] at given
      have takes : takeAnswer side w s = thermalEvents side (w >>> 8).toNat b.state (setBar side j s) := by
        rw [takeAnswer, lampFaultField_eq, if_pos sound, given]
        simp only [bar_setBar, setBar_setBar, thermalNext_eq]
        rfl
      have told := thermalEvents_tells (x := setBar side j s) (b := b) answered sound (by rw [bar_setBar])
        (handsOver_same rfl rfl rfl) rfl
      have frame := thermalEvents_changes side (w >>> 8).toNat b.state (setBar side j s)
      rw [judges, takes]
      exact ⟨(setBar_left side j s).trans_changes frame, told⟩
    · rw [if_neg sound] at given
      have takes : takeAnswer side w s = setBar side j s := by
        rw [takeAnswer, lampFaultField_eq, if_neg sound, given]
        simp only [failBar_eq, bar_setBar, setBar_setBar]
        rfl
      have quiet : hotEvents side b j w s.ret.latched s.ms = [] := by
        rw [hotEvents, if_neg fun h => sound h.2.1, if_neg fun h => sound h.2.1]
      have kept : hotLatched b j w s = s := if_neg fun h => sound h.2.1
      rw [judges, takes, quiet, kept]
      exact ⟨setBar_left side j s, handsOver_same rfl rfl rfl⟩
  · have judges : judgeLamp side w s = countMiss side s := by
      have missed : lampVerdict b w ≠ .answered := mt (lampVerdict_answered b w).mp answered
      unfold judgeLamp
      cases verdict : lampVerdict (s.lamps.get side) w with
      | answered => exact absurd verdict missed
      | noReply => rfl
      | stale => rfl
    have given : j = { b with
        noReply := min 8 (b.noReply + 1)
        state := if min 8 (b.noReply + 1) = 8 then failedWith .noReply b.state else b.state } := if_neg answered
    have counts : countMiss side s = setBar side j s := by
      rw [countMiss, given]
      by_cases full : min 8 (b.noReply + 1) = 8
      · rw [if_pos (by exact full), if_pos full]
        simp only [failBar_eq, bar_setBar, setBar_setBar]
        rfl
      · rw [if_neg (by exact full), if_neg full]
    have quiet : hotEvents side b j w s.ret.latched s.ms = [] := by
      rw [hotEvents, if_neg fun h => answered h.1, if_neg fun h => answered h.1]
    have kept : hotLatched b j w s = s := if_neg fun h => answered h.1
    rw [judges, counts, quiet, kept]
    exact ⟨setBar_left side j s, handsOver_same rfl rfl rfl⟩

/-! ## A failed bar (R88) -/

theorem lampFaultOf_ne_overrun (side : Side) : lampFaultOf side ≠ .returnOverrun := by cases side <;> decide

/-- A failed bar latches its fault, its event after the records of the judgement. -/
theorem examineFailed_tells {x y : State} {rs : List ReturnRecord} (n : BarState) (state : (x.lamps.get side).state = n)
    (told : HandsOver rs y x) (ms : x.ms = y.ms) :
    HandsOver (rs ++ failedEvents side n y.ret.latched y.ms) (failedLatched side n y) (examineFailed side x) := by
  have same := told.mem_latched (f := lampFaultOf side) (lampFaultOf_ne_overrun side)
  have quiet (sound : isFailed n = false) (none : failedEvents side n y.ret.latched y.ms = [])
      (still : examineFailed side x = x) :
      HandsOver (rs ++ failedEvents side n y.ret.latched y.ms) (failedLatched side n y) (examineFailed side x) := by
    have kept : failedLatched side n y = y := if_neg fun h => by simp [sound] at h
    rw [none, still, kept, List.append_nil]
    exact told
  subst state
  cases failed : (x.lamps.get side).state with
  | ready => exact failed ▸ quiet (by rw [failed]; rfl) (by rw [failed]; rfl) (by rw [examineFailed, failed])
  | warm => exact failed ▸ quiet (by rw [failed]; rfl) (by rw [failed]; rfl) (by rw [examineFailed, failed])
  | hot => exact failed ▸ quiet (by rw [failed]; rfl) (by rw [failed]; rfl) (by rw [examineFailed, failed])
  | failed k =>
    have examines : examineFailed side x = latch (lampFaultOf side) .lampFault (sideNumber side) (failNumber k) x := by
      rw [examineFailed, failed]
    rw [examines, failedEvents]
    by_cases latched : lampFaultOf side ∈ y.ret.latched
    · have kept : failedLatched side (.failed k) y = y := if_neg fun h => h.2 latched
      rw [if_pos latched, latch_latched (same.mpr latched), kept, List.append_nil]
      exact told
    · have entered : failedLatched side (.failed k) y = enterLatched (lampFaultOf side) y := if_pos ⟨rfl, latched⟩
      rw [if_neg latched, latch_fresh (mt same.mp latched), entered, raise, ← ms]
      exact (told.enterLatched (lampFaultOf_ne_overrun side)).trans (.hand _ _)

/-! ## The verification of a load (R87) -/

section
variable {b j : Bar} {z : State}

theorem verifyLoad_idle (j_eq : z.lamps.get side = j) (idle : ¬ (j.load = .verify ∧ isFailed j.state = false)) (v : Verdict) :
    verifyLoad side w v z = z := by
  rw [verifyLoad, j_eq]
  exact if_neg (by simpa using idle)

theorem verifyLoad_verifies (j_eq : z.lamps.get side = j) (verifies : j.load = .verify ∧ isFailed j.state = false)
    (v : Verdict) :
    verifyLoad side w v z = if v = .answered then compareEcho side w z else placeVerifyPoll side z := by
  rw [verifyLoad, j_eq]
  exact if_pos (by simpa using verifies)

theorem recordTemp_eq (side : Side) (temp : Nat) (z : State) :
    recordTemp side temp z = { z with capture := { z.capture with state := withTemp side temp z.capture.state } } := by
  unfold recordTemp setCapture
  cases state : z.capture.state with
  | free => simp only [withTemp, ← state]
  | holding c => simp only [withTemp, ← state]
  | exposing c stage => cases stage <;> simp only [withTemp, ← state]

end

end

end Sys2Proof.Machine
end

section
/-! SUPPORT. The end of an exchange with a bar (5.1, 5.2): the load of the bar, and the fire that waits for it. -/
namespace Sys2Proof.Machine

/-! ## Where a load stands at the end of a step -/

theorem phaseNow_of_other {phase : LoadPhase} {u : State} {side : Side} (other : loadUnderway u side = false) :
    phaseNow phase u side = phase := if_neg fun h => by simp [other] at h

theorem loadStarts_load {e : Exchange} {u : State} (runs : u.link.exchange = some e) (lamps : PerSide Bar) (side : Side) :
    ((loadStarts e lamps).get side).load = phaseNow (lamps.get side).load u side := by
  cases e with
  | sample head q => simp [loadStarts, phaseNow, loadUnderway, runs]
  | poll other => simp [loadStarts, phaseNow, loadUnderway, runs]
  | load other code =>
    by_cases placed : (lamps.get other).load = .placed
    · cases other <;> cases side <;> simp_all [loadStarts, phaseNow, loadUnderway, PerSide.get, PerSide.set]
    · cases other <;> cases side <;> simp_all [loadStarts, phaseNow, loadUnderway, PerSide.get]

/-- R40: with the link free a load that is placed is under way once its exchange has started. -/
theorem settle_load {x : State} (free : x.link.exchange = none) (b : State) (side : Side) :
    ((settle b x).lamps.get side).load = phaseNow (x.lamps.get side).load (settle b x) side := by
  have lamps : (settle b x).lamps = (startExchange (roundEdge b x)).lamps := (statusChange_changes b _).lamps_eq (by decide)
  have edge : (roundEdge b x).lamps = x.lamps := (roundEdge_changes b x).lamps_eq (by decide)
  have link := roundEdge_link b x
  have idle {u : State} (none : u.link.exchange = none) : loadUnderway u side = false := by rw [loadUnderway, none]
  rw [lamps]
  by_cases serves : inService (roundEdge b x) ∧ (roundEdge b x).link.exchange = none
  · cases next : nextExchange (roundEdge b x).link with
    | none =>
      have still : startExchange (roundEdge b x) = roundEdge b x := by
        rw [startExchange, if_pos serves, next]
      rw [still, edge, phaseNow_of_other (idle (by rw [settle_link, still, link, free]))]
    | some e =>
      have starts : startExchange (roundEdge b x) = { roundEdge b x with
          link := { takeRequest e (roundEdge b x).link with exchange := some e }
          lamps := loadStarts e (roundEdge b x).lamps } := by
        rw [startExchange, if_pos serves, next]
      have runs : (settle b x).link.exchange = some e := by rw [settle_link, starts]
      rw [starts, ← edge]
      exact loadStarts_load runs (roundEdge b x).lamps side
  · have still : startExchange (roundEdge b x) = roundEdge b x := if_neg serves
    rw [still, edge, phaseNow_of_other (idle (by rw [settle_link, still, link, free]))]

/-! ## The end of an exchange -/

theorem lampLatched_endExchange (side : Side) (b j n : Bar) (w : Half) (s : State) :
    lampLatched side b j n w (endExchange s) = endExchange (lampLatched side b j n w s) := by
  have hot : hotLatched b j w (endExchange s) = endExchange (hotLatched b j w s) := by
    rw [hotLatched, hotLatched, apply_ite endExchange]
    rfl
  have failed (x : State) : failedLatched side n.state (endExchange x) = endExchange (failedLatched side n.state x) := by
    rw [failedLatched, failedLatched, apply_ite endExchange]
    rfl
  show failedLatched side n.state (hotLatched b j w (endExchange s)) = _
  rw [hot, failed]
  rfl

section
variable {side : Side} {b j n bar : Bar} {phase : LoadPhase} {w : Half} {l : SensorLink} {kept : CaptureState}
  {c : CaptureRecord} {s v : State}

/-- The state with its bars, link and capture as the judgement of an in-word left them. -/
structure LampJudged (side : Side) (b j n : Bar) (phase : LoadPhase) (w : Half) (l : SensorLink) (kept : CaptureState)
    (s v : State) : Prop where
  left : LampLeft side { n with load := phase } l kept s v
  told : HandsOver (lampEvents side b j n w s.ret.latched s.ms) (lampLatched side b j n w (endExchange s)) v

theorem Handed.of_endExchange {rs : List ReturnRecord} {x u : State} (h : Handed rs (endExchange x) u) : Handed rs x u :=
  .of_same (y := endExchange x) rfl rfl rfl h

theorem captureBarFailed_abandons (waits : ∃ f, v.capture.state = .exposing c (.load f))
    (failed : c.params.sides.get side = true ∧ isFailed (v.lamps.get side).state = true) :
    captureBarFailed side v = abandonFire .lampFault (failedSides v c.params.sides) v := by
  obtain ⟨f, waits⟩ := waits
  simp only [captureBarFailed, waits]
  exact if_pos failed

theorem captureBarFailed_keeps (keeps : ∀ c, (∃ f, v.capture.state = .exposing c (.load f)) →
      ¬ (c.params.sides.get side = true ∧ isFailed (v.lamps.get side).state = true)) : captureBarFailed side v = v := by
  unfold captureBarFailed
  split
  · rename_i c f waits
    exact if_neg (keeps c ⟨f, waits⟩)
  all_goals rfl

/-- A failed bar ends the fire that waits for its load; otherwise the link serves what stands first. -/
theorem LampJudged.ends (h : LampJudged side b j n phase w l kept s v) (free : l.exchange = none)
    (waits : ∀ c, (∃ f, kept = .exposing c (.load f)) ↔ ∃ f, s.capture.state = .exposing c (.load f)) :
    LampEnds side b j n phase w l kept s (settle s (captureBarFailed side v)) := by
  obtain ⟨⟨lamps, link, capture, changes⟩, told⟩ := h
  have bar (x : Side) : v.lamps.get x = if x = side then { n with load := phase } else s.lamps.get x := by
    rw [lamps]
    cases x <;> cases side <;> rfl
  have state : (v.lamps.get side).state = n.state := by rw [bar, if_pos rfl]
  have load : v.capture.state = kept := by rw [capture]
  have settings : v.settings = s.settings := changes.get .settings (by decide)
  have ms : v.ms = s.ms := changes.get .ms (by decide)
  have lasting (x : Side) : (v.lamps.get x).lasting = if x = side then n.lasting else (s.lamps.get x).lasting := by
    rw [bar]
    split <;> rfl
  refine ⟨fun x => ?_, fun keeps => ?_, fun c abandons => ?_⟩
  · obtain ⟨barV, barR⟩ := (captureBarFailed_changes side v).get .bars (by decide)
    rw [settle_lasting, ← lasting]
    cases x
    · exact barV
    · exact barR
  · have still : captureBarFailed side v = v := by
      refine captureBarFailed_keeps fun c held failed => keeps c ⟨(waits c).mp ?_, failed.1, state ▸ failed.2⟩
      rwa [load] at held
    rw [still]
    refine ⟨.of_endExchange ?_, linkServes_settle link (by rw [settings]) s, fun x => ?_,
      (settle_get s v .capture (by decide)).trans capture, settle_only (changes.mono (by decide))⟩
    · rw [List.append_nil, ← lampLatched_endExchange]
      exact told.settle s
    · rw [settle_load (by rw [link, free]), bar]
      split <;> rfl
  · obtain ⟨held, sides, failed⟩ := abandons
    rw [← waits, ← load] at held
    have holds : heldCapture v = some c := by
      obtain ⟨f, held⟩ := held
      rw [heldCapture, held]
    have same : failedSides v c.params.sides =
        failedSides { s with lamps := s.lamps.set side n } c.params.sides := by
      rw [failedSides, failedSides, lamps]
      cases side <;> rfl
    obtain ⟨ends, withdrawn⟩ := abandonFire_ends holds .lampFault (failedSides v c.params.sides)
    rw [captureBarFailed_abandons held ⟨sides, state ▸ failed⟩]
    rw [same, ms] at ends
    rw [same] at withdrawn ⊢
    have kept := CaptureKept.settle s (abandonFire .lampFault
      (failedSides { s with lamps := s.lamps.set side n } c.params.sides) v)
    refine ⟨.of_endExchange ?_, kept.capture.trans (ends.capture.trans (by rw [capture])), ?_, kept.withdrawn withdrawn,
      kept.volumes.trans (ends.volumes.trans (changes.get .volumes (by decide)))⟩
    · rw [← lampLatched_endExchange]
      exact (told.trans ends.handed).settle s
    · exact givenUp_mono kept (givenUp_congr (changes.get .frames (by decide)) (changes.get .account (by decide)) ends.givenUp)

end

end Sys2Proof.Machine
end

section
/-! SUPPORT. The replies of the bars (5.1), and the obligation on them. -/
namespace Sys2Proof.Machine

section
variable {side : Side} {b j n bar : Bar} {phase : LoadPhase} {w : Half} {l : SensorLink} {kept : CaptureState}
  {s x z : State}

theorem judgedBar_kept (m : MechSettings) (b : Bar) (w : Half) :
    (judgedBar m b w).load = b.load ∧ (judgedBar m b w).echo = b.echo ∧ (judgedBar m b w).lastCode = b.lastCode := by
  unfold judgedBar
  split <;> exact ⟨rfl, rfl, rfl⟩

theorem LampLeft.self (bar : z.lamps.get side = n) : LampLeft side n z.link z.capture.state z z := by
  refine ⟨?_, rfl, rfl, .refl _ z⟩
  rw [← bar]
  cases side <;> rfl

theorem failedEvents_hotLatched (side : Side) (n : BarState) (b j : Bar) (w : Half) (x : State) :
    failedEvents side n (hotLatched b j w x).ret.latched (hotLatched b j w x).ms =
      failedEvents side n x.ret.latched x.ms := by
  have ms : (hotLatched b j w x).ms = x.ms := by
    unfold hotLatched
    split <;> rfl
  have same : lampFaultOf side ∈ (hotLatched b j w x).ret.latched ↔ lampFaultOf side ∈ x.ret.latched := by
    unfold hotLatched
    split
    · exact (mem_insertFault _ _ _).trans (or_iff_right (by cases side <;> decide))
    · exact Iff.rfl
  cases n with
  | failed k => simp only [failedEvents, same, ms]
  | ready => rfl
  | warm => rfl
  | hot => rfl

/-- The judgement of an in-word, what follows from it on the load, and the fault of a failed bar. -/
theorem LampJudged.of (z_eq : judgeLamp side w (endExchange s) = z) (b_eq : s.lamps.get side = b)
    (j_eq : judgedBar (mechOf s) b w = j) (verified : LampLeft side { n with load := phase } l kept z x)
    (unhanded : HandsOver [] z x) : LampJudged side b j n phase w l kept s (examineFailed side x) := by
  subst z_eq b_eq j_eq
  obtain ⟨judged, told⟩ := judgeLamp_judges side w (endExchange s)
  have ends : Changes barParts s (endExchange s) := (endExchange_changes s).mono (by decide)
  have lamps : x.lamps = s.lamps.set side { n with load := phase } := by
    rw [verified.lamps, judged.lamps]
    cases side <;> rfl
  have capture : x.capture = { s.capture with state := kept } := by rw [verified.capture, judged.capture]; rfl
  have left : LampLeft side { n with load := phase } l kept s x :=
    ⟨lamps, verified.link, capture, (ends.trans judged.changes).trans verified.changes⟩
  refine ⟨left.trans_changes (examineFailed_changes side x), ?_⟩
  have latchedMs : (hotLatched (s.lamps.get side) (judgedBar (mechOf s) (s.lamps.get side) w) w (endExchange s)).ms = s.ms := by
    unfold hotLatched
    split <;> rfl
  have state : (x.lamps.get side).state = n.state := by rw [lamps, PerSide.get_set_same]
  have ms : x.ms = s.ms := left.changes.get .ms (by decide)
  have tells := examineFailed_tells (side := side) n.state state (told.trans unhanded) (ms.trans latchedMs.symm)
  rw [List.append_nil] at tells
  rw [failedEvents_hotLatched] at tells
  exact tells

/-! ## The verification of a load (R87) -/

theorem placeVerifyPoll_left (bar : z.lamps.get side = n) :
    LampLeft side n { z.link with polls := z.link.polls.set side { z.link.polls.get side with verify := true } }
      z.capture.state z (placeVerifyPoll side z) :=
  ⟨(LampLeft.self bar).lamps, rfl, rfl, (placeVerifyPoll_changes side z).mono (by decide)⟩

theorem compareEcho_matches (j_eq : z.lamps.get side = j) (same : w.toNat % 16 = j.lastCode.getD 0 % 16) :
    LampLeft side { j with echo := .isMatch, load := .loaded } z.link
      (withTemp side (w >>> 8).toNat z.capture.state) z (compareEcho side w z)
      ∧ HandsOver [] z (compareEcho side w z) := by
  have compares : compareEcho side w z = recordTemp side (w >>> 8).toNat
      (setBar side { j with echo := .isMatch, load := .loaded } z) := by
    rw [compareEcho, j_eq]
    exact if_pos (by rw [lampEcho_eq]; exact same)
  have frame := compareEcho_changes side w z
  rw [compares, recordTemp_eq] at frame ⊢
  exact ⟨⟨rfl, rfl, rfl, frame⟩, handsOver_same rfl rfl rfl⟩

theorem compareEcho_fails (j_eq : z.lamps.get side = j) (other : w.toNat % 16 ≠ j.lastCode.getD 0 % 16)
    (again : j.echo = .mismatch) (sound : isFailed j.state = false) :
    LampLeft side { j with state := .failed .echo } z.link z.capture.state z (compareEcho side w z)
      ∧ HandsOver [] z (compareEcho side w z) := by
  have compares : compareEcho side w z = setBar side { j with state := .failed .echo } z := by
    have failed : compareEcho side w z = failBar side .echo z := by
      rw [compareEcho, j_eq]
      exact (if_neg (by rw [lampEcho_eq]; exact other)).trans (if_pos again)
    have state : failedWith .echo j.state = .failed .echo := if_neg (by simp [sound])
    rw [failed, failBar_eq, j_eq, state]
  rw [compares]
  exact ⟨setBar_left side _ z, handsOver_same rfl rfl rfl⟩

theorem compareEcho_loadsAgain (j_eq : z.lamps.get side = j) (other : w.toNat % 16 ≠ j.lastCode.getD 0 % 16)
    (first : j.echo ≠ .mismatch) :
    LampLeft side { j with echo := .mismatch, load := .placed }
      { z.link with loads := z.link.loads.set side (some (j.lastCode.getD 0)) } z.capture.state z (compareEcho side w z)
      ∧ HandsOver [] z (compareEcho side w z) := by
  have compares : compareEcho side w z =
      placeLoad side (j.lastCode.getD 0) (setBar side { j with echo := .mismatch } z) := by
    rw [compareEcho, j_eq]
    exact (if_neg (by rw [lampEcho_eq]; exact other)).trans (if_neg first)
  have frame := compareEcho_changes side w z
  rw [compares] at frame ⊢
  refine ⟨⟨?_, rfl, rfl, frame⟩, handsOver_same rfl rfl rfl⟩
  rw [placeLoad]
  simp only [bar_setBar]
  cases side <;> rfl

theorem withTemp_waits (side : Side) (temp : Nat) (k : CaptureState) (c : CaptureRecord) :
    (∃ f, withTemp side temp k = .exposing c (.load f)) ↔ ∃ f, k = .exposing c (.load f) := by
  cases k with
  | free => simp [withTemp]
  | holding d => simp [withTemp]
  | exposing d stage => cases stage <;> simp [withTemp]

end

/-! ## The replies -/

section
variable {side : Side} {w : Half} {code : Nat} {s u : State}

theorem exec_pollReply (runs : s.link.exchange = some (.poll side)) :
    exec (.lampPollReply w) s = .next (settle s
      (if s.link.discard then examineFailed side (endExchange s) else pollReply side w (endExchange s))) := by
  have ends : exec (.lampPollReply w) s = .next (settle s (lampPollEnds w s)) := rfl
  rw [ends, lampPollEnds, runs]

theorem exec_loadReply (runs : s.link.exchange = some (.load side code)) :
    exec (.lampLoadReply w) s = .next (settle s
      (if s.link.discard then
        examineFailed side (endExchange (setBar side { s.lamps.get side with lastCode := some code } s))
      else loadReply side code w (endExchange s))) := by
  have ends : exec (.lampLoadReply w) s = .next (settle s (lampLoadEnds w s)) := rfl
  rw [ends, lampLoadEnds, runs]

/-- An exchange whose in-word is discarded: a FAILED bar latches its fault, and the link goes on. -/
theorem discarded_ends {x : State} {ps : List Part} (x_changes : Changes ps s x) (unhanded : HandsOver [] s x)
    (state : (x.lamps.get side).state = (s.lamps.get side).state) (loads : ∀ y, (x.lamps.get y).load = (s.lamps.get y).load)
    (link : x.link = { s.link with exchange := none, discard := false }) (settings : x.settings = s.settings) (ms : x.ms = s.ms) :
    let b := s.lamps.get side
    let u := settle s (examineFailed side x)
    Handed (failedEvents side b.state s.ret.latched s.ms) (failedLatched side b.state s) u
      ∧ LinkServes { s.link with exchange := none, discard := false } s u ∧ Only (ps ++ handParts) s u
      ∧ (isFailed b.state = false ∨ lampFaultOf side ∈ s.ret.latched → Only ps s u)
      ∧ ∀ y, (u.lamps.get y).load = phaseNow (s.lamps.get y).load u y := by
  intro b u
  have tells := examineFailed_tells (side := side) b.state state unhanded ms
  have frame := examineFailed_changes side x
  have kept : (examineFailed side x).link = x.link := frame.get .link (by decide)
  have same : (examineFailed side x).lamps = x.lamps := frame.lamps_eq (by decide)
  refine ⟨tells.settle s, linkServes_settle (kept.trans link) ?_ s, ?_, fun quiet => ?_, fun y => ?_⟩
  · rw [frame.get .settings (by decide), settings]
  · exact ((x_changes.mono fun _ hp => List.mem_append_left _ hp).trans
      (frame.mono fun _ hp => List.mem_append_right _ hp)).settle_only
  · have still : examineFailed side x = x := by
      unfold examineFailed
      split
      · rename_i k failed
        rw [state] at failed
        refine latch_latched ((unhanded.mem_latched (lampFaultOf_ne_overrun side)).mpr (quiet.resolve_left fun sound => ?_))
        rw [failed] at sound
        exact Bool.noConfusion sound
      all_goals rfl
    rw [show u = settle s x from congrArg (settle s) still]
    exact x_changes.settle_only
  · rw [settle_load (by rw [kept, link]), same, loads]

end

/-- Settles O56: the in-word as it is judged, the load as it is verified, and what a failed bar ends. -/
theorem lampRepliesJudged : Obligations.LampRepliesJudged := by
  intro s side w b j n verifies free again discarded
  obtain ⟨load, echo, lastCode⟩ : j.load = b.load ∧ j.echo = b.echo ∧ j.lastCode = b.lastCode :=
    judgedBar_kept (mechOf s) b w
  have bar : (judgeLamp side w (endExchange s)).lamps.get side = j := by
    rw [(judgeLamp_judges side w (endExchange s)).1.lamps, PerSide.get_set_same]
    rfl
  have capture : (judgeLamp side w (endExchange s)).capture = s.capture :=
    (judgeLamp_judges side w (endExchange s)).1.capture
  have linkOf (kept : s.link.discard = false) : (judgeLamp side w (endExchange s)).link = free := by
    rw [(judgeLamp_judges side w (endExchange s)).1.link, endExchange, ← kept]
  have ofJudged {m : Bar} {phase : LoadPhase} {l : SensorLink} {kept : CaptureState} {x : State} :=
    LampJudged.of (n := m) (phase := phase) (l := l) (kept := kept) (x := x) (b := b) (j := j) (side := side) (w := w)
      (s := s) rfl rfl rfl
  have polled : pollReply side w (endExchange s) = captureBarFailed side (examineFailed side
      (verifyLoad side w (lampVerdict b w) (judgeLamp side w (endExchange s)))) := rfl
  have loaded (code : Nat) : loadReply side code w (endExchange s) = captureBarFailed side (examineFailed side
      (awaitVerify side (setBar side { (judgeLamp side w (endExchange s)).lamps.get side with lastCode := some code }
        (judgeLamp side w (endExchange s))))) := rfl
  have same (c : CaptureRecord) : (∃ f, s.capture.state = .exposing c (.load f)) ↔
      ∃ f, s.capture.state = .exposing c (.load f) := Iff.rfl
  generalize judgeLamp side w (endExchange s) = z at bar capture linkOf ofJudged polled loaded
  have verifiesOf (h : verifies) : j.load = .verify ∧ isFailed j.state = false := ⟨load.trans h.1, h.2⟩
  refine ⟨fun runs => ⟨fun discard => ?_, fun discard => ?_⟩, fun code runs => ⟨fun discard => ?_, fun discard => ?_⟩⟩
  · have run := exec_pollReply (w := w) runs
    rw [if_pos discard] at run
    exact ⟨_, run, discarded_ends (x := endExchange s) (endExchange_changes s) (handsOver_same rfl rfl rfl) rfl
      (fun _ => rfl) rfl rfl rfl⟩
  · have run := exec_pollReply (w := w) runs
    have link := linkOf discard
    rw [if_neg (by simp [discard]), polled] at run
    refine ⟨_, run, fun idle => ?_, fun verify missed => ?_, fun verify answered isMatch => ?_,
      fun verify answered mismatch sound => ?_, fun verify answered failed => ?_⟩
    · have n_eq : n = j := if_neg fun h => idle ⟨h.1, h.2.1⟩
      have phase : { n with load := b.load } = j := by rw [n_eq, ← load]
      rw [verifyLoad_idle bar (by rw [load]; exact idle)]
      have left : LampLeft side { n with load := b.load } free s.capture.state z z := by
        rw [phase, ← link, ← capture]
        exact .self bar
      exact (ofJudged left (handsOver_same rfl rfl rfl)).ends rfl same
    · have n_eq : n = j := if_neg fun h => missed h.2.2
      have phase : { n with load := .verify } = j := by rw [n_eq, ← (verifiesOf verify).1]
      rw [verifyLoad_verifies bar (verifiesOf verify), if_neg (mt (lampVerdict_answered b w).mp missed)]
      have left : LampLeft side { n with load := .verify } again s.capture.state z (placeVerifyPoll side z) := by
        have placed := placeVerifyPoll_left bar
        rwa [link, capture, ← phase] at placed
      exact (ofJudged left (handsOver_same rfl rfl rfl)).ends rfl same
    all_goals rw [verifyLoad_verifies bar (verifiesOf verify), if_pos ((lampVerdict_answered b w).mpr answered)]
    all_goals
      have n_eq : n = if w.toNat % 16 = b.lastCode.getD 0 % 16 then { j with echo := .isMatch }
          else if b.echo = .mismatch then { j with state := .failed .echo }
          else { j with echo := .mismatch } := if_pos ⟨verify.1, verify.2, answered⟩
      rw [← lastCode, ← echo] at n_eq
    · have equal : w.toNat % 16 = j.lastCode.getD 0 % 16 := by
        refine Classical.byContradiction fun other => ?_
        rw [if_neg other] at n_eq
        by_cases again : j.echo = .mismatch
        · rw [if_pos again] at n_eq
          exact absurd (again.symm.trans ((congrArg Bar.echo n_eq).symm.trans isMatch)) (by decide)
        · rw [if_neg again] at n_eq
          exact nomatch (show EchoResult.mismatch = .isMatch from (congrArg Bar.echo n_eq).symm.trans isMatch)
      rw [if_pos equal] at n_eq
      obtain ⟨left, told⟩ := compareEcho_matches bar equal
      have phase : { n with load := .loaded } = { j with echo := .isMatch, load := .loaded } := by rw [n_eq]
      rw [link, capture, ← phase] at left
      exact (ofJudged left told).ends rfl (withTemp_waits side _ _)
    · have other : w.toNat % 16 ≠ j.lastCode.getD 0 % 16 := fun equal => by
        rw [if_pos equal] at n_eq
        exact nomatch (show EchoResult.isMatch = .mismatch from (congrArg Bar.echo n_eq).symm.trans mismatch)
      have first : j.echo ≠ .mismatch := fun again => by
        rw [if_neg other, if_pos again] at n_eq
        rw [n_eq] at sound
        exact Bool.noConfusion sound
      rw [if_neg other, if_neg first] at n_eq
      obtain ⟨left, told⟩ := compareEcho_loadsAgain bar other first
      have phase : { n with load := .placed } = { j with echo := .mismatch, load := .placed } := by rw [n_eq]
      rw [link, capture, ← phase, lastCode] at left
      exact (ofJudged left told).ends rfl same
    · have other : w.toNat % 16 ≠ j.lastCode.getD 0 % 16 := fun equal => by
        rw [if_pos equal] at n_eq
        rw [n_eq] at failed
        exact absurd (verify.2.symm.trans failed) (by decide)
      have again : j.echo = .mismatch := by
        refine Classical.byContradiction fun first => ?_
        rw [if_neg other, if_neg first] at n_eq
        rw [n_eq] at failed
        exact absurd (verify.2.symm.trans failed) (by decide)
      rw [if_neg other, if_pos again] at n_eq
      obtain ⟨left, told⟩ := compareEcho_fails bar other again verify.2
      have phase : { n with load := .verify } = { j with state := .failed .echo } := by
        rw [n_eq, ← (verifiesOf verify).1]
      rw [link, capture, ← phase] at left
      exact (ofJudged left told).ends rfl same
  · have run := exec_loadReply (w := w) runs
    rw [if_pos discard] at run
    let x := endExchange (setBar side { s.lamps.get side with lastCode := some code } s)
    have bars (y : Side) : x.lamps.get y = if y = side then { b with lastCode := some code } else s.lamps.get y := by
      show (s.lamps.set side _).get y = _
      cases side <;> cases y <;> rfl
    have loads (y : Side) : (x.lamps.get y).load = (s.lamps.get y).load := by
      rw [bars]
      split
      · subst y
        rfl
      · rfl
    have changes : Changes [.bars, .link] s x := by
      intro p hp
      have loadV := loads .v
      have loadR := loads .r
      cases p <;> simp_all [Part.same, x, endExchange, setBar, PerSide.get]
    refine ⟨_, run, discarded_ends (x := x) changes (handsOver_same rfl rfl rfl) (by rw [bars, if_pos rfl]) loads rfl rfl rfl,
      fun y => ?_⟩
    obtain ⟨barV, barR⟩ := (examineFailed_changes side x).get .bars (by decide)
    have kept : ((examineFailed side x).lamps.get y).lasting = (x.lamps.get y).lasting := by
      cases y
      · exact barV
      · exact barR
    rw [settle_lasting]
    refine kept.trans ?_
    rw [bars]
    split <;> rfl
  · have run := exec_loadReply (w := w) runs
    have link := linkOf discard
    rw [if_neg (by simp [discard]), loaded, bar] at run
    let k : Bar := { j with lastCode := some code }
    have kBar : (setBar side k z).lamps.get side = k := bar_setBar side k z
    have phase : k.load = b.load := load
    refine ⟨_, run, fun underway => ?_, fun other => ?_⟩
    · have awaits : awaitVerify side (setBar side k z) = placeVerifyPoll side (setBar side { k with load := .verify } z) := by
        rw [awaitVerify, kBar]
        exact (if_pos (phase.trans underway)).trans (by rw [setBar_setBar])
      have left : LampLeft side { k with load := .verify } again s.capture.state z
          (placeVerifyPoll side (setBar side { k with load := .verify } z)) := by
        refine ⟨rfl, ?_, ?_, ((setBar_changes side _ z).mono (by decide)).trans
          ((placeVerifyPoll_changes side _).mono (by decide))⟩
        · show { z.link with polls := z.link.polls.set side { z.link.polls.get side with verify := true } } = again
          rw [link]
        · show z.capture = _
          rw [capture]
      rw [awaits]
      exact (ofJudged left (handsOver_same rfl rfl rfl)).ends rfl same
    · have awaits : awaitVerify side (setBar side k z) = setBar side k z := by
        rw [awaitVerify, kBar]
        exact if_neg fun underway => other (phase.symm.trans underway)
      have left : LampLeft side { k with load := b.load } free s.capture.state z (setBar side k z) := by
        have set := setBar_left side k z
        have kept : { k with load := b.load } = k := by rw [← phase]
        rw [link, capture] at set
        rwa [kept]
      rw [awaits]
      exact (ofJudged left (handsOver_same rfl rfl rfl)).ends rfl same

end Sys2Proof.Machine
end

section
/-! SUPPORT. The strobe of a fire (5.2, 6.1): its final park check, its raise, its end and its cut. -/
namespace Sys2Proof.Machine

section
variable {s x z u : State} {c : CaptureRecord} {f : FireRecord} {o : OutcomeCode} {d : Nat}

/-! ## The park condition (R92) -/

theorem fresh_iff (s : State) (f : Fix) : fresh s.ms f = true ↔ (s.ms - f.time).toNat ≤ 20 := by
  exact decide_eq_true_iff

theorem parkCheck_none (lost : s.position.fused = none) : parkCheck s = .noPosition := by rw [parkCheck, lost]

theorem parkCheck_some {f : Fix} (fused : s.position.fused = some f) :
    parkCheck s = if ¬ (s.ms - f.time).toNat ≤ 20 then .stale
      else if circular f.angle (mechOf s).park ≤ (mechOf s).parkWindow then .holds else .outside := by
  rw [parkCheck, fused]
  exact ite_congr (propext (not_congr (fresh_iff s f))) (fun _ => rfl) fun _ => rfl

theorem parkCheck_holds_iff (s : State) : parkCheck s = .holds ↔ ParkHolds s := by
  unfold ParkHolds
  cases fused : s.position.fused with
  | none => simp [parkCheck_none fused]
  | some f =>
    simp only [parkCheck_some fused, Option.some.injEq, exists_eq_left']
    generalize (s.ms - f.time).toNat = age
    by_cases old : age ≤ 20
    · by_cases near : circular f.angle (mechOf s).park ≤ (mechOf s).parkWindow <;> simp [old, near]
    · simp [old]

/-- The detail of a park condition that fails names why. -/
theorem parkFails_iff (s : State) (d : Nat) : ParkFails s d ↔ ¬ ParkHolds s ∧ parkDetail (parkCheck s) = d := by
  rw [← parkCheck_holds_iff]
  unfold ParkFails
  cases fused : s.position.fused with
  | none => simp [parkCheck_none fused, parkDetail, eq_comm]
  | some f =>
    simp only [parkCheck_some fused, Option.some.injEq, exists_eq_left']
    generalize (s.ms - f.time).toNat = age
    by_cases old : age ≤ 20
    · have young := Nat.not_lt.mpr old
      by_cases near : circular f.angle (mechOf s).park ≤ (mechOf s).parkWindow
      · simp [old, near, Nat.not_lt.mpr near]
      · simp [old, young, near, Nat.not_le.mp near, parkDetail, eq_comm]
    · simp [old, Nat.not_le.mp old, parkDetail, eq_comm]

/-! ## A fire given up -/

theorem fireRefused_settle (ends : FireGivenUp (captureEnds c o d x.ms) x z) (seq : z.seq = x.seq) (b : State) :
    FireRefused c o d x (settle b z) := by
  have kept := CaptureKept.settle b z
  exact ⟨kept.capture.trans ends.capture, givenUp_mono kept ends.givenUp, kept.volumes.trans ends.volumes,
    (settle_get b z .seq (by decide)).trans seq, ends.handed.settle b⟩

theorem heldCapture_exposing {st : Stage} (state : s.capture.state = .exposing c st) : heldCapture s = some c := by
  rw [heldCapture, state]

theorem abandonFire_abandons {st : Stage} (state : s.capture.state = .exposing c st) (o : OutcomeCode) (d : Nat) (b : State) :
    FireAbandoned c o d s (settle b (abandonFire o d s)) := by
  obtain ⟨ends, withdrawn⟩ := abandonFire_ends (heldCapture_exposing state) o d
  exact ⟨fireRefused_settle ends ((abandonFire_changes o d s).get .seq (by decide)) b,
    (CaptureKept.settle b _).withdrawn withdrawn⟩

/-! ## The raise (R93) -/

theorem allLoaded_iff (s : State) (sides : PerSide Bool) : allLoaded s sides = true ↔ BarsLoaded sides s := by
  have both : BarsLoaded sides s ↔ (sides.v = true → s.lamps.v.load = .loaded) ∧ (sides.r = true → s.lamps.r.load = .loaded) :=
    ⟨fun h => ⟨h .v, h .r⟩, fun h side => match side with
      | .v => h.1
      | .r => h.2⟩
  rw [both, allLoaded]
  cases sides.v <;> cases sides.r <;> simp

theorem finalParkCheck_eq (c : CaptureRecord) (f : FireRecord) (s : State) :
    (s.seq.arm ≠ .idle → finalParkCheck c f s = abandonFire .armFault (armNumber s.seq.arm) s)
      ∧ (s.seq.arm = .idle → ParkHolds s → finalParkCheck c f s = raiseStrobe c f s)
      ∧ (s.seq.arm = .idle → ¬ ParkHolds s →
        finalParkCheck c f s = abandonFire .noPosition (parkDetail (parkCheck s)) s) := by
  refine ⟨fun away => if_pos away, fun idle holds => ?_, fun idle fails => ?_⟩
  · rw [finalParkCheck, if_neg (Classical.not_not.mpr idle), (parkCheck_holds_iff s).mpr holds]
  · rw [finalParkCheck, if_neg (Classical.not_not.mpr idle)]
    rw [← parkCheck_holds_iff] at fails
    cases check : parkCheck s with
    | holds => exact absurd check fails
    | noPosition => rfl
    | stale => rfl
    | outside => rfl

theorem fireDataOf_eq (f : FireRecord) (single : Bool) (side : Side) :
    fireDataOf f single side = (f.sides.get side).map fun x => ({
      leaf := if side = .v then f.opening else f.opening + 1
      take := f.take, code := x.code, derated := x.derated, doseLimited := x.doseLimited, temp := x.temp
      singleHead := single } : FireData) := by cases side <;> rfl

theorem raiseStrobe_windows (c : CaptureRecord) (f : FireRecord) (s : State) :
    (raiseStrobe c f s).frames = { s.frames with windows := s.frames.windows.map fun w => w.map fun x =>
      if x.filling = true then x else { x with filling := true, fire := fireDataOf f (eitherDown s) x.side } } := by
  have alike : (raiseStrobe c f s).frames.windows = s.frames.windows.map fun w => w.map fun x =>
      if x.filling = true then x else { x with filling := true, fire := fireDataOf f (eitherDown s) x.side } := by
    refine List.map_congr_left fun w _ => ?_
    cases w with
    | none => rfl
    | some x => cases filling : x.filling <;> simp [isArmed, filling]
  rw [← alike]
  rfl

/-- R93: the strobe is raised, or its fire abandoned. -/
theorem strobeRaises (s : State) : StrobeRaises s := by
  have run : exec .strobeRaise s = .next (settle s (strobeRaised s)) := rfl
  have loadedOf {c : CaptureRecord} {f : FireRecord} (state : s.capture.state = .exposing c (.load f)) :
      strobeRaised s = if allLoaded s c.params.sides then finalParkCheck c f s else s := by rw [strobeRaised, state]
  refine ⟨_, run, fun waits => ?_, fun c f state loaded => ?_⟩
  · have still : strobeRaised s = s := by
      unfold strobeRaised
      split
      · rename_i c f state
        exact if_neg (mt (allLoaded_iff s _).mp (waits c f state))
      all_goals rfl
    rw [still]
    exact (Changes.refl [] s).settle_only
  · obtain ⟨away, holds, fails⟩ := finalParkCheck_eq c f s
    rw [loadedOf state, if_pos ((allLoaded_iff s _).mpr loaded)]
    refine ⟨fun idle park => ?_, fun left => ?_, fun d idle lost => ?_⟩
    · rw [holds idle park]
      refine ⟨(raiseStrobe_changes c f s).settle_only, settle_get s _ .capture (by decide),
        (settle_get s _ .frames (by decide)).trans ((raiseStrobe_windows c f s).trans ?_)⟩
      simp only [fireDataOf_eq]
      rfl
    · rw [away left]
      exact abandonFire_abandons state _ _ s
    · obtain ⟨park, rfl⟩ := (parkFails_iff s d).mp lost
      rw [fails idle park]
      exact abandonFire_abandons state _ _ s

/-! ## The end and the cut (R94, R95) -/

theorem strobeEnds_settle {raisedAt : Word} (state : s.capture.state = .exposing c (.strobe f raisedAt)) (exposure : Nat)
    (isCut : Bool) (o : OutcomeCode) :
    let u := settle s (strobeEnds f exposure isCut o s)
    u.seq = s.seq ∧ StrobeEnded exposure isCut s u ∧ u.ret.tone = (strobeOver exposure isCut s).ret.tone
      ∧ Handed [.completion (kindNumber c.kind) c.tag o c.slot (f.take % 256 + 256 * f.charge) s.ms] s u := by
  have ends := strobeEnds_ends (.refl s) (heldCapture_exposing state) f exposure isCut o
  have kept := CaptureKept.settle s (strobeEnds f exposure isCut o s)
  exact ⟨(settle_get s _ .seq (by decide)).trans ((strobeEnds_changes f exposure isCut o s).get .seq (by decide)),
    strobeEnded_mono kept ends.ended, kept.tone.trans ends.tone, ends.handed.settle s⟩

theorem strobeElapsed_ends {raisedAt : Word} (state : s.capture.state = .exposing c (.strobe f raisedAt))
    (whole : f.exposure ≤ (s.ms - raisedAt).toNat) : strobeElapsed s = strobeEnds f f.exposure false .done s := by
  rw [strobeElapsed, state]
  exact if_pos whole

theorem strobeElapsed_waits (early : ∀ c f t, s.capture.state = .exposing c (.strobe f t) →
    ¬ f.exposure ≤ (s.ms - t).toNat) : strobeElapsed s = s := by
  unfold strobeElapsed
  split
  · rename_i c f t state
    exact if_neg (early c f t state)
  all_goals rfl

theorem strobeFails_sound (idle : s.seq.arm = .idle) (holds : ParkHolds s) : strobeFails s = none := by
  rw [strobeFails, if_neg (Classical.not_not.mpr idle), (parkCheck_holds_iff s).mpr holds]

theorem strobeFails_cause (unsound : ¬ (s.seq.arm = .idle ∧ ParkHolds s)) :
    strobeFails s = some (if s.seq.arm = .idle then .noPosition else .armFault) := by
  by_cases idle : s.seq.arm = .idle
  · have fails : parkCheck s ≠ .holds := fun holds => unsound ⟨idle, (parkCheck_holds_iff s).mp holds⟩
    rw [strobeFails, if_neg (Classical.not_not.mpr idle), if_pos idle]
    cases check : parkCheck s with
    | holds => exact absurd check fails
    | noPosition => rfl
    | stale => rfl
    | outside => rfl
  · rw [strobeFails, if_pos idle, if_neg idle]

theorem strobeCuts (s : State) : StrobeCuts s := by
  have run : exec .strobeCut s = .next (settle s (strobeWatched s)) := rfl
  refine ⟨_, run, fun quiet => ?_, fun c f t state unsound => ?_⟩
  · have still : strobeWatched s = s := by
      unfold strobeWatched
      split
      · rename_i c f t state
        obtain ⟨idle, holds⟩ := quiet.resolve_left fun none => none c f t state
        rw [strobeFails_sound idle holds]
      all_goals rfl
    rw [still]
    exact (Changes.refl [] s).settle_only
  · have cuts : strobeWatched s = cutStrobe f t (if s.seq.arm = .idle then .noPosition else .armFault) s := by
      rw [strobeWatched, state]
      simp only [strobeFails_cause unsound]
    rw [cuts]
    refine ⟨?_, fun whole => ?_, fun short => ?_⟩
    · exact (settle_get s _ .seq (by decide)).trans ((cutStrobe_changes f t _ s).get .seq (by decide))
    · rw [cutStrobe_whole whole]
      exact (strobeEnds_settle state f.exposure false .done).2
    · rw [cutStrobe_short (Nat.not_le.mpr short)]
      exact (strobeEnds_settle state _ true _).2

end

/-- Settles O58. -/
theorem strobesRaiseAndEnd : Obligations.StrobesRaiseAndEnd := by
  intro s
  refine ⟨strobeRaises s, ⟨_, rfl, fun early => ?_, fun c f t state whole => ?_⟩, strobeCuts s⟩
  · rw [strobeElapsed_waits early]
    exact (Changes.refl [] s).settle_only
  · rw [strobeElapsed_ends state whole]
    obtain ⟨seq, ended, tone, handed⟩ := strobeEnds_settle state f.exposure false .done
    exact ⟨ended, tone, seq, handed⟩

end Sys2Proof.Machine
end

section
/-! SUPPORT. The acquisition of a capture, its gate and the charge of its fire (6.1, 6.2, 5.2). -/
namespace Sys2Proof.Machine

section
variable {s x z u : State} {c : CaptureRecord} {v : Volume}

/-! ## The codes of a fire (R90, R91) -/

theorem doseShort_eq (x : State) (v : Volume) (sides : PerSide Bool) : capApplies x v sides = doseShort x v sides := rfl

theorem finalOf_eq (x : State) (v : Volume) (sides : PerSide Bool) (side : Side) :
    (finalCodes x v sides).get side = finalOf x v sides side := by
  rw [finalCodes, finalOf, doseShort_eq]
  split <;> cases side <;> rfl

theorem fireCharge_eq (x : State) (v : Volume) (sides : PerSide Bool) :
    fireCharge x v sides = overSides sides (finalOf x v sides) * v.exposure := by
  have codes : finalCodes x v sides = { v := finalOf x v sides .v, r := finalOf x v sides .r } := by
    rw [← finalOf_eq, ← finalOf_eq]
    rfl
  rw [fireCharge, codes]
  rfl

theorem sideKept_eq (x : State) (v : Volume) (sides : PerSide Bool) (side : Side) :
    sideFire x v sides side = sideKept x v sides side := by
  rw [sideFire, sideKept, finalOf_eq]
  rfl

/-! ## The charge (R92) -/

/-- The bars with the codes of a fire handed to them. -/
def codedBar (asked : Bool) (b : Bar) : Bar :=
  if asked then { b with echo := .none, load := .placed } else { b with load := .none }

/-- The link with the loads of a fire placed and the requests of the last one withdrawn. -/
def codedLink (x : State) (v : Volume) (sides : PerSide Bool) : SensorLink :=
  { x.link with
    loads := {
      v := if sides.v then some (finalOf x v sides .v) else none
      r := if sides.r then some (finalOf x v sides .r) else none }
    polls := { v := { x.link.polls.v with verify := false }, r := { x.link.polls.r with verify := false } } }

/-- The record of a fire as it is charged. -/
def chargedFire (x : State) (v : Volume) (sides : PerSide Bool) : FireRecord :=
  { exposure := v.exposure, charge := overSides sides (finalOf x v sides) * v.exposure, take := min 255 (v.take + 1)
    opening := v.opening, sides := { v := sideKept x v sides .v, r := sideKept x v sides .r } }

theorem fireRecord_eq (x : State) (v : Volume) (sides : PerSide Bool) : fireRecord x v sides = chargedFire x v sides := by
  rw [fireRecord, chargedFire, fireCharge_eq, sideKept_eq, sideKept_eq]

theorem handCodes_eq (x w : State) (v : Volume) (sides : PerSide Bool) :
    handCode .r (sideKept x v sides .r) (handCode .v (sideKept x v sides .v) (withdrawLoads w)) =
      { w with
        link := { w.link with
          loads := {
            v := if sides.v then some (finalOf x v sides .v) else none
            r := if sides.r then some (finalOf x v sides .r) else none }
          polls := { v := { w.link.polls.v with verify := false }, r := { w.link.polls.r with verify := false } } }
        lamps := { v := codedBar sides.v w.lamps.v, r := codedBar sides.r w.lamps.r } } := by
  obtain ⟨askV, askR⟩ := sides
  cases askV <;> cases askR <;> rfl

/-- The state with a fire charged. -/
def fireCharged (c : CaptureRecord) (v : Volume) (x : State) : State :=
  let sides := c.params.sides
  { x with
    volumes := { x.volumes with entries := x.volumes.entries.set c.slot (some { v with
      doseUsed := v.doseUsed + overSides sides (finalOf x v sides) * v.exposure, take := min 255 (v.take + 1)
      captureCount := min 65535 (v.captureCount + 1) }) }
    capture := { x.capture with state := .exposing c (.load (chargedFire x v sides)) }
    link := codedLink x v sides
    lamps := { v := codedBar sides.v x.lamps.v, r := codedBar sides.r x.lamps.r } }

theorem chargeFire_charges (hv : volumeAt x c.slot = some v)
    (covers : ¬ (doseShort x v c.params.sides = true ∧ capOf v c.params.sides < (mechOf x).dMin)) :
    chargeFire c x = fireCharged c v x := by
  simp only [chargeFire, hv]
  rw [if_neg (by rwa [doseShort_eq, doseCap_eq_capOf])]
  simp only [fireRecord_eq]
  refine (handCodes_eq x _ v c.params.sides).trans ?_
  rw [chargedVolume, fireCharge_eq]
  rfl

theorem chargeFire_refuses (hv : volumeAt x c.slot = some v)
    (short : doseShort x v c.params.sides = true ∧ capOf v c.params.sides < (mechOf x).dMin) :
    chargeFire c x = refuseFire .allowance (capOf v c.params.sides) x := by
  simp only [chargeFire, hv]
  exact if_pos (by rwa [doseShort_eq, doseCap_eq_capOf])

theorem settle_load_busy (busy : x.link.exchange ≠ none) (b : State) (side : Side) :
    ((settle b x).lamps.get side).load = (x.lamps.get side).load := by
  have lamps : (settle b x).lamps = (startExchange (roundEdge b x)).lamps := (statusChange_changes b _).lamps_eq (by decide)
  have edge : (roundEdge b x).lamps = x.lamps := (roundEdge_changes b x).lamps_eq (by decide)
  have still : startExchange (roundEdge b x) = roundEdge b x := if_neg fun h => busy (by rw [← roundEdge_link b x]; exact h.2)
  rw [lamps, still, edge]

/-- R90 to R92: the fire is charged, or refused for its allowance. -/
theorem chargeFire_settle (state : ∃ d, x.capture.state = .exposing c (.gate d)) (b : State) :
    FireCharged c x (settle b (chargeFire c x)) := by
  obtain ⟨d, state⟩ := state
  intro v hv sides refused charge take
  refine ⟨fun short => ?_, fun covers => ?_⟩
  · rw [chargeFire_refuses hv short]
    exact fireRefused_settle (refuseFire_ends (heldCapture_exposing state) _ _)
      ((refuseFire_changes _ _ x).get .seq (by decide)) b
  · rw [chargeFire_charges hv covers]
    let z := fireCharged c v x
    have bar (side : Side) : z.lamps.get side = codedBar (sides.get side) (x.lamps.get side) := by cases side <;> rfl
    refine ⟨settle_get b z .volumes (by decide), settle_get b z .capture (by decide), settle_get b z .frames (by decide),
      settle_get b z .account (by decide), settle_get b z .seq (by decide), HandsOver.settle (handsOver_same rfl rfl rfl) b,
      fun side => ?_, fun side => ?_, linkServes_settle (x := z) rfl rfl b⟩
    · rw [settle_lasting, bar, codedBar]
      split <;> rfl
    · have load : (z.lamps.get side).load = if sides.get side then .placed else .none := by
        rw [bar, codedBar]
        split <;> rfl
      intro phase
      have load : (z.lamps.get side).load = phase := load
      by_cases free : x.link.exchange = none
      · rw [if_pos free, ← load]
        exact settle_load (x := z) free b side
      · rw [if_neg free, ← load]
        exact settle_load_busy (x := z) free b side

/-! ## The gate (R89) -/

theorem fireWaits_settle {due : Option Word} (waits : z = { x with capture := { x.capture with state := .exposing c (.gate due) } })
    (b : State) : FireWaits c due x (settle b z) := by
  subst waits
  exact ⟨settle_get b _ .capture (by decide), settle_get b _ .frames (by decide), settle_get b _ .account (by decide),
    settle_get b _ .volumes (by decide), settle_get b _ .seq (by decide), HandsOver.settle (handsOver_same rfl rfl rfl) b⟩

theorem gateActs_settle {wait : Option Word} (state : x.capture.state = .exposing c (.gate wait)) (b : State) :
    GateActs c wait x (settle b (examineGate c wait x)) := by
  unfold GateActs
  intro sides stopped lost failed hot
  have refuses (o : OutcomeCode) (d : Nat) : FireRefused c o d x (settle b (refuseFire o d x)) :=
    fireRefused_settle (refuseFire_ends (heldCapture_exposing state) o d) ((refuseFire_changes o d x).get .seq (by decide)) b
  have down := bothDown_iff x
  have kept : x = { x with capture := { x.capture with state := .exposing c (.gate wait) } } := by rw [← state]
  unfold examineGate
  simp only [failedSides_eq_sidesIn, hotSides_eq_sidesIn]
  refine ⟨fun stop => ?_, fun run lose => ?_, fun run up fail => ?_, fun run up sound heat => ?_, fun run up sound cool =>
    ⟨fun away => ?_, fun idle holds => ?_, fun idle fails => ?_⟩⟩
  · rw [if_pos stop]
    exact refuses _ _
  all_goals rw [if_neg run]
  · rw [if_pos (down.mpr lose)]
    exact refuses _ _
  all_goals rw [if_neg (mt down.mp up)]
  · rw [if_pos fail]
    exact refuses _ _
  all_goals rw [if_neg (Classical.not_not.mpr sound)]
  · rw [if_pos heat]
    exact refuses _ _
  all_goals rw [if_neg (Classical.not_not.mpr cool)]
  · rw [if_pos away]
    exact fireWaits_settle rfl b
  all_goals rw [if_neg (Classical.not_not.mpr idle)]
  · rw [if_pos ((parkCheck_holds_iff x).mpr holds)]
    exact chargeFire_settle ⟨wait, state⟩ b
  · rw [if_neg (mt (parkCheck_holds_iff x).mp fails)]
    cases wait with
    | none => exact fireWaits_settle rfl b
    | some due => exact fireWaits_settle kept b

theorem gateExamined_acts (s : State) : GateExamined s := by
  refine ⟨settle s (gateExamined s), rfl, fun none => ?_, fun c d state => ?_⟩
  · have still : gateExamined s = s := by
      unfold gateExamined
      split
      · rename_i c d state
        exact absurd state (none c d)
      all_goals rfl
    rw [still]
    exact (Changes.refl [] s).settle_only
  · have examines : gateExamined s = examineGate c d s := by rw [gateExamined, state]
    rw [examines]
    exact gateActs_settle state s

theorem parkWaitEnds_ends (s : State) : ParkWaitEnds s := by
  unfold ParkWaitEnds
  intro expired
  refine ⟨settle s (parkWaitEnds s), rfl, fun none => ?_, fun c due ends => ?_⟩
  · have still : parkWaitEnds s = s := by
      unfold parkWaitEnds
      split
      · rename_i c due state
        exact if_neg fun h => none c due ⟨state, h⟩
      all_goals rfl
    rw [still]
    exact (Changes.refl [] s).settle_only
  · obtain ⟨state, reached, idle⟩ := ends
    have waits : parkWaitEnds s = if parkCheck s = .holds then examineGate c (some due) s
        else refuseFire .noPosition (parkDetail (parkCheck s)) s := by
      rw [parkWaitEnds, state]
      exact if_pos ⟨reached, idle⟩
    rw [waits]
    refine ⟨fun d fails => ?_, fun holds => ?_⟩
    · obtain ⟨park, rfl⟩ := (parkFails_iff s d).mp fails
      rw [if_neg (mt (parkCheck_holds_iff s).mp park)]
      exact fireRefused_settle (refuseFire_ends (heldCapture_exposing state) _ _)
        ((refuseFire_changes _ _ s).get .seq (by decide)) s
    · rw [if_pos ((parkCheck_holds_iff s).mpr holds)]
      exact gateActs_settle state s

/-! ## The windows of a capture (R102, R103) -/

theorem firstFree_of_lowest {ws : List (Option Window)} {i : Nat} (lowest : LowestFree ws none i) : firstFree ws = i := by
  obtain ⟨free, -, least⟩ := lowest
  obtain ⟨inside, empty⟩ := List.getElem?_eq_some_iff.mp free
  refine (List.findIdx_eq inside).mpr ⟨by rw [empty]; rfl, fun k before => ?_⟩
  cases held : ws[k] with
  | some w => rfl
  | none => exact nomatch least k before (List.getElem?_eq_some_iff.mpr ⟨Nat.lt_trans before inside, held⟩)

/-- The lowest free window but one is the lowest free once that one is taken. -/
theorem lowestFree_set {ws : List (Option Window)} {i j : Nat} (w : Window) (lowest : LowestFree ws (some i) j) :
    LowestFree (ws.set i (some w)) none j := by
  obtain ⟨free, other, least⟩ := lowest
  have apart : i ≠ j := fun h => other (congrArg some h)
  refine ⟨by rw [List.getElem?_set_ne apart, free], nofun, fun k before empty => ?_⟩
  by_cases same : i = k
  · subst same
    rw [List.getElem?_set_self'] at empty
    cases held : ws[i]? <;> simp [held] at empty
  · rw [List.getElem?_set_ne same] at empty
    exact absurd (Option.some.inj (least k before empty)) same

theorem armedWindow_eq (m : MechSettings) (slot : Nat) (p : CaptureParams) (side : Side) (partner : Option Nat) :
    armedWindow m slot p side partner = freshWindow m slot p side partner := by cases side <;> rfl

theorem armWindows_arms {after : List (Option Window)} {y : State} (armed : ArmedIn (mechOf y) c y.frames.windows after) :
    armWindows c.slot c.params y = { y with frames := { y.frames with windows := after } } := by
  rcases armed with ⟨i, j, sides, first, second, rfl⟩ | ⟨i, sides, first, rfl⟩ | ⟨i, sides, first, rfl⟩
  · have next := firstFree_of_lowest (lowestFree_set (freshWindow (mechOf y) c.slot c.params .v none) second)
    simp only [armWindows, sides, armedWindow_eq, firstFree_of_lowest first, next]
    rfl
  · simp only [armWindows, sides, armedWindow_eq, firstFree_of_lowest first]
    rfl
  · simp only [armWindows, sides, armedWindow_eq, firstFree_of_lowest first]
    rfl

/-- The state with a capture that has acquired what it holds. -/
def acquired (c : CaptureRecord) (after : List (Option Window)) (s : State) : State :=
  let k := overSides c.params.sides (fun _ => 1)
  { s with
    capture := { s.capture with state := .exposing c (.gate none) }
    frames := { s.frames with windows := after, guardReserved := s.frames.guardReserved + k }
    account := { s.account with reserved := s.account.reserved + k } }

theorem beginExposing_begins {after : List (Option Window)} (armed : ArmedIn (mechOf s) c s.frames.windows after) :
    beginExposing c s = examineGate c none (acquired c after s) := by
  let slotted := grantSlots (sideCount c.params.sides)
    { s with frames := { s.frames with guardReserved := s.frames.guardReserved + sideCount c.params.sides } }
  have arms := armWindows_arms (y := slotted) armed
  exact congrArg (fun y => examineGate c none (setCapture (.exposing c (.gate none)) y)) arms

theorem acquires (s : State) : Acquires s := by
  refine ⟨settle s (tryAcquire s), rfl, fun none => ?_, fun c state => ?_⟩
  · have still : tryAcquire s = s := by
      unfold tryAcquire
      split
      · rename_i c state
        exact absurd state (none c)
      all_goals rfl
    rw [still]
    exact (Changes.refl [] s).settle_only
  · intro k windows guards pools room
    have acquires : tryAcquire s = if k ≤ accountFree s then (if framePoolsHaveRoom k s then beginExposing c s else s)
        else refuseSlots k s := by
      rw [tryAcquire, state]
      rfl
    have pool : framePoolsHaveRoom k s = true ↔ pools := decide_eq_true_iff
    rw [acquires]
    refine ⟨fun fits crowded => ?_, fun short => ?_, fun after fits slots armed => ?_⟩
    · rw [if_pos (by exact fits), if_neg (mt pool.mp crowded)]
      exact (Changes.refl [] s).settle_only
    · rw [if_neg (by exact Nat.not_le.mpr short)]
      refine ⟨(refuseSlots_changes k s).settle_only, fun latched => ?_, fun fresh => ?_⟩
      · rw [refuseSlots, latch_latched latched]
        exact HandsOver.settle (handsOver_same rfl rfl rfl) s
      · exact (latch_handsOver fresh rfl rfl rfl fun _ he => he).settle s
    · rw [if_pos (by exact slots), if_pos (pool.mpr fits), beginExposing_begins armed]
      exact gateActs_settle (x := acquired c after s) rfl s

end

/-- Settles O57. -/
theorem capturesAcquireAndCharge : Obligations.CapturesAcquireAndCharge := fun s =>
  ⟨acquires s, gateExamined_acts s, parkWaitEnds_ends s⟩

end Sys2Proof.Machine
end

section
/-! SUPPORT. The reply of a head (3.4): its judgement, the fused angle, the check of its round, and a split. -/
namespace Sys2Proof.Machine

/-! ## The judgement of a sample -/

section
variable {head : Head} {q : SampleRequest} {w : Half} {sw : Switches} {s x y z : State}

theorem badKind_eq (h : HeadUnit) (w : Half) : badKind h w = if sampleKind h w = 0 then none else some (sampleKind h w) := by
  unfold badKind sampleKind
  rw [show noReply w = decide (w = 0xFFFF) from rfl, show headError w = w.getLsbD 3 from rfl,
    show headLife w = w.setWidth 2 from rfl]
  by_cases silent : w = 0xFFFF
  · rw [if_pos silent, if_pos (by simpa using silent)]
    rfl
  rw [if_neg silent, if_neg (by simpa using silent)]
  by_cases error : w.getLsbD 3 = true
  · rw [if_pos error, if_pos error]
    rfl
  rw [if_neg error, if_neg error]
  by_cases stale : h.life = some (w.setWidth 2)
  · rw [if_pos stale, if_pos stale]
    rfl
  · rw [if_neg stale, if_neg stale]
    rfl

theorem nextLife_eq (h : HeadUnit) (w : Half) : nextLife h w = if w = 0xFFFF then h.life else some (w.setWidth 2) := by
  by_cases silent : w = 0xFFFF
  · rw [nextLife, if_pos (by simpa [noReply] using silent), if_pos silent]
  · rw [nextLife, if_neg (by simpa [noReply] using silent), if_neg silent]
    rfl

theorem goodAngle_eq (h : HeadUnit) (w : Half) :
    goodAngle h w = if sampleKind h w = 0 then some (w >>> 4).toNat else none := by
  by_cases good : sampleKind h w = 0
  · simp [goodAngle, badKind_eq, good, headAngle]
  · simp [goodAngle, badKind_eq, good]

/-- The lit windows marked as those of a single head. -/
def singleHeaded (f : FrameTracker) : FrameTracker :=
  { f with windows := f.windows.map fun x => x.map fun y =>
      if y.filling = true ∧ y.strobeEnd = none then { y with fire := y.fire.map fun f => { f with singleHead := true } }
      else y }

theorem markSingleHead_marks (s : State) : markSingleHead s = { s with frames := singleHeaded s.frames } := by
  unfold markSingleHead singleHeaded
  refine congrArg (fun ws => { s with frames := { s.frames with windows := ws } }) (List.map_congr_left fun w _ => ?_)
  cases w with
  | none => rfl
  | some z =>
    have lit : isLit (some z) = true ↔ z.filling = true ∧ z.strobeEnd = none := by simp [isLit]
    by_cases h : isLit (some z) = true
    · simp [h, lit.1 h]
    · simp [h, mt lit.2 h]

/-- A head that its sample takes out of UP. -/
def headLost (head : Head) (q : SampleRequest) (w : Half) (s : State) : Prop :=
  (s.position.heads.get head).up = true ∧ (judgedHead (s.position.heads.get head) q w).up = false

/-- What a judged sample leaves. -/
structure SampleJudged (head : Head) (q : SampleRequest) (w : Half) (s x : State) : Prop where
  position : x.position =
    { s.position with heads := s.position.heads.set head (judgedHead (s.position.heads.get head) q w) }
  handed : HandsOver (headEvents head (s.position.heads.get head) q w (decide (headFault head ∈ s.ret.latched)) s.ms)
    (headLatched head (s.position.heads.get head) q w s) x
  lost : headLost head q w s → x.frames = singleHeaded s.frames
  kept : ¬ headLost head q w s → x.frames = s.frames

theorem setHead_handsOver (head : Head) (h : HeadUnit) (s : State) : HandsOver [] s (setHead head h s) :=
  handsOver_same rfl rfl rfl

theorem handReturn_position (r : ReturnRecord) (s : State) : (handReturn r s).position = s.position :=
  position_of_changes (handReturn_changes r s) (by decide)

theorem handReturn_frames (r : ReturnRecord) (s : State) : (handReturn r s).frames = s.frames :=
  (handReturn_changes r s).get .frames (by decide)

/-- A judged sample that hands one record over, and takes no head out of UP. -/
theorem sampleJudged_tells {r : ReturnRecord} {n : HeadUnit}
    (judged : judgedHead (s.position.heads.get head) q w = n) (found : ¬ headLost head q w s)
    (quiet : headLatched head (s.position.heads.get head) q w s = s)
    (tells : headEvents head (s.position.heads.get head) q w (decide (headFault head ∈ s.ret.latched)) s.ms = [r]) :
    SampleJudged head q w s (handReturn r (setHead head n s)) where
  position := by
    rw [handReturn_position, judged]
    rfl
  handed := by
    rw [quiet, tells]
    exact (setHead_handsOver head n s).trans (.hand _ _)
  lost h := absurd h found
  kept _ := handReturn_frames r _

/-- A judged sample that tells nothing. -/
theorem sampleJudged_quiet {n : HeadUnit}
    (judged : judgedHead (s.position.heads.get head) q w = n) (found : ¬ headLost head q w s)
    (quiet : headLatched head (s.position.heads.get head) q w s = s)
    (silent : headEvents head (s.position.heads.get head) q w (decide (headFault head ∈ s.ret.latched)) s.ms = []) :
    SampleJudged head q w s (setHead head n s) where
  position := by
    rw [judged]
    rfl
  handed := by
    rw [quiet, silent]
    exact setHead_handsOver head n s
  lost h := absurd h found
  kept _ := rfl

theorem judgedHead_good {h : HeadUnit} (good : sampleKind h w = 0) : judgedHead h q w = { goodSample h q w with
    up := h.up || min 3 (h.goodCount + 1) == 3
    warned := if h.up then h.warned || w.getLsbD 2 else if min 3 (h.goodCount + 1) = 3 then false else h.warned } := by
  simp only [judgedHead, if_pos good, goodSample, nextLife_eq]
  rfl

theorem headLost_good (good : sampleKind (s.position.heads.get head) w = 0) : ¬ headLost head q w s := by
  rintro ⟨up, down⟩
  rw [judgedHead_good good, up] at down
  exact Bool.noConfusion down

theorem judgeGood_judges (good : sampleKind (s.position.heads.get head) w = 0) :
    SampleJudged head q w s (judgeGood head q w s) := by
  have quiet : headLatched head (s.position.heads.get head) q w s = s := if_neg fun h => h.1 good
  have judged := judgedHead_good (q := q) good
  have found := headLost_good (q := q) good
  unfold judgeGood
  by_cases up : (s.position.heads.get head).up = true
  · rw [if_pos up]
    by_cases warns : headWarning w = true ∧ ¬ (s.position.heads.get head).warned = true
    · rw [if_pos warns]
      refine sampleJudged_tells ?_ found quiet ?_
      · rw [judged]
        simp_all [goodSample, headWarning]
      · simp_all [headEvents, headWarning]
    · rw [if_neg warns]
      refine sampleJudged_quiet ?_ found quiet ?_
      · rw [judged]
        simp_all [goodSample, headWarning]
      · simp_all [headEvents, headWarning]
  · rw [if_neg up]
    by_cases third : (goodSample (s.position.heads.get head) q w).goodCount = 3
    · rw [if_pos third]
      refine sampleJudged_tells ?_ found quiet ?_
      · rw [judged]
        simp_all [goodSample]
      · simp_all [headEvents, goodSample]
    · rw [if_neg third]
      refine sampleJudged_quiet ?_ found quiet ?_
      · rw [judged]
        simp_all [goodSample]
      · simp_all [headEvents, goodSample]

theorem judgedHead_bad {h : HeadUnit} (bad : sampleKind h w ≠ 0) :
    judgedHead h q w = { badSample h w with up := h.up && decide (min 255 (h.badCount + 1) < 8) } := by
  simp only [judgedHead, if_neg bad, badSample, nextLife_eq]

theorem headEvents_bad {h : HeadUnit} (bad : sampleKind h w ≠ 0) (known : Bool) (now : Word) :
    headEvents head h q w known now = if 8 ≤ (badSample h w).badCount ∧ (h.up = true ∨ known = false) then
      [.event .headDown (headLetter head) (sampleKind h w) now] else [] := by
  rw [headEvents, if_neg bad, judgedHead_bad bad]

theorem headLatched_bad {h : HeadUnit} (bad : sampleKind h w ≠ 0) : headLatched head h q w s =
    if 8 ≤ (badSample h w).badCount ∧ headFault head ∉ s.ret.latched then enterLatched (headFault head) s else s := by
  rw [headLatched, judgedHead_bad bad]
  simp only [ne_eq, bad, not_false_eq_true, true_and]

theorem headLost_bad (bad : sampleKind (s.position.heads.get head) w ≠ 0) : headLost head q w s ↔
    (s.position.heads.get head).up = true ∧ 8 ≤ (badSample (s.position.heads.get head) w).badCount := by
  rw [headLost, judgedHead_bad bad]
  refine and_congr_right fun up => ?_
  rw [up, Bool.true_and, decide_eq_false_iff_not, Nat.not_lt]
  exact Iff.rfl

theorem latchWithEvent_eq (f : LatchedFault) (c : EventCode) (l d : Nat) (s : State) :
    latchWithEvent f c l d s = raise c l d (if f ∈ s.ret.latched then s else enterLatched f s) := by
  rw [latchWithEvent]
  split <;> rfl

theorem raise_tells {c : EventCode} {l d : Nat} (h : HandsOver [] x y) (ms : y.ms = x.ms) :
    HandsOver [.event c l d x.ms] x (raise c l d y) := by
  rw [← ms]
  exact h.trans (.hand _ _)

theorem judgeBad_judges (bad : sampleKind (s.position.heads.get head) w ≠ 0) :
    SampleJudged head q w s (judgeBad head w (sampleKind (s.position.heads.get head) w) s) := by
  have judged := judgedHead_bad (q := q) bad
  have lost := headLost_bad (q := q) bad
  have events := headEvents_bad (head := head) (q := q) bad (decide (headFault head ∈ s.ret.latched)) s.ms
  have latched := headLatched_bad (head := head) (q := q) (s := s) bad
  unfold judgeBad
  by_cases eighth : 8 ≤ (badSample (s.position.heads.get head) w).badCount
  · have count : ¬ min 255 ((s.position.heads.get head).badCount + 1) < 8 := Nat.not_lt.mpr eighth
    rw [decide_eq_false count, Bool.and_false] at judged
    rw [if_pos eighth]
    by_cases up : (s.position.heads.get head).up = true
    · rw [if_pos up, latchWithEvent_eq, markSingleHead_marks]
      rw [if_pos ⟨eighth, .inl up⟩] at events
      refine ⟨?_, ?_, fun _ => ?_, fun h => absurd (lost.mpr ⟨up, eighth⟩) h⟩
      · rw [raise, handReturn_position, judged]
        split <;> rfl
      · rw [events, latched]
        by_cases fresh : headFault head ∉ s.ret.latched
        · rw [if_pos ⟨eighth, fresh⟩, if_neg (by exact fresh)]
          exact raise_tells (x := enterLatched (headFault head) s) (handsOver_same rfl rfl rfl) rfl
        · rw [if_neg fun h => fresh h.2, if_pos (by exact Classical.not_not.mp fresh)]
          exact raise_tells (handsOver_same rfl rfl rfl) rfl
      · rw [raise, handReturn_frames]
        split <;> rfl
    · have below : (s.position.heads.get head).up = false := Bool.eq_false_iff.mpr up
      have found : ¬ headLost head q w s := fun h => up h.1
      rw [if_neg up]
      by_cases fresh : headFault head ∉ s.ret.latched
      · rw [if_pos ⟨eighth, fresh⟩] at latched
        rw [if_pos ⟨eighth, .inr (decide_eq_false fresh)⟩] at events
        rw [latch_fresh (by exact fresh)]
        refine ⟨?_, ?_, fun h => absurd h found, fun _ => handReturn_frames _ _⟩
        · rw [raise, handReturn_position, judged, ← below]
          rfl
        · rw [events, latched]
          exact raise_tells (x := enterLatched (headFault head) s) (handsOver_same rfl rfl rfl) rfl
      · rw [if_neg fun h => fresh h.2] at latched
        rw [if_neg fun h => h.2.elim up fun new => fresh (of_decide_eq_false new)] at events
        rw [latch_latched (by exact Classical.not_not.mp fresh)]
        exact sampleJudged_quiet (by rw [judged, ← below]; rfl) found latched events
  · have count : min 255 ((s.position.heads.get head).badCount + 1) < 8 := Nat.not_le.mp eighth
    rw [decide_eq_true count, Bool.and_true] at judged
    rw [if_neg fun h => eighth h.1] at events latched
    rw [if_neg eighth]
    exact sampleJudged_quiet judged (fun h => eighth (lost.mp h).2) latched events

theorem judgeSample_judges (head : Head) (q : SampleRequest) (w : Half) (s : State) :
    SampleJudged head q w s (judgeSample head q w s) := by
  have kind := badKind_eq (s.position.heads.get head) w
  by_cases good : sampleKind (s.position.heads.get head) w = 0
  · rw [if_pos good] at kind
    rw [judgeSample, kind]
    exact judgeGood_judges good
  · rw [if_neg good] at kind
    rw [judgeSample, kind]
    exact judgeBad_judges good

end

end Sys2Proof.Machine
end

section
/-! SUPPORT. What a split of the heads brings about (4.4), and the end of a head's reply (O55). -/
namespace Sys2Proof.Machine

section
variable {head : Head} {q : SampleRequest} {w : Half} {sw : Switches} {s x y z u : State}

/-! ## The check of a round (R44) -/

/-- The checks once a sample of a head is judged. -/
def checksAfter (head : Head) (q : SampleRequest) (w : Half) (s : State) : List RoundCheck :=
  match checkOf s q with
  | none => s.position.checks
  | some c =>
    let angles := (angleNoted head w c).angles
    if sampleKind (s.position.heads.get head) w = 0 ∧ (angles.a = none ∨ angles.b = none) then
      s.position.checks.map fun x => if x.round = q.round then angleNoted head w x else x
    else s.position.checks.filter fun x => decide (x.round ≠ q.round)

theorem checksAfter_holds (checks : u.position.checks = checksAfter head q w s) : ChecksAfter head q w s u := by
  unfold checksAfter at checks
  refine ⟨fun none => ?_, fun c found => ⟨fun good waits => ?_, fun made => ?_⟩⟩
  · rwa [none] at checks
  · rw [found] at checks
    exact checks.trans (if_pos ⟨good, waits⟩)
  · rw [found] at checks
    refine checks.trans (if_neg fun h => ?_)
    rcases made with bad | ⟨a, b⟩
    · exact bad h.1
    · exact h.2.elim a b

/-- The state once the sample is judged and the fused angle formed. -/
structure AnglesFormed (head : Head) (q : SampleRequest) (w : Half) (s y : State) : Prop where
  position : y.position = { s.position with
    heads := s.position.heads.set head (judgedHead (s.position.heads.get head) q w)
    fused := formedFrom (mechOf s).bOffset (s.position.heads.set head (judgedHead (s.position.heads.get head) q w)) }
  settings : y.settings = s.settings

/-- What the check of a round makes of a sample. -/
theorem checkSplit_cases (formed : AnglesFormed head q w s y) :
    let heads := s.position.heads.set head (judgedHead (s.position.heads.get head) q w)
    ((∀ a b, ¬ SplitRound head q w s heads a b) →
      checkSplit head q.round (goodAngle (s.position.heads.get head) w) y = setChecks (checksAfter head q w s) y)
    ∧ ∀ a b, SplitRound head q w s heads a b →
      checkSplit head q.round (goodAngle (s.position.heads.get head) w) y =
        enterFaulted .split (latch .split .split 0 (twoPart a b) (setChecks (checksAfter head q w s) y)) := by
  intro heads
  have checks : y.position.checks = s.position.checks := by rw [formed.position]
  have judged : y.position.heads = heads := by rw [formed.position]
  have mech : mechOf y = mechOf s := by rw [mechOf, formed.settings]; rfl
  have first : (s.position.checks.find? fun c => decide (c.round = q.round)) = checkOf s q := rfl
  unfold checkSplit
  rw [checks, first, goodAngle_eq]
  cases found : checkOf s q with
  | none =>
    refine ⟨fun _ => ?_, fun a b split => ?_⟩
    · rw [checksAfter, found]
      show y = setChecks s.position.checks y
      rw [← checks]
      rfl
    · obtain ⟨c, raw, held, -⟩ := split
      rw [found] at held
      cases held
  | some c =>
    by_cases good : sampleKind (s.position.heads.get head) w = 0
    · have noted : notedCheck head (w >>> 4).toNat c = angleNoted head w c := rfl
      have waiting (missing : (angleNoted head w c).angles.a = none ∨ (angleNoted head w c).angles.b = none) :
          checksAfter head q w s = s.position.checks.map fun x => if x.round = q.round then angleNoted head w x else x := by
        rw [checksAfter, found]
        exact if_pos ⟨good, missing⟩
      have unsplit (missing : (angleNoted head w c).angles.a = none ∨ (angleNoted head w c).angles.b = none) (a b : Nat) :
          ¬ SplitRound head q w s heads a b := by
        rintro ⟨d, raw, held, -, angles, -⟩
        rw [found] at held
        cases held
        rw [angles] at missing
        simp at missing
      simp only [if_pos good, noted]
      cases angles : (angleNoted head w c).angles with
      | mk a b =>
        rw [angles] at waiting unsplit
        cases a with
        | none =>
          refine ⟨fun _ => ?_, fun a b split => absurd split (unsplit (.inl rfl) a b)⟩
          rw [waiting (.inl rfl)]
          rfl
        | some a =>
          cases b with
          | none =>
            refine ⟨fun _ => ?_, fun a b split => absurd split (unsplit (.inr rfl) a b)⟩
            rw [waiting (.inr rfl)]
            rfl
          | some raw =>
            have made : checksAfter head q w s = otherChecks q.round s.position.checks := by
              rw [checksAfter, found]
              exact if_neg fun h => by simp [angles] at h
            have far : SplitRound head q w s heads a (correctedB (mechOf s).bOffset raw) ↔
                (heads.a.up = true ∧ heads.b.up = true)
                  ∧ (mechOf s).splitTolerance < circular a (correctedB (mechOf s).bOffset raw) := by
              refine ⟨fun ⟨_, _, _, _, _, upA, upB, _, far⟩ => ⟨⟨upA, upB⟩, far⟩, fun ⟨⟨upA, upB⟩, far⟩ =>
                ⟨c, raw, found, good, angles, upA, upB, rfl, far⟩⟩
            have checks1 : (setChecks (checksAfter head q w s) y).position.heads = heads := judged
            have mech1 : mechOf (setChecks (checksAfter head q w s) y) = mechOf s := mech
            have same {a' b' : Nat} (split : SplitRound head q w s heads a' b') :
                a' = a ∧ b' = correctedB (mechOf s).bOffset raw := by
              obtain ⟨d, raw', held, -, angles', -, -, rfl, -⟩ := split
              rw [found] at held
              cases held
              rw [angles] at angles'
              cases angles'
              exact ⟨rfl, rfl⟩
            simp only [judged, ← made]
            refine ⟨fun none => ?_, fun a' b' split => ?_⟩
            · have near := mt far.mpr (none _ _)
              by_cases up : heads.a.up = true ∧ heads.b.up = true
              · rw [if_pos up, compareAngles, mech1]
                exact if_neg fun h => near ⟨up, h⟩
              · rw [if_neg up]
            · obtain ⟨rfl, rfl⟩ := same split
              obtain ⟨up, beyond⟩ := far.mp split
              rw [if_pos up, compareAngles, mech1]
              exact if_pos beyond
    · refine ⟨fun _ => ?_, fun a b split => ?_⟩
      · simp only [if_neg good]
        rw [checksAfter, found]
        exact congrArg (fun l => setChecks l y) (if_neg fun h => good h.1).symm
      · obtain ⟨-, -, -, kind, -⟩ := split
        exact absurd kind good

/-! ## The arm leaves IDLE with a capture under way (R97) -/

theorem captureArmLeft_leaves (alike : FramesAlike x y) (capture : y.capture = x.capture) (arm : y.seq.arm = .faulted) :
    CaptureLeft x (captureArmLeft y) ∧ HandsOver (leftRecords x) y (captureArmLeft y) := by
  unfold CaptureLeft leftRecords captureArmLeft
  rw [capture]
  cases state : x.capture.state with
  | free => exact ⟨⟨capture, alike.frames, alike.account, alike.volumes⟩, handsOver_same rfl rfl rfl⟩
  | holding c => exact ⟨⟨capture, alike.frames, alike.account, alike.volumes⟩, handsOver_same rfl rfl rfl⟩
  | exposing c st =>
    have held : heldCapture y = some c := by rw [heldCapture, capture, state]
    cases st with
    | gate wait =>
      refine ⟨⟨?_, alike.frames, alike.account, alike.volumes⟩, handsOver_same rfl rfl rfl⟩
      rw [← capture]
      rfl
    | load f =>
      have ends := abandonFire_ends held .armFault (armNumber y.seq.arm)
      refine ⟨⟨ends.1.capture.trans (by rw [capture]),
        givenUp_congr alike.frames alike.account ends.1.givenUp, ends.2, ends.1.volumes.trans alike.volumes⟩, ?_⟩
      rw [← alike.ms]
      have told := ends.1.handed
      rw [arm] at told ⊢
      exact told
    | strobe f raisedAt =>
      simp only [← alike.ms]
      by_cases over_ : f.exposure ≤ (y.ms - raisedAt).toNat
      · simp only [cutStrobe_whole over_, if_pos over_]
        have ends := strobeEnds_ends alike held f f.exposure false .done
        exact ⟨ends.ended, ends.handed⟩
      · simp only [cutStrobe_short over_, if_neg over_]
        have ends := strobeEnds_ends alike held f (y.ms - raisedAt).toNat true .armFault
        exact ⟨ends.ended, ends.handed⟩

theorem captureLeft_mono (k : CaptureKept z u) (h : CaptureLeft x z) : CaptureLeft x u := by
  unfold CaptureLeft at h ⊢
  cases state : x.capture.state with
  | free =>
    simp only [state] at h ⊢
    exact ⟨k.capture.trans h.1, framesKept_mono k h.2⟩
  | holding c =>
    simp only [state] at h ⊢
    exact ⟨k.capture.trans h.1, framesKept_mono k h.2⟩
  | exposing c st =>
    cases st with
    | gate wait =>
      simp only [state] at h ⊢
      exact ⟨k.capture.trans h.1, framesKept_mono k h.2⟩
    | load f =>
      simp only [state] at h ⊢
      obtain ⟨capture, given, withdrawn, volumes⟩ := h
      exact ⟨k.capture.trans capture, givenUp_mono k given, k.withdrawn withdrawn, k.volumes.trans volumes⟩
    | strobe f raisedAt =>
      simp only [state] at h ⊢
      by_cases over_ : f.exposure ≤ (x.ms - raisedAt).toNat
      · rw [if_pos over_] at h ⊢
        exact strobeEnded_mono k h
      · rw [if_neg over_] at h ⊢
        exact strobeEnded_mono k h

/-! ## A split (R74) -/

theorem endTurn_captureKept (o : OutcomeCode) (d : Nat) (z : State) : CaptureKept z (endTurn o d z) := by
  have ended := endTurn_ended o d z
  exact .of_changes ended.changes (by decide) ended.requests.kept

/-- A split while the arm is neither IDLE nor FAULTED. -/
theorem enterFaulted_split_busy (busy : Busy y.seq) :
    CradleHalted .faulted (turnEnds .armFault (armNumber y.seq.arm + 256 * 3) y) y (enterFaulted .split y) := by
  have enters : enterFaulted .split y = endTurn .armFault (armNumber y.seq.arm + 256 * 3) (cradleStopped .faulted y) := by
    rw [← cradleStops .faulted busy.1]
    exact if_neg busy.2
  rw [enters]
  exact endTurn_cradleStopped .faulted .armFault _ y

/-- A split while the arm is IDLE: the capture under way is told that the arm leaves. -/
theorem enterFaulted_split_idle (idle : y.seq.arm = .idle) (alike : FramesAlike x y) (capture : y.capture = x.capture)
    (seq : y.seq = x.seq) (motion : y.motion = x.motion) :
    SequencerStopped .faulted x (enterFaulted .split y) ∧ CaptureLeft x (enterFaulted .split y)
      ∧ HandsOver (leftRecords x ++ turnEnds .armFault (256 * 3) x) y (enterFaulted .split y) := by
  let stopped := setSeq { (stopTimer (stopBoth y)).seq with arm := .faulted, armPhase := .none, platenPhase := .none }
    (stopTimer (stopBoth y))
  have enters : enterFaulted .split y = endTurn .armFault (256 * 3) (attendArises (captureArmLeft stopped)) := by
    have sets : setArm .faulted (stopTimer (stopBoth y)) = captureArmLeft stopped := if_pos ⟨idle, nofun⟩
    have number : armNumber y.seq.arm + 256 * causeCode .split = 256 * 3 := by rw [idle]; rfl
    rw [← sets, ← number]
    exact if_neg (by rw [idle]; nofun)
  have alike1 : FramesAlike x stopped :=
    ⟨alike.frames, alike.volumes, alike.account, alike.ms, alike.settings, alike.lamps, alike.tone⟩
  obtain ⟨left, handed⟩ := captureArmLeft_leaves alike1 (show stopped.capture = x.capture from capture) rfl
  have frame := captureArmLeft_changes stopped
  have stoppedSeq : (captureArmLeft stopped).seq = stopped.seq := frame.get .seq (by decide)
  have stoppedMotion : (captureArmLeft stopped).motion = stopped.motion := frame.get .motion (by decide)
  have ms : (captureArmLeft stopped).ms = y.ms := frame.get .ms (by decide)
  have unhanded : HandsOver [] y stopped := handsOver_same rfl rfl rfl
  have told := (unhanded.trans handed).trans
    (handsOver_same rfl rfl rfl : HandsOver [] (captureArmLeft stopped) (attendArises (captureArmLeft stopped)))
  have attends : CaptureLeft x (attendArises (captureArmLeft stopped)) := left
  have ended := endTurn_ended .armFault (256 * 3) (attendArises (captureArmLeft stopped))
  have ends : turnEnds .armFault (256 * 3) (attendArises (captureArmLeft stopped)) = turnEnds .armFault (256 * 3) x := by
    rw [turnEnds, turnEnds, show (attendArises (captureArmLeft stopped)).seq.turn = (captureArmLeft stopped).seq.turn from rfl,
      stoppedSeq, ← seq, ← alike.ms, ← ms]
    rfl
  have kept := endTurn_captureKept .armFault (256 * 3) (attendArises (captureArmLeft stopped))
  have endedHanded := ended.handed
  rw [ends] at endedHanded
  rw [enters]
  refine ⟨⟨?_, ?_, ?_⟩, captureLeft_mono kept attends, ?_⟩
  · rw [ended.seq, attendArises, stoppedSeq, ← seq]
    rfl
  · rw [ended.changes.get .motion (by decide), ← motion]
    exact stoppedMotion
  · rw [kept.tone, ← alike.ms, ← ms]
    rfl
  · have all := told.trans endedHanded
    rwa [List.nil_append, List.append_nil] at all

/-! ## The end of the reply -/

/-- What the judgement of a sample leaves, with the link free. -/
structure SampleTaken (head : Head) (q : SampleRequest) (w : Half) (s y : State) : Prop extends AnglesFormed head q w s y where
  handed : HandsOver (headEvents head (s.position.heads.get head) q w (decide (headFault head ∈ s.ret.latched)) s.ms)
    (headLatched head (s.position.heads.get head) q w s) y
  lost : headLost head q w s → y.frames = singleHeaded s.frames
  kept : ¬ headLost head q w s → y.frames = s.frames
  link : y.link = { s.link with exchange := none }
  changes : Changes ([.link, .fused] ++ sampleParts) s y

theorem headLatched_endExchange (head : Head) (h : HeadUnit) (q : SampleRequest) (w : Half) (s : State) :
    HandsOver [] (headLatched head h q w s) (headLatched head h q w (endExchange s)) := by
  unfold headLatched
  by_cases latches : sampleKind h w ≠ 0 ∧ 8 ≤ (judgedHead h q w).badCount ∧ headFault head ∉ s.ret.latched
  · rw [if_pos latches, if_pos (by exact latches)]
    exact handsOver_same rfl rfl rfl
  · rw [if_neg latches, if_neg (by exact latches)]
    exact handsOver_same rfl rfl rfl

theorem sampleTaken (whole : s.link.discard = false) :
    SampleTaken head q w s (updateFused (judgeSample head q w (endExchange s))) := by
  have judged := judgeSample_judges head q w (endExchange s)
  have frame := judgeSample_changes head q w (endExchange s)
  have mech : mechOf (judgeSample head q w (endExchange s)) = mechOf s := by
    rw [mechOf, frame.get .settings (by decide)]
    rfl
  refine ⟨⟨?_, frame.get .settings (by decide)⟩, ?_, judged.lost, judged.kept, ?_, ?_⟩
  · rw [updateFused, mech, judged.position]
    rfl
  · exact List.append_nil (headEvents ..) ▸ ((headLatched_endExchange head _ q w s).trans judged.handed).trans
      (handsOver_same rfl rfl rfl)
  · have link : (judgeSample head q w (endExchange s)).link = (endExchange s).link := frame.get .link (by decide)
    rw [updateFused, link, endExchange, ← whole]
  · exact (((endExchange_changes s).mono (by decide)).trans (frame.mono (by decide))).trans
      ((updateFused_changes _).mono (by decide))

section
variable (taken : SampleTaken head q w s y)
include taken

/-- What is left by the whole reply, whatever it brings about. -/
theorem SampleTaken.position_settle {z : State} (frame : Changes turnParts (setChecks (checksAfter head q w s) y) z) :
    let heads := s.position.heads.set head (judgedHead (s.position.heads.get head) q w)
    (settle s z).position.heads = heads ∧ (settle s z).position.fused = formedFrom (mechOf s).bOffset heads
      ∧ ChecksAfter head q w s (settle s z) := by
  have kept : z.position = (setChecks (checksAfter head q w s) y).position := position_of_changes frame (by decide)
  have made : (setChecks (checksAfter head q w s) y).position = { y.position with checks := checksAfter head q w s } := rfl
  rw [made, taken.position] at kept
  have heads := settle_get s z .heads (by decide)
  have fused := settle_get s z .fused (by decide)
  obtain ⟨-, checks⟩ := settle_get s z .rounds (by decide)
  exact ⟨heads.trans (by rw [kept]), fused.trans (by rw [kept]), checksAfter_holds (checks.trans (by rw [kept]))⟩

theorem SampleTaken.checked_changes :
    Changes ([.link, .fused] ++ sampleParts) s (setChecks (checksAfter head q w s) y) :=
  taken.changes.trans ((setChecks_changes _ y).mono (by decide))

theorem SampleTaken.checked_handed :
    HandsOver (headEvents head (s.position.heads.get head) q w (decide (headFault head ∈ s.ret.latched)) s.ms)
      (headLatched head (s.position.heads.get head) q w s) (setChecks (checksAfter head q w s) y) :=
  List.append_nil (headEvents ..) ▸ taken.handed.trans (handsOver_same rfl rfl rfl)

theorem SampleTaken.ready_iff : headsReady (setChecks (checksAfter head q w s) y) = true ↔
    ∃ x, ((s.position.heads.set head (judgedHead (s.position.heads.get head) q w)).get x).up = true
      ∧ ((s.position.heads.set head (judgedHead (s.position.heads.get head) q w)).get x).goodCount = 3 := by
  have heads : (setChecks (checksAfter head q w s) y).position.heads =
      s.position.heads.set head (judgedHead (s.position.heads.get head) q w) := by
    show y.position.heads = _
    rw [taken.position]
  rw [headsReady_iff, heads]

end

/-- The latching of a split, from a state that has told nothing. -/
theorem latchSplit_tells (unhanded : HandsOver [] s y) (ms : y.ms = s.ms) (d : Nat) :
    (LatchedFault.split ∈ s.ret.latched → HandsOver [] s (latch .split .split 0 d y))
    ∧ (LatchedFault.split ∉ s.ret.latched →
      HandsOver [.event .split 0 d s.ms] (enterLatched .split s) (latch .split .split 0 d y)) := by
  have same := unhanded.mem_latched (f := .split) (by decide)
  refine ⟨fun latched => ?_, fun fresh => ?_⟩
  · rwa [latch_latched (same.mpr latched)]
  · rw [latch_fresh (mt same.mp fresh)]
    exact raise_tells (x := enterLatched .split s) (unhanded.enterLatched (by decide)) ms

end

end Sys2Proof.Machine
end

section
/-! SUPPORT. The reply of a head (O55): its cases, put together. -/
namespace Sys2Proof.Machine

section
variable {head : Head} {q : SampleRequest} {w : Half} {sw : Switches} {s x y z u : State}

/-- A head's request is discarded, and a reply to it changes the link alone. -/
theorem encoderReply_discarded (running : s.link.exchange = some (.sample head q)) (discard : s.link.discard = true) :
    encoderReply w sw s = endExchange s := by
  rw [encoderReply, running]
  exact if_pos discard

theorem encoderReply_sampled (running : s.link.exchange = some (.sample head q)) (whole : s.link.discard = false) :
    encoderReply w sw s = homingHeads sw (checkSplit head q.round (goodAngle (s.position.heads.get head) w)
      (updateFused (judgeSample head q w (endExchange s)))) := by
  rw [encoderReply, running]
  exact if_neg (by rw [whole]; decide)

theorem homingHeads_still (other : ¬ (s.seq.arm = .homing ∧ s.seq.homing = .heads ∧ headsReady s = true)) :
    homingHeads sw s = s := if_neg other

theorem homingHeads_faulted (faulted : s.seq.arm = .faulted) : homingHeads sw s = s :=
  homingHeads_still fun h => by rw [faulted] at h; nomatch h.1

section
variable (taken : SampleTaken head q w s y)
include taken

theorem SampleTaken.quiet_settle :
    let v := setChecks (checksAfter head q w s) y
    Handed (headEvents head (s.position.heads.get head) q w (decide (headFault head ∈ s.ret.latched)) s.ms)
        (headLatched head (s.position.heads.get head) q w s) (settle s v)
      ∧ Only (.fused :: sampleParts) s (settle s v) ∧ LinkServes { s.link with exchange := none } s (settle s v)
      ∧ (headLost head q w s → (settle s v).frames = singleHeaded s.frames)
      ∧ (¬ headLost head q w s → (settle s v).frames = s.frames) := by
  intro v
  have frames : (settle s v).frames = y.frames := settle_get s v .frames (by decide)
  refine ⟨taken.checked_handed.settle s, settle_only (taken.checked_changes.mono (by decide)),
    linkServes_settle (x := v) taken.link (by rw [show v.settings = y.settings from rfl, taken.settings]) s,
    fun lost => frames.trans (taken.lost lost), fun found => frames.trans (taken.kept found)⟩

/-- R74: a split round, its sample raising no event of its own. -/
theorem SampleTaken.split_settle {a b : Nat}
    (good : sampleKind (s.position.heads.get head) w = 0)
    (silent : headEvents head (s.position.heads.get head) q w (decide (headFault head ∈ s.ret.latched)) s.ms = [])
    (n : PositionUnit) :
    let moved : State := { s with position := n }
    let d := twoPart a b
    let event := ReturnRecord.event .split 0 d s.ms
    let z := enterFaulted .split (latch .split .split 0 d (setChecks (checksAfter head q w s) y))
    let u := settle s z
    z.seq.arm = .faulted
    ∧ (s.seq.arm = .faulted → u.seq = s.seq ∧ u.motion = s.motion
      ∧ (LatchedFault.split ∈ s.ret.latched → Handed [] s u)
      ∧ (LatchedFault.split ∉ s.ret.latched → Handed [event] (enterLatched .split s) u))
    ∧ (s.seq.arm ≠ .faulted → s.seq.arm ≠ .idle → Faulted 3 (some (.split, .split, d)) moved u)
    ∧ (s.seq.arm = .idle → SequencerStopped .faulted moved u ∧ CaptureLeft moved u
      ∧ (LatchedFault.split ∈ s.ret.latched → Handed (leftRecords s ++ turnEnds .armFault (256 * 3) s) s u)
      ∧ (LatchedFault.split ∉ s.ret.latched →
        Handed (event :: (leftRecords s ++ turnEnds .armFault (256 * 3) s)) (enterLatched .split s) u)) := by
  intro moved d event z u
  have quiet : headLatched head (s.position.heads.get head) q w s = s := if_neg fun h => h.1 good
  have unhanded := taken.checked_handed
  rw [silent, quiet] at unhanded
  have frames := taken.kept (headLost_good good)
  have checked := taken.checked_changes
  have tells := latchSplit_tells unhanded (checked.get .ms (by decide)) d
  have frame := checked.trans ((latch_changes .split .split 0 d _).mono (by decide))
  have framesKept : (latch .split .split 0 d (setChecks (checksAfter head q w s) y)).frames = s.frames :=
    ((latch_changes .split .split 0 d (setChecks (checksAfter head q w s) y)).get .frames (by decide)).trans frames
  have zed : z = enterFaulted .split (latch .split .split 0 d (setChecks (checksAfter head q w s) y)) := rfl
  clear_value z
  generalize latch .split .split 0 d (setChecks (checksAfter head q w s) y) = l at tells frame framesKept zed
  have seq : l.seq = s.seq := frame.get .seq (by decide)
  have motion : l.motion = s.motion := frame.get .motion (by decide)
  have volumes : l.volumes = s.volumes := frame.get .volumes (by decide)
  have ms : l.ms = s.ms := frame.get .ms (by decide)
  have capture : l.capture = s.capture := frame.get .capture (by decide)
  have ends := Ends.settle s z
  have faulted (h : s.seq.arm = .faulted) : z = l := zed.trans (if_pos (by rwa [seq]))
  have halted (busy : Busy s.seq) := enterFaulted_split_busy (y := l) (by rwa [seq])
  have alike : FramesAlike moved l := ⟨framesKept, volumes, frame.get .account (by decide), ms,
    frame.get .settings (by decide), frame.lamps_eq (by decide), frame.get .tone (by decide)⟩
  have left (idle : s.seq.arm = .idle) := enterFaulted_split_idle (x := moved) (by rwa [seq]) alike capture seq motion
  refine ⟨?_, fun h => ?_, fun moving busy => ?_, fun idle => ?_⟩
  · by_cases h : s.seq.arm = .faulted
    · rw [faulted h, seq, h]
    · by_cases idle : s.seq.arm = .idle
      · rw [zed, (left idle).1.1]
      · rw [zed, (halted ⟨idle, h⟩).stopped.1]
  · obtain rfl := faulted h
    exact ⟨ends.seq.trans seq, ends.motion.trans motion, fun latched => (tells.1 latched).settle s,
      fun fresh => (tells.2 fresh).settle s⟩
  · obtain ⟨handed, ⟨stopSeq, stopMotion, stopTone⟩, changes, -⟩ := halted ⟨busy, moving⟩
    rw [← zed] at handed stopSeq stopMotion stopTone changes
    have told : turnEnds .armFault (armNumber l.seq.arm + 256 * 3) l =
        turnEnds .armFault (armNumber moved.seq.arm + 256 * 3) moved := by rw [turnEnds, turnEnds, seq, ms]
    rw [told] at handed
    refine ⟨⟨ends.seq.trans (by rw [stopSeq, seq]), ends.motion.trans (by rw [stopMotion, motion]),
      ends.tone.trans (by rw [stopTone, ms])⟩, (ends.volumes.trans (changes.get .volumes (by decide))).trans volumes, ?_⟩
    by_cases latched : LatchedFault.split ∈ s.ret.latched
    · simp only [if_pos (show LatchedFault.split ∈ moved.ret.latched from latched)]
      have same : HandsOver [] moved s := handsOver_same rfl rfl rfl
      exact ((same.trans (tells.1 latched)).trans handed).settle s
    · simp only [if_neg (show LatchedFault.split ∉ moved.ret.latched from latched)]
      have same : HandsOver [] (enterLatched .split moved) (enterLatched .split s) := handsOver_same rfl rfl rfl
      exact ((same.trans (tells.2 latched)).trans handed).settle s
  · obtain ⟨⟨stopSeq, stopMotion, stopTone⟩, captureLeft, handed⟩ := left idle
    rw [← zed] at stopSeq stopMotion stopTone captureLeft handed
    exact ⟨⟨ends.seq.trans stopSeq, ends.motion.trans stopMotion, ends.tone.trans stopTone⟩,
      captureLeft_mono (.settle s z) captureLeft, fun latched => ((tells.1 latched).trans handed).settle s,
      fun fresh => ((tells.2 fresh).trans handed).settle s⟩

/-- R76: a homing that waits for the heads goes on to lower the platen. -/
theorem SampleTaken.homing_settle
    (waits : s.seq.arm = .homing ∧ s.seq.homing = .heads ∧ ∃ x,
      ((s.position.heads.set head (judgedHead (s.position.heads.get head) q w)).get x).up = true
        ∧ ((s.position.heads.set head (judgedHead (s.position.heads.get head) q w)).get x).goodCount = 3) :
    let begun : Sequencer := { s.seq with timer := none, homing := .platenDown }
    let u := settle s (homingHeads sw (setChecks (checksAfter head q w s) y))
    let told := Handed (headEvents head (s.position.heads.get head) q w (decide (headFault head ∈ s.ret.latched)) s.ms)
      (headLatched head (s.position.heads.get head) q w s) u
    (s.motion.platen.isSome → told ∧ u.seq = { begun with platenPhase := .owed } ∧ u.motion = s.motion)
    ∧ (s.motion.platen = none → sw.down = false → told ∧ u.seq = { begun with platenPhase := .offered }
      ∧ u.motion = { s.motion with
          switches := sw, platen := some { down := true, ramp := newRamp (mechOf s).platenMax 7 } }) := by
  intro begun u told
  have checked := taken.checked_changes
  have handed := taken.checked_handed
  have ready := taken.ready_iff.mpr waits.2.2
  have ends := Ends.settle s (homingHeads sw (setChecks (checksAfter head q w s) y))
  have uid : u = settle s (homingHeads sw (setChecks (checksAfter head q w s) y)) := rfl
  clear_value u
  generalize setChecks (checksAfter head q w s) y = v at checked handed ready ends uid
  have seq : v.seq = s.seq := checked.get .seq (by decide)
  have motion : v.motion = s.motion := checked.get .motion (by decide)
  have mech : mechOf v = mechOf s := by rw [mechOf, checked.get .settings (by decide)]; rfl
  have lowers : homingHeads sw v = beginLower sw { v with seq := begun } := by
    have goes : homingHeads sw v = beginLower sw { v with seq := { v.seq with timer := none, homing := .platenDown } } :=
      if_pos ⟨by rw [seq, waits.1], by rw [seq, waits.2.1], ready⟩
    rw [goes, seq]
  rw [← uid, lowers] at ends
  refine ⟨fun moves => ?_, fun rests above => ?_⟩
  · rw [beginLower_owes (y := { v with seq := begun }) (by rwa [← motion] at moves)] at ends
    exact ⟨ends.handed (List.append_nil (headEvents ..) ▸ handed.trans (handsOver_same rfl rfl rfl)), ends.seq,
      ends.motion.trans motion⟩
  · rw [beginLower_offers (y := { v with seq := begun }) (by rwa [← motion] at rests) above] at ends
    refine ⟨ends.handed (List.append_nil (headEvents ..) ▸ handed.trans (handsOver_same rfl rfl rfl)), ends.seq,
      ends.motion.trans ?_⟩
    rw [← mech, ← motion]
    rfl

end

end

/-- Settles O55: the sample as it is judged, the check of its round, and what a split and a homing bring about. -/
theorem encoderReplyJudged : Obligations.EncoderReplyJudged := by
  intro s head q w sw running h heads fused known events waits moved begun split
  have run : exec (.encoderSampleReply w sw) s = .next (settle s (encoderReply w sw s)) := rfl
  refine ⟨fun discard => ?_, fun whole => ?_⟩
  · rw [encoderReply_discarded running discard] at run
    exact ⟨_, run, (endExchange_changes s).settle_only, linkServes_settle (x := endExchange s) rfl rfl s⟩
  · have taken : SampleTaken head q w s _ := sampleTaken (head := head) (q := q) (w := w) whole
    rw [encoderReply_sampled running whole] at run
    generalize updateFused (judgeSample head q w (endExchange s)) = y at run taken
    obtain ⟨unsplitOf, splitOf⟩ := checkSplit_cases taken.toAnglesFormed
    have seq : (setChecks (checksAfter head q w s) y).seq = s.seq := taken.checked_changes.get .seq (by decide)
    have homes := homingHeads_changes sw (checkSplit head q.round (goodAngle (s.position.heads.get head) w) y)
    have frame : Changes turnParts (setChecks (checksAfter head q w s) y)
        (homingHeads sw (checkSplit head q.round (goodAngle (s.position.heads.get head) w) y)) := by
      by_cases splits : ∃ a b, split a b
      · obtain ⟨a, b, splits⟩ := splits
        rw [splitOf a b splits] at homes ⊢
        exact (((latch_changes _ _ _ _ _).mono (by decide)).trans (enterFaulted_changes _ _)).trans homes
      · rw [unsplitOf fun a b h => splits ⟨a, b, h⟩] at homes ⊢
        exact homes
    obtain ⟨leftHeads, leftFused, leftChecks⟩ := taken.position_settle frame
    refine ⟨_, run, leftHeads, leftFused, leftChecks, fun unsplit still => ?_, fun a b splits silent still => ?_,
      fun unsplit goes => ?_⟩
    · rw [unsplitOf unsplit, homingHeads_still fun h => still ⟨seq ▸ h.1, seq ▸ h.2.1, taken.ready_iff.mp h.2.2⟩]
      exact taken.quiet_settle
    · have good : sampleKind h w = 0 := by
        obtain ⟨c, raw, found, good, -⟩ := splits
        exact good
      obtain ⟨faulted, ends⟩ := taken.split_settle (a := a) (b := b) good silent moved.position
      rw [splitOf a b splits, homingHeads_faulted faulted]
      exact ends
    · rw [unsplitOf unsplit]
      exact taken.homing_settle goes

end Sys2Proof.Machine
end

section
/-! SUPPORT. The comparison of the profile pins (11.1), and an image checked and stored (11.4). -/
namespace Sys2Proof.Machine

/-! ## The profile pins (R178) -/

theorem setSettings_handsOver (z : SettingsUnit) (s : State) : HandsOver [] { s with settings := z } (setSettings z s) :=
  handsOver_same rfl rfl rfl

theorem profileCompared (prof1 prof0 : Level) (s : State) : ∃ u, exec (.profileCheck prof1 prof0) s = .next u
    ∧ ProfileCompared (3 * levelNumber prof1 + levelNumber prof0) s u := by
  have run : exec (.profileCheck prof1 prof0) s = .next (settle s
      (if inService s ∧ reached s.ms s.settings.profileDue then compareProfile (profileOf prof1 prof0) s else s)) := rfl
  refine ⟨_, run, ?_⟩
  unfold ProfileCompared
  intro due next
  have iff : (inService s = true ∧ reached s.ms s.settings.profileDue = true) ↔ due := and_congr (serving_iff s) Iff.rfl
  refine ⟨fun early => ?_, fun now same => ?_, fun now other => ?_⟩
  · rw [if_neg (mt iff.mp early)]
    exact (Changes.refl [] s).settle_only
  · have compares : compareProfile (profileOf prof1 prof0) s = setSettings next s := if_pos same
    rw [if_pos (iff.mpr now), compares]
    exact ⟨settle_get s _ .settings (by decide), (setSettings_changes next s).settle_only⟩
  · have compares : compareProfile (profileOf prof1 prof0) s = latch .profileChanged .profileChanged 0
        (3 * levelNumber prof1 + levelNumber prof0) (setSettings { next with lock := true } s) := if_neg other
    have frame := latch_changes .profileChanged .profileChanged 0 (3 * levelNumber prof1 + levelNumber prof0)
      (setSettings { next with lock := true } s)
    have moved := ((setSettings_changes { next with lock := true } s).mono (qs := .settings :: handParts) (by decide)).trans
      (frame.mono (by decide))
    rw [if_pos (iff.mpr now), compares]
    have settings : (settle s (latch .profileChanged .profileChanged 0 (3 * levelNumber prof1 + levelNumber prof0)
        (setSettings { next with lock := true } s))).settings = { next with lock := true } :=
      (settle_get s _ .settings (by decide)).trans (frame.get .settings (by decide))
    refine ⟨settings, moved.settle_only, fun latched => ?_, fun fresh => ?_⟩
    · rw [settings, latch_latched (by exact latched)]
      exact (setSettings_handsOver _ s).settle s
    · rw [settings]
      exact (latch_handsOver (s := { s with settings := { next with lock := true } }) (by exact fresh) rfl rfl rfl
        fun _ he => he).settle s

/-! ## The end of a CONFIGURE (R190) -/

section
variable {s x y b : State} {c : Configure} {o : OutcomeCode} {d : Nat} {image : Option (List Byte)}

theorem endConfigure_eq (held : y.settings.configure = some c) (o : OutcomeCode) (d : Nat) : endConfigure o d y =
    handReturn (.completion 14 c.tag o 255 d y.ms) (setSettings { y.settings with configure := none } y) := by
  rw [endConfigure, held]
  rfl

/-- A CONFIGURE that ends, at the end of the step. -/
theorem configureEnds_settle (held : y.settings.configure = some c)
    (settings : { y.settings with configure := none } = { s.settings with configure := none, pendingImage := image })
    (ret : y.ret = s.ret) (ms : y.ms = s.ms) (waits : ∀ e ∈ waiting s, e ∈ waiting y) :
    ConfigureEnds c.tag o d image s (settle b (endConfigure o d y)) := by
  rw [endConfigure_eq held, ms]
  have left : (settle b (handReturn (.completion 14 c.tag o 255 d s.ms)
      (setSettings { y.settings with configure := none } y))).settings =
      { s.settings with configure := none, pendingImage := image } :=
    (settle_get b _ .settings (by decide)).trans ((handReturn_settings _ _).trans settings)
  have unhanded : HandsOver [] { s with settings := { s.settings with configure := none, pendingImage := image } }
      (setSettings { y.settings with configure := none } y) :=
    .unhanded (by rw [show (setSettings { y.settings with configure := none } y).ret = y.ret from rfl, ret]) settings waits
  refine ⟨left, ?_⟩
  rw [left]
  exact (unhanded.trans (.hand _ _)).settle b

/-! ## The bytes stored (R189, R190) -/

theorem storeFrom_settings (i : Nat) : (storeFrom c i s).settings = { s.settings with
    configure := some { c with phase := if i < 256 then .storing i s.ms else .readback }
    i2c := s.settings.i2c ++
      if i < 256 then [.write 0x56 (BitVec.ofNat 8 i) ((s.settings.pendingImage.getD []).getD i 0), .poll 0x56]
      else [.read 0x56 0 256] } := by
  by_cases more : i < 256
  · rw [storeFrom, if_pos more, if_pos more, if_pos more]
    rfl
  · rw [storeFrom, if_neg more, if_neg more, if_neg more]
    rfl

theorem imageStored (reply : Option (List Byte)) (s : State) : ImageStored reply s := by
  have ends {c : Configure} {o : OutcomeCode} {d : Nat} (held : s.settings.configure = some c) :
      ConfigureEnds c.tag o d s.settings.pendingImage s (settle s (endConfigure o d s))
        ∧ Only (.settings :: handParts) s (settle s (endConfigure o d s)) :=
    ⟨configureEnds_settle held rfl rfl rfl fun _ he => he, (endConfigure_changes o d s).settle_only⟩
  refine ⟨⟨settle s (byteAcknowledged s), rfl, fun idle => ?_, fun c i t storing early => ?_⟩,
    ⟨settle s (byteTimedOut s), rfl, fun idle => ?_, fun c i t storing late => ?_⟩,
    settle s (readbackCompletes reply s), rfl, fun idle => ?_, fun c image reading pending => ?_⟩
  · have still : byteAcknowledged s = s := by
      unfold byteAcknowledged
      split
      · rfl
      · rename_i c held
        split
        · rename_i i t phase
          exact if_neg (Nat.not_le.mpr (idle c i t ⟨held, phase⟩))
        all_goals rfl
    rw [still]
    exact (Changes.refl [] s).settle_only
  · obtain ⟨held, phase⟩ := storing
    have acknowledges : byteAcknowledged s = storeFrom c (i + 1) s := by
      simp only [byteAcknowledged, held, phase]
      exact if_pos early
    rw [acknowledges]
    exact ⟨(storeFrom_changes c (i + 1) s).settle_only,
      (settle_get s _ .settings (by decide)).trans (storeFrom_settings (i + 1))⟩
  · have still : byteTimedOut s = s := by
      unfold byteTimedOut
      split
      · rfl
      · rename_i c held
        split
        · rename_i i t phase
          exact if_neg (Nat.not_le.mpr (idle c i t ⟨held, phase⟩))
        all_goals rfl
    rw [still]
    exact (Changes.refl [] s).settle_only
  · obtain ⟨held, phase⟩ := storing
    have times : byteTimedOut s = endConfigure .storeFailed i s := by
      simp only [byteTimedOut, held, phase]
      exact if_pos late
    rw [times]
    exact ends held
  · have still : readbackCompletes reply s = s := by
      unfold readbackCompletes
      split
      · rfl
      · rename_i c held
        split
        · rename_i phase
          exact absurd ⟨held, phase⟩ (idle c)
        all_goals rfl
    rw [still]
    exact (Changes.refl [] s).settle_only
  · obtain ⟨held, phase⟩ := reading
    refine ⟨fun none => ?_, fun back got => ⟨fun same => ?_, fun i within differs before => ?_⟩⟩
    · have fails : readbackCompletes reply s = endConfigure .storeFailed 512 s := by
        simp only [readbackCompletes, held, phase, none]
      rw [fails]
      exact ends held
    · have first : firstDifference image back = Option.none := by
        simpa [firstDifference] using same
      have done : readbackCompletes reply s = endConfigure .done 0 s := by
        simp only [readbackCompletes, held, phase, got, pending, Option.getD_some, first]
      rw [done]
      exact ends held
    · have first : firstDifference image back = some i := by
        simp only [firstDifference, List.find?_range_eq_some, List.mem_range, decide_eq_true_eq, Bool.not_eq_true', decide_eq_false_iff_not, Classical.not_not]
        exact ⟨differs, within, before⟩
      have fails : readbackCompletes reply s = endConfigure .storeFailed (256 + i) s := by
        simp only [readbackCompletes, held, phase, got, pending, Option.getD_some, first]
      rw [fails]
      exact ends held

end

end Sys2Proof.Machine
end

section
/-! SUPPORT. The last read of a CONFIGURE's image, and the checks that follow it (11.4). -/
namespace Sys2Proof.Machine

section
variable {s x y : State} {e : InternalEntry}

/-- The service of an image read leaves what the service of a ticket read leaves. -/
theorem serveInternal_imageServed {k : Nat} (purpose : e.purpose = .imageRead k) (s : State) :
    TicketServed s (serveInternal e s) := by
  have ticket := serveInternal_ticketServed (e := { e with purpose := .ticketRead 0 }) rfl s
  have same : serveInternal e s = serveInternal { e with purpose := .ticketRead 0 } s := by
    simp only [serveInternal, purpose]
  rw [same]
  exact ticket

theorem exec_configureImageRead (chosen : InternalChosen s e) (purpose : e.purpose = .imageRead 3)
    (reads : imageRead (deliverImage (readBlock s.memory e.addr) (serveInternal e s)) = y)
    (working : y.settings.working = s.settings.working) (startup : y.settings.startup = s.settings.startup)
    (upstream : y.path.upstream = s.path.upstream) (requests : OwnRequestsAdded (serveInternal e s) y) :
    exec .configureImageRead s = .next (settle s y) := by
  have run : exec .configureImageRead s = .next (settle s (imageReadServed s)) := rfl
  obtain ⟨-, -, rests⟩ := id chosen
  have served := serveInternal_imageServed purpose s
  have pumped : pump y = y := pump_eq_self (serveSilent_none_of_rests (s := s) working startup (upstream ▸ rests)
    fun f hf => (requests.added f (mem_waiting_of_internal f hf)).imp (served.left f) fun own k image => by
      simp [isOwnWrite, image] at own)
  have effect : imageReadServed s = y := by
    rw [imageReadServed, arbiter_of_internalChosen chosen]
    simp only [purpose, Nat.le_refl, if_true, reads, pumped]
  rw [run, effect]

theorem imageReadServed_idle (idle : s.path.internal = []) : imageReadServed s = s := by
  have none : arbiter s = s.path.upstream.head?.map Grant.upstream := by
    rw [arbiter_eq, idle]
    split
    · simp_all
    · rfl
  unfold imageReadServed
  rw [none]
  cases s.path.upstream <;> rfl

/-- The checks of an image, in the order in which they fail. -/
theorem imageFault_eq (image : List Byte) : imageFault image =
    if ¬ CrcHolds (mapPart image) 62 then some 1
    else if ¬ CrcHolds (mechPart image) 190 then some 2
    else if mapContentsPass (mapFields (mapPart image)) = false then some 3
    else if mechContentsPass (mechFields (mechPart image)) = false then some 4
    else none := by
  simp only [imageFault, crcMatches, decide_eq_true_eq, Bool.not_eq_true]
  rfl

/-- What the end of a CONFIGURE, and the beginning of its storing, leave for the port. -/
structure PortKept (s x : State) : Prop where
  working : x.settings.working = s.settings.working
  startup : x.settings.startup = s.settings.startup
  upstream : x.path.upstream = s.path.upstream
  requests : OwnRequestsAdded s x

theorem endConfigure_portKept (o : OutcomeCode) (d : Nat) (s : State) : PortKept s (endConfigure o d s) := by
  cases held : s.settings.configure with
  | none =>
    have still : endConfigure o d s = s := by rw [endConfigure, held]
    rw [still]
    exact ⟨rfl, rfl, rfl, .of_path rfl⟩
  | some c =>
    rw [endConfigure_eq held]
    have settings := handReturn_settings (.completion 14 c.tag o 255 d s.ms) (setSettings { s.settings with configure := none } s)
    exact ⟨by rw [settings]; rfl, by rw [settings]; rfl, (handReturn_changes _ _).get .upstream (by decide),
      (OwnRequestsAdded.of_path (s := s) (t := setSettings { s.settings with configure := none } s) rfl).trans
        (handReturn_ownRequests _ _)⟩

theorem storeFrom_portKept (c : Configure) (i : Nat) (s : State) : PortKept s (storeFrom c i s) := by
  have path : (storeFrom c i s).path = s.path := by
    unfold storeFrom
    split <;> rfl
  refine ⟨?_, ?_, by rw [path], .of_path path⟩
  · rw [storeFrom_settings]
  · rw [storeFrom_settings]

/-- Another pending image is nothing to the port. -/
theorem PortKept.of_pending {image : Option (List Byte)} {z : State}
    (h : PortKept (setSettings { s.settings with pendingImage := image } s) z) : PortKept s z :=
  ⟨h.working, h.startup, h.upstream, (OwnRequestsAdded.of_path (s := s)
    (t := setSettings { s.settings with pendingImage := image } s) rfl).trans h.requests⟩

/-- The state once the last quarter of an image has been read. -/
structure ImageRead (tag : Half) (store : Bool) (image : List Byte) (s y : State) : Prop where
  settings : y.settings = { s.settings with configure := some { tag := tag, store := store, phase := .reading image } }
  ret : y.ret = s.ret
  ms : y.ms = s.ms
  upstream : y.path.upstream = s.path.upstream
  waits : ∀ f ∈ waiting (headServed s), f ∈ waiting y

section
variable {tag : Half} {store : Bool} {image : List Byte} (arrived : ImageRead tag store image s y)
include arrived

theorem ImageRead.refused {d : Nat} (fault : imageFault image = some d) :
    PortKept y (imageRead y) ∧ ConfigureEnds tag .settingsBad d s.settings.pendingImage (headServed s) (settle s (imageRead y)) := by
  have refuses : imageRead y = endConfigure .settingsBad d y := by
    rw [imageRead, arrived.settings]
    simp only [fault]
  rw [refuses]
  exact ⟨endConfigure_portKept .settingsBad d y,
    configureEnds_settle (c := { tag := tag, store := store, phase := .reading image })
      (by rw [arrived.settings]) (by rw [arrived.settings]; rfl) arrived.ret arrived.ms arrived.waits⟩

theorem ImageRead.taken (sound : imageFault image = none) (unstored : store = false) :
    PortKept y (imageRead y) ∧ ConfigureEnds tag .done 0 (some image) (headServed s) (settle s (imageRead y)) := by
  have takes : imageRead y = endConfigure .done 0 (setSettings { y.settings with pendingImage := some image } y) := by
    rw [imageRead, arrived.settings]
    simp only [sound, unstored]
    rfl
  rw [takes]
  have kept := endConfigure_portKept .done 0 (setSettings { y.settings with pendingImage := some image } y)
  exact ⟨kept.of_pending,
    configureEnds_settle (c := { tag := tag, store := store, phase := .reading image })
      (by rw [arrived.settings]; rfl) (by rw [arrived.settings]; rfl) arrived.ret arrived.ms arrived.waits⟩

theorem ImageRead.storing (sound : imageFault image = none) (stored : store = true) :
    PortKept y (imageRead y) ∧ Handed [] { headServed s with settings := (settle s (imageRead y)).settings } (settle s (imageRead y))
      ∧ (settle s (imageRead y)).settings = { s.settings with
          configure := some { tag := tag, store := true, phase := .storing 0 s.ms }, pendingImage := some image
          i2c := s.settings.i2c ++ [.write 0x56 0 (image.getD 0 0), .poll 0x56] } := by
  let c : Configure := { tag := tag, store := store, phase := .reading image }
  have stores : imageRead y = storeFrom c 0 (setSettings { y.settings with pendingImage := some image } y) := by
    rw [imageRead, arrived.settings]
    simp only [sound, c, stored]
    rfl
  rw [stores]
  have kept := storeFrom_portKept c 0 (setSettings { y.settings with pendingImage := some image } y)
  have frame := storeFrom_changes c 0 (setSettings { y.settings with pendingImage := some image } y)
  have settings := storeFrom_settings (c := c) (s := setSettings { y.settings with pendingImage := some image } y) 0
  have path : (storeFrom c 0 (setSettings { y.settings with pendingImage := some image } y)).path = y.path := rfl
  generalize storeFrom c 0 (setSettings { y.settings with pendingImage := some image } y) = z at kept frame settings path
  have left : (settle s z).settings = z.settings := settle_get s z .settings (by decide)
  refine ⟨kept.of_pending, ?_, ?_⟩
  · rw [left]
    refine (HandsOver.unhanded ?_ rfl fun f hf => ?_ : HandsOver [] { headServed s with settings := z.settings } z).settle s
    · have ret : z.ret = y.ret := frame.ret_eq (by decide)
      rw [ret, arrived.ret]
      rfl
    · rw [waiting, path]
      exact arrived.waits f hf
  · have ms : (setSettings { y.settings with pendingImage := some image } y).ms = s.ms := arrived.ms
    rw [left, settings, ms]
    simp only [setSettings, arrived.settings, c, stored]
    rfl

end

theorem imageChecked (s : State) : ImageChecked s := by
  intro e tag store early chosen purpose fits held image crcs fails
  have served := serveInternal_imageServed purpose s
  have bytes : readBlock s.memory e.addr = (List.range 64).map fun k => readByte s.memory (e.addr.toNat + k) := by
    have read := bytesOfWords_readWords s.memory 16 e.addr.toNat fits
    rwa [BitVec.ofNat_toNat, BitVec.setWidth_eq] at read
  have runs := fun y => exec_configureImageRead (y := y) chosen purpose
  rw [bytes] at runs
  generalize serveInternal e s = x at served runs
  have settings : x.settings = s.settings := served.changes.get .settings (by decide)
  have delivers : deliverImage ((List.range 64).map fun k => readByte s.memory (e.addr.toNat + k)) x =
      setSettings { s.settings with configure := some { tag := tag, store := store, phase := .reading image } } x := by
    rw [deliverImage, settings, held]
  have arrived : ImageRead tag store image s (setSettings { s.settings with
      configure := some { tag := tag, store := store, phase := .reading image } } x) :=
    ⟨rfl, served.changes.ret_eq (by decide), served.changes.get .ms (by decide), served.upstream, served.waits⟩
  rw [delivers] at runs
  have path : (setSettings { s.settings with
      configure := some { tag := tag, store := store, phase := .reading image } } x).path = x.path := rfl
  generalize setSettings { s.settings with
      configure := some { tag := tag, store := store, phase := .reading image } } x = y at runs arrived path
  have kept : PortKept y (imageRead y) := by
    cases fault : imageFault image with
    | some d => exact (arrived.refused fault).1
    | none =>
      cases stores : store with
      | false => exact (arrived.taken fault stores).1
      | true => exact (arrived.storing fault stores).1
  have run := runs _ rfl (kept.working.trans (by rw [arrived.settings])) (kept.startup.trans (by rw [arrived.settings]))
    (kept.upstream.trans arrived.upstream) ((OwnRequestsAdded.of_path path).trans kept.requests)
  have fault := imageFault_eq image
  refine ⟨_, run, fun map => ?_, fun map mech => ?_, fun both bad => ?_, fun both good bad => ?_, fun both good well => ?_⟩
  · rw [if_pos map] at fault
    exact (arrived.refused fault).2
  · rw [if_neg (Classical.not_not.mpr map), if_pos mech] at fault
    exact (arrived.refused fault).2
  all_goals rw [if_neg (Classical.not_not.mpr both.1), if_neg (Classical.not_not.mpr both.2)] at fault
  · rw [if_pos bad] at fault
    exact (arrived.refused fault).2
  all_goals rw [if_neg (by rw [good]; decide)] at fault
  · rw [if_pos bad] at fault
    exact (arrived.refused fault).2
  · rw [if_neg (by rw [well]; decide)] at fault
    exact ⟨fun unstored => (arrived.taken fault unstored).2, fun stored => (arrived.storing fault stored).2⟩

end

/-- Settles O60: the profile pins, the checks of an image, and its storing. -/
theorem settingsCheckedAndStored : Obligations.SettingsCheckedAndStored := by
  intro s prof1 prof0 reply
  refine ⟨profileCompared prof1 prof0 s, fun idle => exec_holds ?_, imageChecked s, imageStored reply s⟩
  exact congrArg (fun x => Host.Outcome.next (settle s x)) (imageReadServed_idle idle)

end Sys2Proof.Machine
end

section
/-! SUPPORT. LOADING (11.2, 11.3), and the service that begins after it. -/
namespace Sys2Proof.Machine

/-! ## The service begins (R186) -/

section
variable {s x y b u : State} {st : Startup} {c : Candidate}

/-- The state in which the service begins after a LOADING or a RESTART, its arm to be homed when it is READY. -/
def serviceBegun (st : Startup) (c : Candidate) (y : State) : State :=
  { y with
    settings := { y.settings with startup := st, profileDue := y.ms + 100 }
    ret := (latchLoading c y).ret
    position := { y.position with
      due := [y.ms], lastRound := y.ms, nextRound := after y.ms (roundPeriod y), checks := [] }
    lamps := { v := { y.lamps.v with pollDue := y.ms }, r := { y.lamps.r with pollDue := y.ms } }
    stopLine := 0
    resumeLine := 0
    seq := if st = .ready then { y.seq with
        arm := .homing, vacuum := false, armPhase := .none, platenPhase := .none, homing := .heads
        timer := some { kind := .homing, due := y.ms + 500 } } else y.seq }

theorem latchLoading_ret (c : Candidate) (s : State) : latchLoading c s = { s with ret := (latchLoading c s).ret } := by
  unfold latchLoading
  split <;> split <;> rfl

theorem enterHoming_eq (busy : s.seq.arm ≠ .idle) : enterHoming s = { s with seq := { s.seq with
    arm := .homing, vacuum := false, armPhase := .none, platenPhase := .none, homing := .heads
    timer := some { kind := .homing, due := s.ms + 500 } } } := by
  simp only [enterHoming]
  rw [setArm_eq .homing (.inl busy)]
  rfl

theorem serviceBegun_begins (faulted : y.seq.arm = .faulted) :
    homeIfReady (latchLoading c (enterService st y)) = serviceBegun st c y := by
  have busy : y.seq.arm ≠ .idle := by rw [faulted]; decide
  have latches : (latchLoading c (enterService st y)).ret = (latchLoading c y).ret := by
    unfold latchLoading
    split <;> split <;> rfl
  rw [latchLoading_ret, latches]
  by_cases ready : st = .ready
  · subst ready
    rw [homeIfReady, if_pos (by rfl), enterHoming_eq (by exact busy), serviceBegun, if_pos rfl]
    rfl
  · rw [homeIfReady, if_neg (by exact ready), serviceBegun, if_neg ready]
    rfl

/-- R39: the rounds as they stand once the service has begun. -/
theorem roundTimes_serviceBegun (service : st = .ready ∨ st = .bare)
    (position : x.position = (serviceBegun st c y).position) (startup : x.settings.startup = st) (ms : x.ms = y.ms) :
    ((settle b x).position.due = [y.ms] ∧ (settle b x).position.lastRound = y.ms)
      ∧ ((Fast b ↔ Fast y) → roundTimes (settle b x) = ([y.ms], y.ms, if fastSampling x then y.ms + 1 else y.ms + 20)) := by
  have serves : Serving x := by rwa [Serving, startup]
  have times : roundTimes x = ([y.ms], y.ms, after y.ms (roundPeriod y)) := by rw [roundTimes, position]; rfl
  have due : x.position.due = [y.ms] := congrArg Prod.fst times
  have lastRound : x.position.lastRound = y.ms := congrArg (fun p => p.2.1) times
  obtain ⟨still, begins, ends⟩ := roundTimes_roundEdge b x
  have settled : roundTimes (settle b x) = roundTimes (roundEdge b x) := roundTimes_settle b x
  have left : ∃ next, roundTimes (settle b x) = ([y.ms], y.ms, next)
      ∧ ((Fast b ↔ Fast y) → next = if fastSampling x then y.ms + 1 else y.ms + 20) := by
    rw [settled]
    by_cases before : Fast b <;> by_cases now : Fast x
    · refine ⟨_, (still (.inl (iff_of_true before now))).trans times, fun same => ?_⟩
      rw [roundPeriod, if_pos ((fastSampling_iff y).mpr (same.mp before)), if_pos ((fastSampling_iff x).mpr now)]
      rfl
    · refine ⟨_, (ends serves before now).trans (by rw [due, lastRound]), fun _ => ?_⟩
      rw [if_neg (mt (fastSampling_iff x).mp now)]
    · refine ⟨_, ((begins serves before now).1 (by rw [due, ms]; rfl)).trans (by rw [due, lastRound, ms]), fun _ => ?_⟩
      rw [if_pos ((fastSampling_iff x).mpr now)]
    · refine ⟨_, (still (.inl (iff_of_false before now))).trans times, fun same => ?_⟩
      rw [roundPeriod, if_neg (fun h => before (same.mpr ((fastSampling_iff y).mp h))),
        if_neg (mt (fastSampling_iff x).mp now)]
      rfl
  obtain ⟨next, whole, steady⟩ := left
  exact ⟨⟨congrArg Prod.fst whole, congrArg (fun p => p.2.1) whole⟩, fun same => by rw [whole, steady same]⟩

theorem position_ext {p q : PositionUnit} (heads : p.heads = q.heads) (fused : p.fused = q.fused)
    (number : p.roundNumber = q.roundNumber) (checks : p.checks = q.checks)
    (times : (p.due, p.lastRound, p.nextRound) = (q.due, q.lastRound, q.nextRound)) : p = q := by
  cases p
  cases q
  simp_all

/-! ## A section of the settings (R183 to R185) -/

theorem attemptBytes_whole {n : SectionName} {bs : List Byte} (whole : WholeSection (sectionLength n) bs) :
    attemptBytes n (some bs) = some bs := by
  refine if_pos ⟨whole.1, decide_eq_true ?_⟩
  cases n <;> exact whole.2

theorem attemptBytes_bad {n : SectionName} {reply : Option (List Byte)}
    (bad : ∀ bs, reply = some bs → ¬ WholeSection (sectionLength n) bs) : attemptBytes n reply = none := by
  cases reply with
  | none => rfl
  | some bs =>
    refine if_neg fun h => bad bs rfl ⟨h.1, ?_⟩
    have crc := of_decide_eq_true h.2
    cases n <;> exact crc

theorem reachedState_loaded (profile : Nat) (map : Option MapSettings) (mech : Option MechSettings) :
    reachedState (loadedFrom profile map mech).settings = if map.isSome then .ready else .bare := by
  cases map <;> rfl

/-! ## LOADING ends (R186) -/

theorem latchLoading_loaded (profile : Nat) (map : Option MapSettings) (mech : Option MechSettings) (y : State) :
    latchLoading (loadedFrom profile map mech) y =
      ((if map.isNone then [LatchedFault.settingsMap] else [])
        ++ if mech.isNone then [LatchedFault.settingsMech] else []).foldl (fun x f => enterLatched f x) y := by
  cases map <;> cases mech <;> rfl

theorem handReturn_lamps (r : ReturnRecord) (s : State) : (handReturn r s).lamps = s.lamps :=
  (handReturn_changes r s).lamps_eq (by decide)

theorem endLoading_eq (faulted : s.seq.arm = .faulted) (c : Candidate) : endLoading c s =
    stateEvent (serviceBegun (reachedState c.settings) c
      (setSettings { s.settings with working := some c.settings, loading := none } s)) := by
  rw [← serviceBegun_begins (by exact faulted)]
  rfl

theorem loadingEnded_settle (faulted : s.seq.arm = .faulted) (map : Option MapSettings) (mech : Option MechSettings) :
    LoadingEnded map mech s (settle s (endLoading (loadedFrom s.settings.profile map mech) s)) := by
  rw [endLoading_eq faulted, reachedState_loaded]
  unfold LoadingEnded
  intro startup latched
  let c := loadedFrom s.settings.profile map mech
  let y := setSettings { s.settings with working := some c.settings, loading := none } s
  let z := serviceBegun startup c y
  have frame := stateEvent_changes z
  have settings : (settle s (stateEvent z)).settings = z.settings :=
    (settle_get s _ .settings (by decide)).trans (frame.get .settings (by decide))
  have seq : (settle s (stateEvent z)).seq = z.seq :=
    (settle_get s _ .seq (by decide)).trans (frame.get .seq (by decide))
  have motion : (settle s (stateEvent z)).motion = z.motion :=
    (settle_get s _ .motion (by decide)).trans (frame.get .motion (by decide))
  have capture : (settle s (stateEvent z)).capture = z.capture :=
    (settle_get s _ .capture (by decide)).trans (frame.get .capture (by decide))
  have volumes : (settle s (stateEvent z)).volumes = z.volumes :=
    (settle_get s _ .volumes (by decide)).trans (frame.get .volumes (by decide))
  have tickets : (settle s (stateEvent z)).tickets = z.tickets :=
    (settle_get s _ .tickets (by decide)).trans (frame.get .tickets (by decide))
  have position : (stateEvent z).position = z.position := handReturn_position _ z
  have lamps : (stateEvent z).lamps = z.lamps := handReturn_lamps _ z
  obtain ⟨stopLine, resumeLine⟩ := settle_get s (stateEvent z) .buttons (by decide)
  obtain ⟨stopLine', resumeLine'⟩ := frame.get .buttons (by decide)
  have fast : Fast (settle s (stateEvent z)) ↔ fastSampling (stateEvent z) = true :=
    (fast_of_changes (settle_changes s _) (by decide) (by decide)).trans (fastSampling_iff _).symm
  obtain ⟨number, checks⟩ := settle_get s (stateEvent z) .rounds (by decide)
  have service : startup = .ready ∨ startup = .bare := by
    cases map
    · exact .inr rfl
    · exact .inl rfl
  have times := (roundTimes_serviceBegun (b := s) service position (congrArg SettingsUnit.startup
    (frame.get .settings (by decide))) (frame.get .ms (by decide))).2 Iff.rfl
  have placed {next : Word} (which : (if fastSampling (stateEvent z) then y.ms + 1 else y.ms + 20) = next) :
      (settle s (stateEvent z)).position =
        { s.position with due := [s.ms], lastRound := s.ms, nextRound := next, checks := [] } := by
    refine position_ext ((settle_get s (stateEvent z) .heads (by decide)).trans (by rw [position]; rfl))
      ((settle_get s (stateEvent z) .fused (by decide)).trans (by rw [position]; rfl)) (number.trans (by rw [position]; rfl))
      (checks.trans (by rw [position]; rfl)) ?_
    rw [← which]
    exact times
  refine ⟨settings.trans rfl, seq.trans ?_, ?_, fun side => ?_, stopLine.trans stopLine', resumeLine.trans resumeLine',
    fun quick => placed (if_pos (fast.mp quick)), fun slow => placed (if_neg (mt fast.mpr slow)), motion, capture, volumes, tickets⟩
  · cases map <;> rfl
  · rw [settings]
    have latches : HandsOver [] (latched.foldl (fun x f => enterLatched f x) { s with settings := z.settings }) z := by
      rw [← latchLoading_loaded s.settings.profile map mech]
      cases map <;> cases mech <;> exact handsOver_same rfl rfl rfl
    exact (latches.trans (.hand _ z)).settle s
  · have bar := settle_lasting s (stateEvent z) side
    rw [lamps] at bar
    exact (congrArg Bar.pollDue bar).trans (by cases side <;> rfl)

/-! ## An attempt, and the wait for another -/

section
variable {l : Loading} {reply : Option (List Byte)}

theorem sectionDone_map (first : l.reading = .mapSection) (bytes : Option (List Byte)) :
    sectionDone l bytes s = setSettings { s.settings with
      loading := some { reading := .mechSection, failed := 0, retryAt := none, map := bytes.bind goodMap }
      i2c := s.settings.i2c ++ [.read 0x56 64 192] } s := by
  rw [sectionDone, first]
  rfl

theorem sectionDone_mech (second : l.reading = .mechSection) (bytes : Option (List Byte)) :
    sectionDone l bytes s = sectionsRead l.map (bytes.bind goodMech) s := by rw [sectionDone, second]

theorem readAttempt_read {bs : List Byte} (got : attemptBytes l.reading reply = some bs) :
    readAttempt l reply s = sectionDone l (some bs) s := by rw [readAttempt, got]

theorem readAttempt_again (missed : attemptBytes l.reading reply = none) (few : l.failed < 3) :
    readAttempt l reply s = setSettings { s.settings with
      loading := some { l with failed := l.failed + 1, retryAt := some (s.ms + 10) } } s := by
  rw [readAttempt, missed]
  exact if_pos (Nat.succ_lt_succ few)

theorem readAttempt_fails (missed : attemptBytes l.reading reply = none) (many : 3 ≤ l.failed) :
    readAttempt l reply s = sectionDone l none s := by
  rw [readAttempt, missed]
  exact if_neg (by omega)

/-- A settings unit that alone changes. -/
theorem setSettings_settle (z : SettingsUnit) (s : State) :
    Only [.settings] s (settle s (setSettings z s)) ∧ (settle s (setSettings z s)).settings = z :=
  ⟨(setSettings_changes z s).settle_only, settle_get s _ .settings (by decide)⟩

/-- The end of the second section, in a start-up and in a RESTART. -/
theorem sectionsRead_ends (map : Option MapSettings) (mech : Option MechSettings) (s : State) :
    (s.settings.restart = none → s.seq.arm = .faulted → LoadingEnded map mech s (settle s (sectionsRead map mech s))
      ∧ Only loadingParts s (settle s (sectionsRead map mech s)))
    ∧ ∀ r, s.settings.restart = some r → Only [.settings] s (settle s (sectionsRead map mech s))
      ∧ (settle s (sectionsRead map mech s)).settings = { s.settings with
        loading := none, restart := some { r with candidate := some (loadedFrom r.profile map mech) } } := by
  refine ⟨fun none faulted => ?_, fun r held => ?_⟩
  · refine ⟨?_, (sectionsRead_changes map mech s).settle_only⟩
    have ends : sectionsRead map mech s = endLoading (loadedFrom s.settings.profile map mech) s := by
      rw [sectionsRead, none]
      rfl
    rw [ends]
    exact loadingEnded_settle faulted map mech
  · have loads : sectionsRead map mech s = setSettings { s.settings with
        loading := none, restart := some { r with candidate := some (loadedFrom r.profile map mech) } } s := by
      rw [sectionsRead, held]
      rfl
    rw [loads]
    exact setSettings_settle _ s

theorem attemptActs (reply : Option (List Byte)) (s : State) : AttemptActs reply s := by
  unfold AttemptActs
  intro attempting n next ended
  refine ⟨settle s (attemptCompletes reply s), rfl, fun idle => ?_, fun l attempt => ?_⟩
  · have still : attemptCompletes reply s = s := by
      unfold attemptCompletes
      split
      · rfl
      · rename_i l loading
        exact if_neg fun h => idle l ⟨loading, h.1, h.2⟩
    rw [still]
    exact (Changes.refl [] s).settle_only
  have length : n l = sectionLength l.reading := by
    simp only [n]
    cases l.reading <;> rfl
  have attempts : attemptCompletes reply s = readAttempt l reply s := by
    obtain ⟨loading, startup, ready⟩ := attempt
    rw [attemptCompletes, loading]
    exact if_pos ⟨startup, ready⟩
  rw [attempts, length]
  refine ⟨fun bad few => ?_, fun bad many => ⟨fun first => ?_, fun second => ?_⟩,
    fun bs got whole => ⟨fun first => ?_, fun second => ?_⟩⟩
  · rw [readAttempt_again (attemptBytes_bad bad) few]
    exact setSettings_settle _ s
  · rw [readAttempt_fails (attemptBytes_bad bad) many, sectionDone_map first]
    exact setSettings_settle _ s
  · rw [readAttempt_fails (attemptBytes_bad bad) many, sectionDone_mech second]
    exact sectionsRead_ends l.map none s
  · rw [got, readAttempt_read (attemptBytes_whole whole), sectionDone_map first]
    exact setSettings_settle _ s
  · rw [got, readAttempt_read (attemptBytes_whole whole), sectionDone_mech second]
    exact sectionsRead_ends l.map (goodMech bs) s

theorem retryWaitEnds_ends (s : State) : RetryWaitEnds s := by
  unfold RetryWaitEnds
  intro due
  refine ⟨settle s (retryWaitEnds s), rfl, fun idle => ?_, fun l t now => ?_⟩
  · have still : retryWaitEnds s = s := by
      unfold retryWaitEnds
      split
      · rfl
      · rename_i l loading
        split
        · rfl
        · rename_i t waits
          exact if_neg fun h => idle l t ⟨loading, waits, h⟩
    rw [still]
    exact (Changes.refl [] s).settle_only
  · obtain ⟨loading, waits, over_⟩ := now
    have ends : retryWaitEnds s = setSettings { s.settings with
        loading := some { l with retryAt := none }
        i2c := s.settings.i2c ++ [if l.reading = .mapSection then .read 0x56 0 64 else .read 0x56 64 192] } s := by
      simp only [retryWaitEnds, loading, waits, over_, if_true]
      cases l.reading <;> rfl
    rw [ends]
    exact setSettings_settle _ s

end

end

/-- Settles O59: the release, the settling, and the attempts of LOADING to its end. -/
theorem startUpReachesService : Obligations.StartUpReachesService := by
  intro s powerOn prof1 prof0 reply settled
  have release : exec (.resetnRelease powerOn) s = .next (settle s (releaseReset powerOn s)) := rfl
  have settles : exec (.powerSettlingEnd prof1 prof0) s = .next (settle s (powerSettled (profileOf prof1 prof0) s)) := rfl
  refine ⟨fun other => exec_holds ?_, fun held => ?_, fun early => exec_holds ?_, fun now => ?_, attemptActs reply s,
    retryWaitEnds_ends s⟩
  · rw [release, releaseReset, if_neg other]
  · rw [releaseReset, if_pos held] at release
    have frame := releaseReset_changes powerOn s
    rw [releaseReset, if_pos held] at frame
    exact ⟨_, release, frame.settle_only, settle_get s _ .ms (by decide), settle_get s _ .settings (by decide)⟩
  · rw [settles, powerSettled, if_neg early]
  · rw [powerSettled, if_pos now] at settles
    exact ⟨_, settles, setSettings_settle _ s⟩

end Sys2Proof.Machine
end

section
/-! SUPPORT. RESTART (2.3, 11.5): its refusals, its holds, and the LOADING of a RELOAD. -/
namespace Sys2Proof.Machine

/-! ## Conditions examined in order -/

/-- A detail that is 0 when all conditions hold, and otherwise the number of the first that fails. -/
structure Detailed (checks : List (Nat × Prop)) (n : Nat) : Prop where
  passes : AllHold checks → n = 0
  fails : ∀ d, FirstFailing checks d → n = d

theorem Detailed.nil : Detailed [] 0 := ⟨fun _ => rfl, nofun⟩

theorem Detailed.cons {k n : Nat} {p c : Prop} [Decidable c] {rest : List (Nat × Prop)} (check : c ↔ ¬ p)
    (h : Detailed rest n) : Detailed ((k, p) :: rest) (if c then k else n) := by
  refine ⟨fun all => ?_, fun d first => ?_⟩
  · obtain ⟨holds, all⟩ := List.forall_mem_cons.1 all
    rw [if_neg fun h => check.1 h holds]
    exact h.passes all
  · rcases first with ⟨failing, rfl⟩ | ⟨holds, first⟩
    · exact if_pos (check.2 failing)
    · rw [if_neg fun h => check.1 h holds]
      exact h.fails d first

theorem firstFailing_mem {checks : List (Nat × Prop)} {d : Nat} (first : FirstFailing checks d) : d ∈ checks.map Prod.fst := by
  induction checks with
  | nil => exact first.elim
  | cons c checks ih =>
    rcases first with ⟨-, rfl⟩ | ⟨-, later⟩
    · exact List.mem_cons_self
    · exact List.mem_cons_of_mem _ (ih later)

section
variable {s x : State} {t : Ticket} {c : Candidate} {d profile : Nat}

theorem busyDetail_detailed (s : State) : Detailed (busyChecks s) (busyDetail s) := by
  have windows : windowsInUse s ≠ 0 ↔ ¬ ∀ w ∈ s.frames.windows, w = none := by
    simp [windowsInUse, List.countP_eq_zero]
  have engines : (s.motion.arm.isSome ∨ s.motion.platen.isSome) ↔ ¬ (s.motion.arm = none ∧ s.motion.platen = none) := by
    cases s.motion.arm <;> cases s.motion.platen <;> simp
  have capture : ¬ captureFree s ↔ ¬ s.capture.state = .free := by simp [captureFree]
  exact .cons Iff.rfl (.cons capture (.cons windows (.cons engines .nil)))

theorem isMapChange_iff (s : State) (c : Candidate) : isMapChange s c = true ↔ MapChange s c := by
  unfold isMapChange MapChange
  cases mapOf s with
  | none => simp
  | some m =>
    generalize c.settings.map = k
    cases m
    cases k
    simp only [ne_eq, decide_eq_true_eq, Option.some.injEq, forall_eq', MapSettings.mk.injEq, and_true]
    grind

theorem mapBusyDetail_none (same : ¬ MapChange s c) : mapBusyDetail s c = 0 :=
  if_pos (mt (isMapChange_iff s c).mp same)

theorem index_reached (i j : Half) : (i - j).toNat = 0 ↔ i = j := by
  refine ⟨fun h => ?_, fun h => by rw [h, BitVec.sub_self]; rfl⟩
  bv_omega

theorem mapBusyDetail_detailed (change : MapChange s c) : Detailed (mapBusyChecks s) (mapBusyDetail s c) := by
  have ret : returnUnread s ≠ 0 ↔ ¬ s.ret.producer = s.ret.consumer := not_congr (index_reached _ _)
  have account : accountUnread s ≠ 0 ↔ ¬ s.account.producer = s.account.consumer := not_congr (index_reached _ _)
  rw [mapBusyDetail, if_neg (Classical.not_not.mpr ((isMapChange_iff s c).mpr change))]
  exact .cons Iff.rfl (.cons ret (.cons account .nil))

/-! ## The ticket, case by case -/

section
variable (hx : Examined .restart t s) (prof1 prof0 : Level)
include hx

theorem exec_restart : exec (.restart prof1 prof0) s =
    .next (settle s (restartTicket (profileOf prof1 prof0) s t)) :=
  congrArg (fun x => Host.Outcome.next (settle s x)) (examine_own hx (restartTicket (profileOf prof1 prof0) s))

/-- A RESTART that completes, its barrier down. -/
theorem restart_refused (hw : TailWaits s) {o : OutcomeCode} {d : Nat}
    (refuses : restartTicket (profileOf prof1 prof0) s t = completeHead t o 255 d s) :
    ∃ u, exec (.restart prof1 prof0) s = .next u ∧ u.tickets = { withoutHead s.tickets with barrier := false }
      ∧ Handed [completionOf t o 255 d s.ms] s u ∧ Only headParts s u := by
  have run := exec_restart hx prof1 prof0
  rw [refuses] at run
  obtain ⟨tickets, handed, only⟩ := settle_completeHead_only hx.2.1 hw o 255 d
  exact ⟨_, run, tickets, handed, only⟩

end

theorem restartTicket_busy (first : FirstFailing (busyChecks s) d) :
    restartTicket profile s t = completeHead t .busy 255 d s := by
  have busy : busyDetail s = d := (busyDetail_detailed s).fails d first
  have number := firstFailing_mem first
  refine (if_pos ?_).trans (by rw [busy])
  rintro none
  rw [busy] at none
  rw [none] at number
  simp [busyChecks] at number

theorem restartTicket_idle (idle : AllHold (busyChecks s)) : restartTicket profile s t =
    if s.settings.configure.isSome then s
    else if ticketFlag t 0 then beginReload (ticketTag t) profile (startHead s)
    else restartHeld t profile s := if_neg (Classical.not_not.mpr ((busyDetail_detailed s).passes idle))

theorem restartTicket_held (idle : AllHold (busyChecks s)) (free : s.settings.configure = none) (flag : ticketFlag t 0 = false)
    (candidate : heldCandidate profile s = some c) : restartTicket profile s t =
      if mapBusyDetail s c ≠ 0 then completeHead t .mapBusy 255 (mapBusyDetail s c) s
      else takeEffect (ticketTag t) c (popHead s) := by
  rw [restartTicket_idle idle, if_neg (by rw [free]; decide), if_neg (by rw [flag]; decide), restartHeld, candidate]

theorem mapBusyDetail_ne (change : MapChange s c) (first : FirstFailing (mapBusyChecks s) d) :
    mapBusyDetail s c = d ∧ d ≠ 0 := by
  refine ⟨(mapBusyDetail_detailed change).fails d first, ?_⟩
  rintro rfl
  have number := firstFailing_mem first
  simp [mapBusyChecks] at number

/-- The settings unit of a RESTART that reads the EEPROM anew. -/
def reloading (tag : Half) (profile : Nat) (z : SettingsUnit) : SettingsUnit :=
  { z with
    startup := .loading
    loading := some { reading := .mapSection, failed := 0, retryAt := none, map := none }
    restart := some { tag := tag, leftFrom := z.startup, profile := profile, candidate := none }
    i2c := z.i2c ++ [.read 0x56 0 64] }

theorem restart_reloads (hx : Examined .restart t s) (hw : TailWaits s) (prof1 prof0 : Level) (idle : AllHold (busyChecks s))
    (free : s.settings.configure = none) (flag : ticketFlag t 0 = true) :
    ∃ u, exec (.restart prof1 prof0) s = .next u
      ∧ u.settings = reloading (ticketTag t) (3 * levelNumber prof1 + levelNumber prof0) s.settings
      ∧ u.tickets = withoutHead s.tickets
      ∧ u.link = { SensorLink.fullReset with exchange := s.link.exchange, discard := s.link.exchange.isSome }
      ∧ Only [.settings, .tickets, .link] s u := by
  have run := exec_restart hx prof1 prof0
  rw [restartTicket_idle idle, if_neg (by rw [free]; decide), if_pos flag, startHead_waits s hw] at run
  let x := beginReload (ticketTag t) (profileOf prof1 prof0) (popHead s)
  have settings : (settle s x).settings = x.settings := settle_get s x .settings (by decide)
  have frame := ((popHead_changes s).mono (qs := [.settings, .tickets, .link]) (by decide)).trans
    ((beginReload_changes (ticketTag t) (profileOf prof1 prof0) (popHead s)).mono (by decide))
  have edge : (roundEdge s x).link = x.link := roundEdge_link s x
  have startup : (roundEdge s x).settings = x.settings := roundEdge_settings s x
  have link : (settle s x).link = x.link := by
    have out : ¬ (inService (roundEdge s x) = true ∧ (roundEdge s x).link.exchange = none) := by
      rintro ⟨service, -⟩
      rw [inService_congr startup] at service
      exact Bool.noConfusion service
    rw [settle_link, startExchange, if_neg out, edge]
  exact ⟨_, run, settings, settle_get s x .tickets (by decide), link, frame.settle_only⟩

/-! ## A RELOAD that is refused -/

theorem reloadEnds_held {r : Restart} (held : s.settings.restart = some r) (stands : r.candidate = some c) :
    reloadEnds s = if mapBusyDetail s c ≠ 0 then refuseReload r (mapBusyDetail s c) s else takeEffect r.tag c s := by
  rw [reloadEnds, held]
  simp only [stands]

theorem reload_refused {r : Restart} (held : s.settings.restart = some r) (stands : r.candidate = some c)
    (change : MapChange s c) (first : FirstFailing (mapBusyChecks s) d) :
    ∃ u, exec .restartTakeEffect s = .next u
      ∧ u.settings = { s.settings with startup := r.leftFrom, restart := none, profileDue := s.ms + 100 }
      ∧ u.tickets = { s.tickets with barrier := false }
      ∧ Handed [.completion 15 r.tag .mapBusy 255 d s.ms] { s with settings := u.settings } u
      ∧ Only ([.settings, .tickets, .rounds, .nextRound, .bars, .buttons] ++ handParts) s u := by
  obtain ⟨detail, nonzero⟩ := mapBusyDetail_ne change first
  have run : exec .restartTakeEffect s = .next (settle s (reloadEnds s)) := rfl
  rw [reloadEnds_held held stands, detail, if_pos nonzero] at run
  let y := dropBarrier (enterService r.leftFrom (setSettings { s.settings with restart := none } s))
  have refuses : refuseReload r d s = handReturn (.completion 15 r.tag .mapBusy 255 d s.ms) y := rfl
  have frame := handReturn_changes (.completion 15 r.tag .mapBusy 255 d s.ms) y
  have settings : (settle s (handReturn (.completion 15 r.tag .mapBusy 255 d s.ms) y)).settings =
      { s.settings with startup := r.leftFrom, restart := none, profileDue := s.ms + 100 } :=
    (settle_get s _ .settings (by decide)).trans (frame.get .settings (by decide))
  have unhanded : HandsOver [] { s with settings :=
      { s.settings with startup := r.leftFrom, restart := none, profileDue := s.ms + 100 } } y := handsOver_same rfl rfl rfl
  have reached : Changes [.settings, .tickets, .rounds, .nextRound, .bars, .buttons] s y :=
    (((setSettings_changes _ s).mono (by decide)).trans ((enterService_changes r.leftFrom _).mono (by decide))).trans
      ((dropBarrier_changes _).mono (by decide))
  rw [refuses] at run
  refine ⟨_, run, settings, (settle_get s _ .tickets (by decide)).trans (frame.get .tickets (by decide)), ?_,
    ((reached.mono (by decide)).trans (frame.mono (by decide))).settle_only⟩
  rw [settings]
  exact (unhanded.trans (.hand _ _)).settle s

end

/-- Settles O18, its conditions examined in the order of their numbers. -/
theorem restartRefusedHeldOrReloads : Obligations.RestartRefusedHeldOrReloads := by
  refine ⟨fun s t prof1 prof0 hx hw => ?_, fun s r c d held stands change first => reload_refused held stands change first⟩
  intro refused
  refine ⟨fun d first => restart_refused hx prof1 prof0 hw (restartTicket_busy first), fun idle busy => ?_,
    fun idle free flag c candidate change d first => ?_, fun idle free flag => restart_reloads hx hw prof1 prof0 idle free flag⟩
  · refine exec_holds ?_
    rw [exec_restart hx, restartTicket_idle idle, if_pos busy]
  · obtain ⟨detail, nonzero⟩ := mapBusyDetail_ne change first
    refine restart_refused hx prof1 prof0 hw ?_
    rw [restartTicket_held idle free flag candidate, detail, if_pos nonzero]

end Sys2Proof.Machine
end

section
/-! SUPPORT. A warm restart that takes effect (11.5). -/
namespace Sys2Proof.Machine

section
variable {s x y b : State} {c : Candidate} {tag : Half}

/-- A link with nothing asked of it, its exchange aside, starts nothing. -/
theorem settle_emptyLink {e : Option Exchange} {d : Bool} (link : x.link = { SensorLink.fullReset with exchange := e, discard := d })
    (b : State) : (settle b x).link = x.link ∧ (settle b x).lamps = x.lamps := by
  have edge := roundEdge_link b x
  have still : startExchange (roundEdge b x) = roundEdge b x := by
    have none : nextExchange (roundEdge b x).link = none := by rw [edge, link]; rfl
    unfold startExchange
    rw [none]
    exact ite_self _
  have lamps : (settle b x).lamps = (startExchange (roundEdge b x)).lamps :=
    (statusChange_changes b _).lamps_eq (by decide)
  rw [settle_link, lamps, still]
  exact ⟨edge, (roundEdge_changes b x).lamps_eq (by decide)⟩

/-- The state in which a RESTART has taken effect, its records yet to be handed over. -/
def restarted (c : Candidate) (s : State) : State :=
  serviceBegun (reachedState c.settings) c (restartBlocks (isMapChange s c) c s)

theorem takeEffect_eq (tag : Half) (c : Candidate) (s : State) : takeEffect tag c s =
    stateEvent (complete 15 tag .done 255 (bitOf (isMapChange s c) 1) (restarted c s)) := by
  rw [restarted, ← serviceBegun_begins (by rfl)]
  rfl

theorem takeEffect_popHead (tag : Half) (c : Candidate) (s : State) : takeEffect tag c (popHead s) = takeEffect tag c s := by
  have same (change : Bool) : restartBlocks change c (popHead s) = restartBlocks change c s := by cases change <;> rfl
  have change : isMapChange (popHead s) c = isMapChange s c := rfl
  rw [takeEffect_eq, takeEffect_eq, restarted, restarted, change, same]

/-- The faults latched once a RESTART has taken effect. -/
def restartLatched (c : Candidate) : List LatchedFault :=
  (if c.mapBad then [.settingsMap] else []) ++ (if c.mechBad then [.settingsMech] else [])

theorem restarted_ret (c : Candidate) (s : State) :
    (restarted c s).ret = { restartReturn (isMapChange s c) s.ret with latched := restartLatched c } := by
  have latches : (restarted c s).ret = (latchLoading c (restartBlocks (isMapChange s c) c s)).ret := rfl
  rw [latches]
  generalize isMapChange s c = change
  unfold latchLoading restartLatched
  cases c.mapBad <;> cases c.mechBad <;> cases change <;> rfl

/-- The state that a RESTART hands its records over from, the counts and the latched set aside. -/
theorem restarted_handsOver (ret : ReturnUnit) (same : { restartReturn (isMapChange s c) s.ret with
      latched := restartLatched c } = { ret with tone := .silent }) :
    HandsOver [] { s with settings := (restarted c s).settings, ret := ret } (restarted c s) := by
  refine .unhanded ?_ rfl fun _ he => he
  rw [restarted_ret, same]

/-- The two records of a RESTART that takes effect. -/
theorem takeEffect_hands (tag : Half) (c : Candidate) (s : State) :
    HandsOver [.completion 15 tag .done 255 (bitOf (isMapChange s c) 1) s.ms,
      .event .state 0 (startupNumber (reachedState c.settings) + 256 * causeNumber .warmRestart) s.ms]
      (restarted c s) (takeEffect tag c s) := by
  rw [takeEffect_eq]
  have completes := HandsOver.hand (.completion 15 tag .done 255 (bitOf (isMapChange s c) 1) s.ms) (restarted c s)
  have settings := handReturn_settings (.completion 15 tag .done 255 (bitOf (isMapChange s c) 1) s.ms) (restarted c s)
  have ms : (handReturn (.completion 15 tag .done 255 (bitOf (isMapChange s c) 1) s.ms) (restarted c s)).ms = s.ms :=
    (handReturn_changes _ _).get .ms (by decide)
  refine completes.trans (rs' := [_]) ?_
  have tells := HandsOver.hand (.event .state 0 (startupNumber (reachedState c.settings) + 256 * causeNumber .warmRestart) s.ms)
    (handReturn (.completion 15 tag .done 255 (bitOf (isMapChange s c) 1) s.ms) (restarted c s))
  have event : stateEvent (handReturn (.completion 15 tag .done 255 (bitOf (isMapChange s c) 1) s.ms) (restarted c s)) =
      handReturn (.event .state 0 (startupNumber (reachedState c.settings) + 256 * causeNumber .warmRestart) s.ms)
        (handReturn (.completion 15 tag .done 255 (bitOf (isMapChange s c) 1) s.ms) (restarted c s)) := by
    rw [stateEvent, settings, raise, ms]
    rfl
  rw [← event] at tells
  exact tells

theorem takeEffect_frame (tag : Half) (c : Candidate) (s : State) : Changes handParts (restarted c s) (takeEffect tag c s) := by
  rw [takeEffect_eq]
  exact (complete_changes _ _ _ _ _ _).trans (stateEvent_changes _)

theorem volumeAt_restartVolumes {old new : MechSettings} (volumes : x.volumes = restartVolumes old new s.volumes) (slot : Nat) :
    volumeAt x slot = if old.dMin = new.dMin ∧ old.dMax = new.dMax then volumeAt s slot
      else (volumeAt s slot).map (clampDrive new) := by
  rw [volumeAt, volumes, restartVolumes]
  by_cases same : old.dMin = new.dMin ∧ old.dMax = new.dMax
  · rw [if_pos same, if_pos same]
    rfl
  · rw [if_neg same, if_neg same, volumeAt, List.getElem?_map]
    cases s.volumes.entries[slot]? <;> rfl

/-- R193: the sequencer of a RESTART that takes effect, homing when the settings are whole. -/
theorem restarted_seq (c : Candidate) (s : State) :
    (restarted c s).seq.arm = (if reachedState c.settings = .ready then .homing else .faulted)
      ∧ (restarted c s).seq.vacuum = false ∧ (restarted c s).seq.turn = none ∧ (restarted c s).seq.attend = false
      ∧ (restarted c s).seq.timer =
        if reachedState c.settings = .ready then some { kind := .homing, due := s.ms + 500 } else none := by
  have seq : (restarted c s).seq = if reachedState c.settings = .ready then { Sequencer.fullReset with
      arm := .homing, vacuum := false, armPhase := .none, platenPhase := .none, homing := .heads
      timer := some { kind := .homing, due := s.ms + 500 } } else Sequencer.fullReset := rfl
  rw [seq]
  by_cases ready : reachedState c.settings = .ready
  · rw [if_pos ready, if_pos ready, if_pos ready]
    exact ⟨rfl, rfl, rfl, rfl, rfl⟩
  · rw [if_neg ready, if_neg ready, if_neg ready]
    exact ⟨rfl, rfl, rfl, rfl, rfl⟩

/-- R192: what a RESTART that takes effect leaves at the end of the step. -/
theorem takeEffect_settle (tag : Half) (c : Candidate) (s : State) : RestartTaken tag c s (settle s (takeEffect tag c s)) := by
  have frame := takeEffect_frame tag c s
  have hands := takeEffect_hands tag c s
  have position : (takeEffect tag c s).position = (restarted c s).position := position_of_changes frame (by decide)
  have lamps : (takeEffect tag c s).lamps = (restarted c s).lamps := frame.lamps_eq (by decide)
  generalize takeEffect tag c s = x at frame hands position lamps
  have kept (p : Part) (out : p ∉ handParts) (settled : p ∉ endOfStep) : p.same (restarted c s) (settle s x) :=
    ((frame.mono (qs := handParts ++ endOfStep) fun _ => List.mem_append_left _).trans
      ((settle_changes s x).mono fun _ => List.mem_append_right _)) p (by simp [out, settled])
  obtain ⟨link, bars⟩ := settle_emptyLink (x := x) (frame.get .link (by decide)) s
  obtain ⟨⟨due, lastRound⟩, times⟩ := roundTimes_serviceBegun (b := s) (x := x) (reachedState_serves c.settings) position
    (congrArg SettingsUnit.startup (frame.get .settings (by decide))) (frame.get .ms (by decide))
  obtain ⟨-, checks⟩ := kept .rounds (by decide) (by decide)
  have settings : (settle s x).settings = (restarted c s).settings := kept .settings (by decide) (by decide)
  have tickets : (settle s x).tickets = restartTickets (isMapChange s c) s.tickets := kept .tickets (by decide) (by decide)
  have seq : (settle s x).seq = (restarted c s).seq := kept .seq (by decide) (by decide)
  have motion : (settle s x).motion = { s.motion with arm := none, platen := none } := kept .motion (by decide) (by decide)
  have account : (settle s x).account = if isMapChange s c then AccountUnit.fullReset else s.account :=
    kept .account (by decide) (by decide)
  have frames : (settle s x).frames = restartFrames (isMapChange s c) s.frames := kept .frames (by decide) (by decide)
  have volumes : (settle s x).volumes = restartVolumes (mechOf s) c.settings.mech s.volumes :=
    kept .volumes (by decide) (by decide)
  unfold RestartTaken
  intro startup
  obtain ⟨queue, barrier, outstanding⟩ : (settle s x).tickets.queue = [] ∧ (settle s x).tickets.barrier = false
      ∧ (settle s x).tickets.outstanding = s.tickets.outstanding := by
    rw [tickets]
    cases isMapChange s c <;> exact ⟨rfl, rfl, rfl⟩
  obtain ⟨arm, vacuum, turn, attend, timer⟩ := restarted_seq c s
  rw [← seq] at arm vacuum turn attend timer
  have tone : (settle s x).ret.tone = .silent := by
    have same : (settle s x).ret.tone = (restarted c s).ret.tone := kept .tone (by decide) (by decide)
    rw [same, restarted_ret]
    cases isMapChange s c <;> rfl
  have told (ret : ReturnUnit) (same : { restartReturn (isMapChange s c) s.ret with latched := restartLatched c } =
      { ret with tone := .silent }) :=
    ((restarted_handsOver (s := s) (c := c) ret same).trans hands).settle s
  rw [← settings] at told
  refine ⟨settings, queue, barrier, outstanding, kept .capture (by decide) (by decide), by rw [motion], by rw [motion],
    bars.trans lamps, kept .heads (by decide) (by decide), kept .fused (by decide) (by decide), due, lastRound, checks,
    fun slow => ?_, arm, vacuum, turn, attend, tone, kept .waitCount (by decide) (by decide), timer,
    link.trans (frame.get .link (by decide)), kept .foreignWrites (by decide) (by decide), kept .ms (by decide) (by decide),
    kept .memory (by decide) (by decide), ?_, volumeAt_restartVolumes volumes, fun change => ?_, fun same => ?_⟩
  · have rests : ¬ Fast (restartBlocks (isMapChange s c) c s) := by
      rintro (moves | moves | homes)
      · exact Bool.noConfusion moves
      · exact Bool.noConfusion moves
      · exact ArmState.noConfusion homes
    have homes : fastSampling x = true ↔ reachedState c.settings = .ready := by
      rw [fastSampling_iff, fast_of_changes frame (by decide) (by decide)]
      refine ⟨fun fast => ?_, fun ready => .inr (.inr ?_)⟩
      · rcases fast with moves | moves | homing
        · exact Bool.noConfusion moves
        · exact Bool.noConfusion moves
        · refine Classical.byContradiction fun other => ?_
          rw [← seq, arm, if_neg other] at homing
          exact ArmState.noConfusion homing
      · rw [← seq, arm, if_pos ready]
    refine (congrArg (fun p => p.2.2) (times (iff_of_false slow rests))).trans ?_
    show (if fastSampling x = true then s.ms + 1 else s.ms + 20) =
      if reachedState c.settings = .ready then s.ms + 1 else s.ms + 20
    by_cases ready : reachedState c.settings = .ready
    · rw [if_pos ready, if_pos (homes.mpr ready)]
    · rw [if_neg ready, if_neg (mt homes.mp ready)]
  · rw [volumes, restartVolumes]
    split <;> rfl
  · have changed := (isMapChange_iff s c).mpr change
    rw [changed] at tickets account frames told
    rw [tickets]
    exact ⟨rfl, rfl, rfl, account, frames, told _ rfl⟩
  · have unchanged : isMapChange s c = false := Bool.eq_false_iff.mpr (mt (isMapChange_iff s c).mp same)
    rw [unchanged] at tickets account frames told
    rw [tickets]
    exact ⟨rfl, rfl, rfl, account, frames, told _ rfl⟩

theorem mapBusyDetail_free (free : MapFree s c) : mapBusyDetail s c = 0 := by
  by_cases change : MapChange s c
  · exact (mapBusyDetail_detailed change).passes (free change)
  · exact mapBusyDetail_none change

end

/-- Settles O17: a RESTART and a RELOAD take effect alike, through `takeEffect_settle`. -/
theorem restartTakesEffect : Obligations.RestartTakesEffect := by
  refine ⟨fun s t prof1 prof0 c hx flag idle free candidate unchanged => ?_, fun s r c held stands unchanged => ?_⟩
  · have run := exec_restart hx prof1 prof0
    rw [restartTicket_held idle free flag candidate, if_neg (Classical.not_not.mpr (mapBusyDetail_free unchanged)),
      takeEffect_popHead] at run
    exact ⟨_, run, takeEffect_settle (ticketTag t) c s⟩
  · have run : exec .restartTakeEffect s = .next (settle s (reloadEnds s)) := rfl
    rw [reloadEnds_held held stands, if_neg (Classical.not_not.mpr (mapBusyDetail_free unchanged))] at run
    exact ⟨_, run, takeEffect_settle r.tag c s⟩

end Sys2Proof.Machine
end
